-- ==== Sys2Proof/Word.lean ====
section
/-! DEFINITION. The words of the KG24: a word of the memory path and of the service window has 32 bits
(spec/00_scope.md "Words and lanes", spec/11_formats.md). -/

namespace Sys2Proof

/-- A 32-bit word (00 "Word": a group of 32 bits made of four lanes). -/
abbrev Word := BitVec 32

/-- The set of lanes a write carries; bit n is lane n (00 "Lane", R50). -/
abbrev Lanes := BitVec 4

/-- A byte address of the memory path, 26 bits, the two low bits zero (00 "Memory addresses"). -/
abbrev MemAddr := BitVec 26

/-- A word address of the service window (00 "Service addresses"). -/
abbrev ServiceAddr := BitVec 16

end Sys2Proof
end

