-- ==== Sys2Proof/Syntax.lean ====
section
/-! DEFINITION. The commands of the KG24: one constructor for each row of spec/opcode_table.json, with the operands the rules
of spec/ give the command. The table itself lists no operands. -/

namespace Sys2Proof

/-- What another block takes at the moment of a decision, of an event or of the end of a forward, among the things that these hand
out: TICK, TIMER_EXPIRY, MEASURE_OVERDUE, GATE_HOLD_OFF_END or EV_PIN_CHANGE (R46, R86, R106; log 26). -/
inductive Meeting where
  | tick
  | expiry (t : Fin 8)
  | overdue (t : Fin 8)
  | holdOffEnd
  | pin (e : Fin 2) (level : Bool)
  deriving DecidableEq, Repr

/-- A change of the pin of an input to a level (R137). `inside` is no part of the change: it names what falls among the things that
an effective event of it hands out (log 26). -/
structure PinChange where
  level : Bool
  inside : List Meeting
  deriving DecidableEq, Repr

/-- What the owners of the state may take at the moments of a transaction (log 26). `inside` falls among the things that its decision
hands out (R86, R106), and `atEnd` among those that the end of its forward hands out together with the end of a drain (R91, R106).
The others are taken between the decision and the changes of rule states that follow it (R20, R45, R149): TIMER_EXPIRY,
MEASURE_OVERDUE, EV_PIN_CHANGE, TICK, ENABLE or DISABLE at the decision's own moment. -/
inductive Between where
  | expiry (t : Fin 8)
  | overdue (t : Fin 8)
  | pin (e : Fin 2) (change : PinChange)
  | tick
  | enable (r : Fin 24)
  | disable (r : Fin 24)
  | inside (m : Meeting)
  | atEnd (m : Meeting)
  deriving DecidableEq, Repr

/-- What the controller presents at the upstream port (R50): a READ of a word, or a WRITE with the lanes it carries
and the data. `addr` is the word address, bits 25 to 2 of the byte address. `between` is no part of the request: it names what
falls at the moments of the transaction that the request becomes (log 26). -/
inductive Request where
  | read (addr : BitVec 24) (between : List Between)
  | write (addr : BitVec 24) (lanes : Lanes) (data : Word) (between : List Between)
  deriving DecidableEq, Repr

/-- How memory ends a downstream access (R51): OK, for a read with the word read, or MEMERR.
For a write the word of `ok` has no meaning and is not used. -/
inductive Completion where
  | ok (data : Word)
  | memErr
  deriving DecidableEq, Repr

/-- The frame kind that byte 0 of a header names (R174). The codes of READ and WRITE are not in the spec (log 10);
`unnamed` is any byte that names neither. -/
inductive HeaderKind where
  | read
  | write
  | unnamed
  deriving DecidableEq, Repr

/-- The definition words of a rule entry (R1, R15), at +0 to +6 of the entry (R189). -/
inductive RuleWord where
  | control
  | base
  | limit
  | dataMask
  | reference
  | fill
  | quotaArming
  deriving DecidableEq, Repr

/-- The two writable configuration words of a timer channel (R114), at +0 and +1 of its block (R189). -/
inductive TimerWord where
  | configuration
  | reload
  deriving DecidableEq, Repr

/-- The commands, one for each row of the table, in the table's order. -/
inductive Instr where
  /-- UPSTREAM_REQUEST (R52): the controller presents a request. -/
  | upstreamRequest (r : Request)
  /-- REQUEST_WITHDRAWN (R50). -/
  | requestWithdrawn
  /-- HELD_REQUEST_TAKEN (R52): the last hold has ended and the held request is taken. -/
  | heldRequestTaken
  /-- PREREAD_COMPLETE (R60). -/
  | prereadComplete (c : Completion)
  /-- FORWARD_COMPLETE (R63). -/
  | forwardComplete (c : Completion)
  /-- RESPONSE_LIMIT_EXPIRY (R66). -/
  | responseLimitExpiry
  /-- SECOND_LIMIT_EXPIRY (R67). -/
  | secondLimitExpiry
  /-- STRAY_COMPLETION (R67). -/
  | strayCompletion (c : Completion)
  /-- COMPLETION_IGNORED (R70). -/
  | completionIgnored (c : Completion)
  /-- URST_ASSERT (R73). -/
  | urstAssert
  /-- URST_DEASSERT (R52). -/
  | urstDeassert
  /-- POWER_ON_RESET (R183). -/
  | powerOnReset
  /-- PART_RESET (R75): RST is asserted. -/
  | partReset
  /-- LOADING_END (R184). -/
  | loadingEnd
  /-- TICK (R105): the tick period in progress ends. -/
  | tick
  /-- TIMER_EXPIRY (R120) of channel t. -/
  | timerExpiry (t : Fin 8)
  /-- MEASURE_OVERDUE (R126) of channel t. -/
  | measureOverdue (t : Fin 8)
  /-- EV_PIN_CHANGE (R137): the pin of input e changes to the level given. -/
  | evPinChange (e : Fin 2) (change : PinChange)
  /-- PFAIL_ASSERT (R151). -/
  | pfailAssert
  /-- PFAIL_DEASSERT (R157). -/
  | pfailDeassert
  /-- GATE_DRAIN_END (R155). -/
  | gateDrainEnd
  /-- GATE_HOLD_OFF_END (R158). -/
  | gateHoldOffEnd
  /-- ALERT_PULSE_END (R170). -/
  | alertPulseEnd
  /-- SERVICE_FRAME_HEADER (R174): SCS_N falls and the four header bytes are clocked in. -/
  | serviceFrameHeader (kind : HeaderKind) (addr : ServiceAddr) (count : BitVec 8)
  /-- REGISTER_WRITE (R177): a complete write word at the current address of the WRITE frame. -/
  | registerWrite (v : Word)
  /-- RULE_DEFINITION_WRITE (R15). -/
  | ruleDefinitionWrite (r : Fin 24) (w : RuleWord) (v : Word)
  /-- ENABLE (R16). -/
  | enable (r : Fin 24)
  /-- DISABLE (R18). -/
  | disable (r : Fin 24)
  /-- CLEAR_HITS (R19). -/
  | clearHits (r : Fin 24)
  /-- DEFAULT_ACTIONS_WRITE (R35). -/
  | defaultActionsWrite (v : Word)
  /-- UNMATCHED_CAPTURE_WRITE (R36). -/
  | unmatchedCaptureWrite (v : Word)
  /-- RESPONSE_LIMIT_WRITE (R65). -/
  | responseLimitWrite (v : Word)
  /-- QUEUE_CONFIGURATION_WRITE (R78). -/
  | queueConfigurationWrite (n : Fin 4) (v : Word)
  /-- QUEUE_ON (R79). -/
  | queueOn (n : Fin 4)
  /-- QUEUE_OFF (R80). -/
  | queueOff (n : Fin 4)
  /-- FLUSH (R96). -/
  | flush (n : Fin 4)
  /-- POP_WINDOW_READ (R92): the first word of the pop window of queue n that the READ frame reaches. -/
  | popWindowRead (n : Fin 4)
  /-- POP_REMOVE (R93): word 5 of the pop window of queue n is clocked out whole. -/
  | popRemove (n : Fin 4)
  /-- PEEK (R95): the first word of the peek window of queue n that the READ frame reaches. -/
  | peek (n : Fin 4)
  /-- TB_START (R108). -/
  | tbStart
  /-- TB_STOP (R109). -/
  | tbStop
  /-- TIMEBASE_CONFIGURATION_WRITE (R110). -/
  | timebaseConfigurationWrite (v : Word)
  /-- TIMESTAMP_PRESET (R110). -/
  | timestampPreset (v : Word)
  /-- TIMER_CONFIGURATION_WRITE (R114), of the configuration word or of the reload word. -/
  | timerConfigurationWrite (t : Fin 8) (w : TimerWord) (v : Word)
  /-- START (R116). -/
  | start (t : Fin 8)
  /-- STOP (R117). -/
  | stop (t : Fin 8)
  /-- PRESET (R118). -/
  | preset (t : Fin 8)
  /-- INPUT_CONFIGURATION_WRITE (R135). -/
  | inputConfigurationWrite (e : Fin 2) (v : Word)
  /-- GATE_HOLD (R152). -/
  | gateHold
  /-- GATE_RELEASE (R152). -/
  | gateRelease
  /-- GATE_CONFIGURATION_WRITE (R153). -/
  | gateConfigurationWrite (v : Word)
  /-- CLEAR_FLAGS (R165). -/
  | clearFlags (v : Word)
  /-- ALERT_ENABLE_WRITE (R166). -/
  | alertEnableWrite (v : Word)
  /-- ALERT_CONFIGURATION_WRITE (R167). -/
  | alertConfigurationWrite (v : Word)
  /-- LOCK_WORD_WRITE (R179). -/
  | lockWordWrite (v : Word)
  /-- ACCESS_CODE_WRITE (R180). -/
  | accessCodeWrite (v : Word)
  /-- SAVE (R185). -/
  | save
  /-- SAVE_END (R185). -/
  | saveEnd
  /-- RESTART (R187). -/
  | restart
  /-- RESTART_TAKES_EFFECT (R54). -/
  | restartTakesEffect
  /-- PATH_RESET (R188). -/
  | pathReset
  /-- SCS_N_RISE (R174). -/
  | scsNRise
  /-- RST_DEASSERT (R183). -/
  | rstDeassert
  /-- LOSS_OF_POWER (R186). -/
  | lossOfPower
  deriving DecidableEq, Repr

end Sys2Proof
end

