-- ==== Sys2Proof/WellFormed.lean ====
section
/-! DEFINITION. Which commands the spec allows. Register numbers are in range by their types; two checks are left. -/

namespace Sys2Proof

/-- A WRITE carries one to four lanes (R50, 00 "Reads and writes"). -/
def Request.wf : Request → Bool
  | .read _ _ => true
  | .write _ lanes _ _ => lanes != 0

/-- A write of the control word is a definition write only with the request field, bits 21:20, set to NONE (R15). -/
def RuleWord.wf : RuleWord → Word → Bool
  | .control, v => v.extractLsb' 20 2 == 0#2
  | _, _ => true

/-- The command is one the spec allows. -/
def Instr.wf : Instr → Bool
  | .upstreamRequest r => r.wf
  | .ruleDefinitionWrite _ w v => w.wf v
  | _ => true

end Sys2Proof
end

