-- ==== Sys2Proof/Config.lean ====
section
/-! DEFINITION. What the spec leaves free. Each constant has no body, so nothing in Lean can evaluate it or prove
a value of it: a claim holds whatever it is. -/

namespace Sys2Proof

/-- Free order (log 5). Where several things fall inside one step and the spec lets their owner take them
in either order (R86, R91, R105, R124, R128, R141), they are put in an order drawn from
`raceKey draw`, `draw` being the counter of State. Every order of the things is given by some key. -/
opaque Config.raceKey : Nat → Nat → Nat

/-- Free function (log 6): the 32-bit check value the store computes over an image, given as its words.
R182 says that it is computed over all of the image and not how. -/
opaque Config.checkValue : List Word → Word

/-- Free choice (log 7): which parts of a torn image hold the new copy after an abandoned save. R186 says that
part of it holds the new copy and part the old image, and not which. The first argument is a draw, the
second the number of the part. -/
opaque Config.tornNew : Nat → Nat → Bool

end Sys2Proof
end

