-- ==== Sys2Proof/Machine/State.lean ====
section
/-! DEFINITION. The state of the KG24, block by block, as plain data, with its reset value, and the reasons a step can stop.
Configuration words are held as the service window reads them (bits no layout names are zero, R189). -/

namespace Sys2Proof.Machine

/-! ### Records (04, sections 4.2 and 4.5) -/

/-- READ or WRITE (R50). -/
inductive AccessKind where
  | read
  | write
  deriving DecidableEq, Repr

/-- The content of a capture (R6, R98). -/
inductive Content where
  | addressOnly
  | withData
  | withBefore
  deriving DecidableEq, Repr

/-- The nine outcomes of a transaction (R48). -/
inductive TxnOutcome where
  | completed
  | discarded
  | refused
  | auditRefused
  | memoryError
  | timeout
  | pathDown
  | gated
  | abandoned
  deriving DecidableEq, Repr

/-- The mode of a watch timer channel (R113). -/
inductive TimerMode where
  | oneshot
  | repeating
  | retrigger
  | measure
  deriving DecidableEq, Repr

/-- The cause field of a GATE_CLOSED record (R101, R156). -/
inductive GateCause where
  | power
  | service
  deriving DecidableEq, Repr

/-- The fault type of a PATH_FAULT record (R71). -/
inductive PathFaultType where
  | timeout
  | downEntered
  deriving DecidableEq, Repr

/-- The fields of an ACCESS record (R98, R99). `outcome` is none while the record is PENDING (R82). -/
structure AccessRecord where
  /-- rule 0 to 23, or 24 for the unmatched capture (R97) -/
  source : Fin 25
  number : BitVec 16
  kind : AccessKind
  lanes : Lanes
  addr : MemAddr
  content : Content
  overQuota : Bool
  data : Option Word
  before : Option Word
  outcome : Option TxnOutcome
  deriving DecidableEq, Repr

/-- What a record of each kind carries (R97 to R101). NONE is no record: it is the copy of R92. -/
inductive RecordBody where
  | access (a : AccessRecord)
  | timerExpiry (t : Fin 8) (mode : TimerMode)
  | timerInterval (t : Fin 8) (interval : BitVec 16)
  | inputEvent (e : Fin 2) (count : BitVec 8) (level : Bool)
  | gateClosed (cause : GateCause)
  | gateOpened (refused : BitVec 16)
  | pathFault (type : PathFaultType) (number : BitVec 16) (addr : MemAddr)
  deriving DecidableEq, Repr

/-- A record in a queue. `serial` is the model's own number of the placement, so that two records whose fields are
all equal stay two records (R77, R94; log 16). -/
structure Record where
  serial : Nat
  timestamp : BitVec 32
  body : RecordBody
  deriving DecidableEq, Repr

/-! ### Capture queue store (04) -/

/-- One queue: configuration word, ON or OFF, loss count, and the list, oldest first (R77). -/
structure Queue where
  config : Word
  on : Bool
  loss : BitVec 16
  list : List Record
  deriving DecidableEq, Repr

/-- A pop window or a peek window (section 4.4). -/
inductive WindowKind where
  | pop
  | peek
  deriving DecidableEq, Repr

/-- The read-out copy of the frame being served (R92): its window, whether the frame reached the window at word 0 (R93),
and the record, none for a copy of kind NONE. -/
structure ReadCopy where
  window : WindowKind
  queue : Fin 4
  fromStart : Bool
  record : Option Record
  deriving DecidableEq, Repr

/-! ### Rule table (01) -/

/-- The definition words of an entry (R1). -/
structure RuleDef where
  control : Word
  base : Word
  limit : Word
  dataMask : Word
  reference : Word
  fill : Word
  quotaArming : Word
  deriving DecidableEq, Repr

/-- DISABLED, DORMANT or LIVE (R9). -/
inductive RuleState where
  | disabled
  | dormant
  | live
  deriving DecidableEq, Repr

/-- A rule entry: its definition and its runtime state (R1, R9 to R14). -/
structure Rule where
  defn : RuleDef
  state : RuleState
  hits : BitVec 16
  window : BitVec 12
  overQuota : Bool
  countdown : BitVec 8
  alerted : Bool
  deriving DecidableEq, Repr

/-! ### Path controller (03) -/

/-- The phase of the transaction in flight (R57). -/
inductive Phase where
  | idle
  | preread
  | forward
  deriving DecidableEq, Repr

/-- The downstream port (section 3.4). -/
inductive PortState where
  | ready
  | busy
  | late
  | down
  deriving DecidableEq, Repr

/-- A taken transaction: what PTC captured at the taking (R50) and its number (R55). `data` is the written word with
uncarried lanes zero (R25); for a READ `lanes` is all four and `data` is zero. `between` is what falls at its moments: once it
is decided, at the end of its forward alone (log 26). -/
structure Txn where
  number : BitVec 16
  kind : AccessKind
  addr : MemAddr
  lanes : Lanes
  data : Word
  between : List Between
  deriving DecidableEq, Repr

/-- The response on the upstream port (R50). -/
inductive Answer where
  | done
  | doneData (data : Word)
  | error
  deriving DecidableEq, Repr

/-- The path controller (section 3 of 03, R56, R65). -/
structure Path where
  phase : Phase
  txn : Option Txn
  abandoned : Bool
  held : Option Request
  number : BitVec 16
  port : PortState
  /-- the limit period running, with the limit it was started with (R65) -/
  limitTimer : Option (BitVec 12)
  /-- number and address of the transaction whose access expired, while the port is LATE (R71) -/
  expired : Option (BitVec 16 × MemAddr)
  restartHold : Bool
  limitWord : Word
  /-- the last response given upstream, none once the next request is presented (log 16) -/
  answer : Option Answer
  deriving DecidableEq, Repr

/-! ### Timebase (05) -/

/-- The tick period in progress (R104): none, one that begins at the next REFCLK period after TB_START (R108),
or one in progress with its length in REFCLK periods. -/
inductive TickPeriod where
  | none
  | starting
  | running (length : Nat)
  deriving DecidableEq, Repr

/-- The timebase (05). -/
structure Timebase where
  config : Word
  running : Bool
  accumulator : BitVec 4
  period : TickPeriod
  timestamp : BitVec 32
  tapCount : BitVec 16
  deriving DecidableEq, Repr

/-! ### Watch timers (06) -/

/-- The state of a channel (R113). -/
inductive TimerState where
  | stopped
  | running
  | lapsed
  | waiting
  deriving DecidableEq, Repr

/-- One watch timer channel (06). `tickOwed` is set from the tick that brings an expiry to TIMER_EXPIRY or
MEASURE_OVERDUE (log 4). -/
structure Timer where
  config : Word
  reload : BitVec 16
  state : TimerState
  counter : BitVec 16
  last : BitVec 16
  minimum : BitVec 16
  maximum : BitVec 16
  tickOwed : Bool
  deriving DecidableEq, Repr

/-! ### Event inputs (07) -/

/-- The sampler of an enabled input (R136 to R138). -/
structure Sampler where
  seen : Bool
  oldest : Bool
  middle : Bool
  newest : Bool
  deriving DecidableEq, Repr

/-- One event input (07). The sampler is none while the input is disabled (R136). -/
structure EventInput where
  config : Word
  sampler : Option Sampler
  count : BitVec 8
  lastEvent : BitVec 32
  deriving DecidableEq, Repr

/-! ### Write gate (08) -/

/-- The gate state (section 8.2). -/
inductive GateState where
  | opened
  | draining
  | closed
  | reopening
  deriving DecidableEq, Repr

/-- The write gate (08). `tickOwed` is set from the tick that brings the hold-off to 0 to GATE_HOLD_OFF_END (log 4). -/
structure Gate where
  state : GateState
  /-- PFAIL as last taken (R151) -/
  pfail : Bool
  hold : Bool
  powerSeen : Bool
  inFlight : Bool
  refused : BitVec 16
  holdOff : BitVec 8
  holdOffTap : BitVec 3
  config : Word
  tickOwed : Bool
  deriving DecidableEq, Repr

/-! ### Alert controller (09) -/

/-- Where ALC's tap tick of the last tick stands against pulse starts (R105, R170; log 14). Between commands it is `unplaced` or
`taken`. -/
inductive LastTick where
  /-- a pulse start of an effect that the last tick has caused may still come before it -/
  | unplaced
  /-- it has been taken; every later pulse start comes after it -/
  | taken
  /-- inside a command: the command's pulse starts do not count it, since it came before them or is still to come -/
  | before
  /-- inside a command: the command's pulse starts come before it and count it -/
  | after
  /-- inside a command: it has been counted on a counter that the command has loaded -/
  | counted
  deriving DecidableEq, Repr

/-- The alert controller (09). `tickOwed` is set from the tick that brings the pulse to 0 to ALERT_PULSE_END (log 4).
`lastTick` is the place of the last tick among the pulse starts (log 14). -/
structure Alert where
  flags : BitVec 23
  enables : BitVec 23
  config : Word
  pulse : BitVec 8
  pulseTap : BitVec 3
  line : Bool
  tickOwed : Bool
  lastTick : LastTick
  deriving DecidableEq, Repr

/-! ### Service link and configuration store (10) -/

/-- READ or WRITE frame (R174). -/
inductive FrameKind where
  | read
  | write
  deriving DecidableEq, Repr

/-- The frame state (R174): IDLE, HEADER, DATA with the kind, the address of the next word and the words remaining,
or the rest of a void frame. -/
inductive Frame where
  | idle
  | header
  | data (kind : FrameKind) (addr : ServiceAddr) (left : Nat)
  | void
  deriving DecidableEq, Repr

/-- The result of a write word (R177, R178). -/
inductive Status where
  | accepted
  | locked
  | busy
  | active
  | invalid
  | address
  deriving DecidableEq, Repr

/-- The service link (10). -/
structure Link where
  frame : Frame
  locked : Bool
  code : Word
  status : Status
  pendingMark : Bool
  deriving DecidableEq, Repr

/-- A rule in the stored image: definition fields and whether it is enabled (R182). -/
structure RuleImage where
  defn : RuleDef
  enabled : Bool
  deriving DecidableEq, Repr

/-- A queue in the stored image (R182). -/
structure QueueImage where
  config : Word
  on : Bool
  deriving DecidableEq, Repr

/-- A timer channel in the stored image (R182). -/
structure TimerImage where
  config : Word
  reload : BitVec 16
  started : Bool
  deriving DecidableEq, Repr

/-- The stored image without its check value (R182). The enable of an input is bit 0 of its configuration word. -/
structure Image where
  rules : Vector RuleImage 24
  queues : Vector QueueImage 4
  timers : Vector TimerImage 8
  inputs : Vector Word 2
  gate : Word
  alertEnables : BitVec 23
  alert : Word
  timebase : Word
  timebaseRunning : Bool
  defaultActions : Word
  unmatched : Word
  limitWord : Word
  code : Word
  deriving DecidableEq, Repr

/-- The store state (R183, R185). -/
inductive StoreState where
  | idle
  | loading
  | saving
  deriving DecidableEq, Repr

/-- The save result (R185, R186). -/
inductive SaveResult where
  | none
  | complete
  | abandoned
  deriving DecidableEq, Repr

/-- The configuration store (10). `check` is none when the stored check value is void (R182). `copy` is the copy being
written by a save (R185). -/
structure Store where
  state : StoreState
  image : Image
  check : Option Word
  copy : Option Image
  /-- the load result is DEFAULTS (R181) -/
  loadDefaults : Bool
  saveResult : SaveResult
  deriving DecidableEq, Repr

/-- The levels of the input pins (00 "Pin list"). `scsLow` is true while SCS_N is low. -/
structure Pins where
  rst : Bool
  urst : Bool
  pfail : Bool
  scsLow : Bool
  ev : Vector Bool 2
  deriving DecidableEq, Repr

/-! ### The whole state -/

/-- The state of the part (00 "Block overview": each block owns its own state), the pins, and the queue of commands. -/
structure State where
  /-- power is applied (LOSS_OF_POWER, POWER_ON_RESET; log 9) -/
  powered : Bool
  pins : Pins
  path : Path
  /-- the default actions word (R35) -/
  defaultActions : Word
  /-- the unmatched capture word (R36) -/
  unmatched : Word
  rules : Vector Rule 24
  queues : Vector Queue 4
  /-- the read-out copy (R92) -/
  copy : Option ReadCopy
  /-- the model's own number of the next record (log 16) -/
  nextSerial : Nat
  timebase : Timebase
  timers : Vector Timer 8
  inputs : Vector EventInput 2
  gate : Gate
  alert : Alert
  link : Link
  store : Store
  /-- the model's own counter of free orders (log 5) -/
  draw : Nat
  /-- the commands that wait, first in first out -/
  pending : List Instr
  deriving DecidableEq, Repr

/-! ### Reset values -/

/-- Every definition word zero (R21). -/
def RuleDef.zero : RuleDef := ⟨0, 0, 0, 0, 0, 0, 0⟩

/-- R21. -/
def Rule.reset : Rule := ⟨.zero, .disabled, 0, 0, false, 0, false⟩

/-- R102: OFF, empty, loss count 0, depth 0, policy STOP, notify level 1; the word reads 0x00010000 (11.4). -/
def Queue.reset : Queue := ⟨0x00010000, false, 0, []⟩

/-- R75, and R65 for the response limit word: 1024 and no path record queue. -/
def Path.reset : Path :=
  ⟨.idle, none, false, none, 0, .ready, none, none, false, 0x00000400, none⟩

/-- R112: STOPPED, N = 1, K = 0. -/
def Timebase.reset : Timebase := ⟨1, false, 0, .none, 0, 0⟩

/-- R133. -/
def Timer.reset : Timer := ⟨0, 65535, .stopped, 65535, 0, 65535, 0, false⟩

/-- R144. -/
def EventInput.reset : EventInput := ⟨0, none, 0, 0⟩

/-- R162: OPEN, policy REFUSE, hold-off count 1, tap TAP0, no record queue; the word reads 0x00000100 (11.5). -/
def Gate.reset : Gate := ⟨.opened, false, false, false, false, 0, 0, 0, 0x00000100, false⟩

/-- R172: LEVEL, width 1, TAP0; the word reads 0x00000100 (11.5). -/
def Alert.reset : Alert := ⟨0, 0, 0x00000100, 0, 0, false, false, .taken⟩

/-- R178, R180: LOCKED, the null code, ACCEPTED with the marker clear. -/
def Link.reset : Link := ⟨.idle, true, 0, .accepted, false⟩

/-- The factory configuration as an image: the value of the image's storage at State.reset (DESIGN CHOICE, log 8). -/
def Image.factory : Image :=
  { rules := Vector.replicate 24 ⟨.zero, false⟩
    queues := Vector.replicate 4 ⟨0x00010000, false⟩
    timers := Vector.replicate 8 ⟨0, 65535, false⟩
    inputs := Vector.replicate 2 0
    gate := 0x00000100
    alertEnables := 0
    alert := 0x00000100
    timebase := 1
    timebaseRunning := false
    defaultActions := 0
    unmatched := 0
    limitWord := 0x00000400
    code := 0 }

/-- R183: LOADING, load result DEFAULTS, save result NONE. The part was never saved, so its check value is void (R182;
that it was never saved is log 8). -/
def Store.reset : Store := ⟨.loading, .factory, none, none, true, .none⟩

/-- Every pin inactive (DESIGN CHOICE, log 8). -/
def Pins.reset : Pins := ⟨false, false, false, false, Vector.replicate 2 false⟩

/-- The machine right after power-on reset: every block at its reset value and the store LOADING (R183). -/
def State.reset : State :=
  { powered := true
    pins := .reset
    path := .reset
    defaultActions := 0
    unmatched := 0
    rules := Vector.replicate 24 .reset
    queues := Vector.replicate 4 .reset
    copy := none
    nextSerial := 0
    timebase := .reset
    timers := Vector.replicate 8 .reset
    inputs := Vector.replicate 2 .reset
    gate := .reset
    alert := .reset
    link := .reset
    store := .reset
    draw := 0
    pending := [] }

/-! ### Stops -/

/-- No condition the spec describes stops the part with a fault: a refused access is an answer, a memory fault is an
outcome, a refused write is a status. So no constructor stands here. -/
inductive Fault
  deriving DecidableEq, Repr

/-- Why a command is refused. -/
inductive Refusal where
  /-- Raised by an arm of exec for a command that has no meaning yet. Safe: the model stops. -/
  | notModelled (mnemonic : String)
  /-- Raised by UPSTREAM_REQUEST for a WRITE that carries no lane, which is no request: a WRITE carries one to four lanes
  (R50). Safe: the model stops (log 19). -/
  | emptyLanes
  deriving DecidableEq, Repr

end Sys2Proof.Machine
end

