-- ==== Sys2Proof/Machine/Operands.lean ====
section
/-! DEFINITION. The fields of the words of the service window (spec/11_formats.md), the service addresses (R189), and the
lanes of a word (00 "Words and lanes"). -/

namespace Sys2Proof.Machine

/-! ### Bits of words -/

/-- The field of `len` bits that begins at bit `lo`. -/
def fld (w : Word) (lo len : Nat) : BitVec len := w.extractLsb' lo len

/-- Bit `i` of a word. -/
def wbit (w : Word) (i : Nat) : Bool := w.getLsbD i

/-- A value placed in a word from bit `lo` upward. -/
def place {n : Nat} (x : BitVec n) (lo : Nat) : Word := x.setWidth 32 <<< lo

/-- A flag placed in a word at bit `lo`. -/
def placeBit (b : Bool) (lo : Nat) : Word := (BitVec.ofBool b).setWidth 32 <<< lo

/-- A queue named by a two-bit field: 0 to 3 name Q0 to Q3. -/
def queueOf (c : BitVec 2) : Fin 4 := c.toFin

/-- The lanes of a word as a mask: lane n is bits 8n+7 to 8n (R28). -/
def laneMask (l : Lanes) : Word :=
  (if l.getLsbD 0 then 0x000000FF else 0) ||| (if l.getLsbD 1 then 0x0000FF00 else 0) |||
  (if l.getLsbD 2 then 0x00FF0000 else 0) ||| (if l.getLsbD 3 then 0xFF000000 else 0)

/-- The 26-bit byte address of a word address: its two low bits are zero (00 "Memory addresses"). -/
def byteAddr (a : BitVec 24) : MemAddr := a.setWidth 26 <<< 2

/-- One more, stopping at the maximum (00 "Saturating"). -/
def satInc {n : Nat} (x : BitVec n) : BitVec n := if x = BitVec.allOnes n then x else x + 1

/-! ### Which bits of a written word are stored (R189: bits no layout names are not stored) -/

def RuleDef.controlMask : Word := 0x0007FFFF
/-- Base and limit: bits 25 to 2 (R2). -/
def RuleDef.addrMask : Word := 0x03FFFFFC
def Queue.configMask : Word := 0x01FF31FF
def Timer.configMask : Word := 0x000F7F77
def EventInput.configMask : Word := 0x000003FF
def Gate.configMask : Word := 0x00F7FF03
def Alert.configMask : Word := 0x0007FF03
def Timebase.configMask : Word := 0x0000F1FF
def defaultActionsMask : Word := 0x00000033
def unmatchedMask : Word := 0x00000037
def Path.limitMask : Word := 0x000F0FFF

/-! ### Rule entry words (11.3) -/

/-- What a rule does with an access (R5). -/
inductive Action where
  | pass
  | discard
  | fault
  | audit
  | observe
  deriving DecidableEq, Repr

/-- The operators of a data condition (R4). -/
inductive CondOp where
  | eq
  | ne
  | gt
  | lt
  | changed
  deriving DecidableEq, Repr

/-- The arm source of a rule (R8), with its index as written. -/
inductive ArmSource where
  | none
  | rule (k : Nat)
  | timer (k : Nat)
  | input (k : Nat)
  deriving DecidableEq, Repr

/-- The disarm source of a rule (R8), with its value as written. -/
inductive DisarmSource where
  | none
  | hits (m : BitVec 8)
  | timer (k : Nat)
  | input (k : Nat)
  deriving DecidableEq, Repr

namespace RuleDef

def masked (d : RuleDef) : Bool := wbit d.control 0
def readKind (d : RuleDef) : Bool := wbit d.control 1
def writeKind (d : RuleDef) : Bool := wbit d.control 2
def opCode (d : RuleDef) : BitVec 3 := fld d.control 3 3
def entering (d : RuleDef) : Bool := wbit d.control 6
def actionCode (d : RuleDef) : BitVec 3 := fld d.control 7 3
def capture (d : RuleDef) : Bool := wbit d.control 10
def captureQueue (d : RuleDef) : Fin 4 := queueOf (fld d.control 11 2)
def contentCode (d : RuleDef) : BitVec 2 := fld d.control 13 2
def alertOnHit (d : RuleDef) : Bool := wbit d.control 15
def quota (d : RuleDef) : Bool := wbit d.control 16
def overCode (d : RuleDef) : BitVec 2 := fld d.control 17 2
def quotaLimit (d : RuleDef) : BitVec 12 := fld d.quotaArming 0 12
def windowTimer (d : RuleDef) : Fin 8 := (fld d.quotaArming 12 3).toFin
def armKind (d : RuleDef) : BitVec 2 := fld d.quotaArming 15 2
def armIndex (d : RuleDef) : BitVec 5 := fld d.quotaArming 17 5
def disarmKind (d : RuleDef) : BitVec 2 := fld d.quotaArming 22 2
def disarmValue (d : RuleDef) : BitVec 8 := fld d.quotaArming 24 8

/-- The operator, none when it is NONE or an unlisted code (R4, R192). -/
def op? (d : RuleDef) : Option CondOp :=
  match d.opCode.toNat with
  | 1 => some .eq
  | 2 => some .ne
  | 3 => some .gt
  | 4 => some .lt
  | 5 => some .changed
  | _ => none

/-- The action, none for an unlisted code. -/
def action? (d : RuleDef) : Option Action :=
  match d.actionCode.toNat with
  | 0 => some .pass
  | 1 => some .discard
  | 2 => some .fault
  | 3 => some .audit
  | 4 => some .observe
  | _ => none

/-- The over-quota action, none for the fourth code (R7). -/
def over? (d : RuleDef) : Option Action :=
  match d.overCode.toNat with
  | 0 => some .discard
  | 1 => some .fault
  | 2 => some .pass
  | _ => none

/-- The capture content, none for code 3. -/
def content? (d : RuleDef) : Option Content :=
  match d.contentCode.toNat with
  | 0 => some .addressOnly
  | 1 => some .withData
  | 2 => some .withBefore
  | _ => none

/-- The arm source (R8). -/
def armSource (d : RuleDef) : ArmSource :=
  match d.armKind.toNat with
  | 0 => .none
  | 1 => .rule d.armIndex.toNat
  | 2 => .timer d.armIndex.toNat
  | _ => .input d.armIndex.toNat

/-- The disarm source (R8). -/
def disarmSource (d : RuleDef) : DisarmSource :=
  match d.disarmKind.toNat with
  | 0 => .none
  | 1 => .hits d.disarmValue
  | 2 => .timer d.disarmValue.toNat
  | _ => .input d.disarmValue.toNat

/-- A condition is present when the operator is one of EQ, NE, GT, LT and CHANGED (R4). -/
def hasCondition (d : RuleDef) : Bool := d.op?.isSome

/-- The address is inside the extent (R2). -/
def inExtent (d : RuleDef) (a : MemAddr) : Bool :=
  let x : Word := a.setWidth 32
  if d.masked then x &&& d.limit == d.base &&& d.limit
  else decide (d.base.toNat ≤ x.toNat) && decide (x.toNat ≤ d.limit.toNat)

/-- The access kinds include the kind (R3). -/
def concerns (d : RuleDef) : AccessKind → Bool
  | .read => d.readKind
  | .write => d.writeKind

end RuleDef

/-! ### Queue, timer and input words (11.4) -/

namespace Queue
def depthOf (c : Word) : Nat := (fld c 0 9).toNat
def policyCode (c : Word) : BitVec 2 := fld c 12 2
def notifyOf (c : Word) : Nat := (fld c 16 9).toNat
def depth (q : Queue) : Nat := depthOf q.config
/-- Policy OVERWRITE; otherwise STOP (R77). -/
def overwrite (q : Queue) : Bool := policyCode q.config == 1
def notify (q : Queue) : Nat := notifyOf q.config
end Queue

/-- The trigger source of a channel (R113), with its index as written. -/
inductive TriggerSource where
  | none
  | rule (k : Nat)
  | input (k : Nat)
  deriving DecidableEq, Repr

namespace Timer
def modeCode (c : Word) : BitVec 3 := fld c 0 3
def tapCode (c : Word) : BitVec 3 := fld c 4 3
def triggerKind (c : Word) : BitVec 2 := fld c 8 2
def triggerIndex (c : Word) : BitVec 5 := fld c 10 5
/-- The mode. A stored mode code is 0 to 3, as every write is checked (R114); codes above 3 are never stored (log 18). -/
def mode (ch : Timer) : TimerMode :=
  match (modeCode ch.config).toNat with
  | 0 => .oneshot
  | 1 => .repeating
  | 2 => .retrigger
  | _ => .measure
def tap (ch : Timer) : BitVec 3 := tapCode ch.config
/-- The trigger source (R113). -/
def trigger (ch : Timer) : TriggerSource :=
  match (triggerKind ch.config).toNat with
  | 0 => .none
  | 1 => .rule (triggerIndex ch.config).toNat
  | _ => .input (triggerIndex ch.config).toNat
/-- The record queue, if present. -/
def recordQueue (ch : Timer) : Option (Fin 4) :=
  if wbit ch.config 16 then some (queueOf (fld ch.config 17 2)) else none
def recordIntervals (ch : Timer) : Bool := wbit ch.config 19
end Timer

namespace EventInput
def filterCode (c : Word) : BitVec 3 := fld c 2 3
def queueCode (c : Word) : BitVec 3 := fld c 7 3
def enabled (i : EventInput) : Bool := wbit i.config 0
/-- Edge FALLING; otherwise RISING (R135). -/
def falling (i : EventInput) : Bool := wbit i.config 1
/-- The tap of the filter, none for filter NONE: codes 1 to 3 name TAP0 to TAP2. -/
def filterTap (i : EventInput) : Option (BitVec 3) :=
  if filterCode i.config = 0 then none else some (filterCode i.config - 1)
def holdFirst (i : EventInput) : Bool := wbit i.config 5
/-- The record queue, if present: codes 0 to 3 name Q0 to Q3. -/
def recordQueue (i : EventInput) : Option (Fin 4) :=
  if wbit i.config 6 then some (queueOf (fld i.config 7 2)) else none
end EventInput

/-! ### Gate, alert and timebase words (11.5), device words (11.2) -/

namespace Gate
def policyCode (c : Word) : BitVec 2 := fld c 0 2
def holdOffCount (c : Word) : BitVec 8 := fld c 8 8
def tapCode (c : Word) : BitVec 3 := fld c 16 3
def queueCode (c : Word) : BitVec 3 := fld c 21 3
/-- Policy DISCARD; otherwise REFUSE (R153). -/
def discards (g : Gate) : Bool := policyCode g.config == 1
/-- The record queue, if present. -/
def recordQueue (g : Gate) : Option (Fin 4) :=
  if wbit g.config 20 then some (queueOf (fld g.config 21 2)) else none
end Gate

namespace Alert
def modeCode (c : Word) : BitVec 2 := fld c 0 2
def widthOf (c : Word) : BitVec 8 := fld c 8 8
def tapCode (c : Word) : BitVec 3 := fld c 16 3
/-- Line mode PULSE; otherwise LEVEL (R167). -/
def pulseMode (a : Alert) : Bool := modeCode a.config == 1
end Alert

namespace Timebase
def nOf (c : Word) : Nat := (fld c 0 9).toNat
def kOf (c : Word) : BitVec 4 := fld c 12 4
end Timebase

/-- A default action, none for the fourth code (R35). -/
def defaultOf (c : BitVec 2) : Option Action :=
  match c.toNat with
  | 0 => some .pass
  | 1 => some .discard
  | 2 => some .fault
  | _ => none

def unmatchedPresent (w : Word) : Bool := wbit w 0
def unmatchedQueue (w : Word) : Fin 4 := queueOf (fld w 1 2)
/-- The content of the unmatched capture: WITH_DATA for code 1, ADDRESS_ONLY otherwise; codes 2 and 3 are never stored
with the capture present (R36; log 18). -/
def unmatchedContent (w : Word) : Content := if fld w 4 2 = 1 then .withData else .addressOnly

namespace Path
def limitOf (w : Word) : BitVec 12 := fld w 0 12
def queueCode (w : Word) : BitVec 3 := fld w 17 3
/-- The path record queue, if present (R65). -/
def recordQueue (p : Path) : Option (Fin 4) :=
  if wbit p.limitWord 16 then some (queueOf (fld p.limitWord 17 2)) else none
end Path

/-! ### Service addresses (R189) -/

def ruleAddr (r : Fin 24) (off : Nat) : ServiceAddr := BitVec.ofNat 16 (0x040 + 8 * r.val + off)
def queueAddr (n : Fin 4) (off : Nat) : ServiceAddr := BitVec.ofNat 16 (0x100 + 8 * n.val + off)
def popAddr (n : Fin 4) (off : Nat) : ServiceAddr := BitVec.ofNat 16 (0x120 + 8 * n.val + off)
def peekAddr (n : Fin 4) (off : Nat) : ServiceAddr := BitVec.ofNat 16 (0x140 + 8 * n.val + off)
def timerAddr (t : Fin 8) (off : Nat) : ServiceAddr := BitVec.ofNat 16 (0x160 + 8 * t.val + off)
def inputAddr (e : Fin 2) (off : Nat) : ServiceAddr := BitVec.ofNat 16 (0x1A0 + 8 * e.val + off)

/-- The offset of a definition word in its entry (R189). -/
def ruleWordOffset : RuleWord → Nat
  | .control => 0
  | .base => 1
  | .limit => 2
  | .dataMask => 3
  | .reference => 4
  | .fill => 5
  | .quotaArming => 6

/-- The offset of a timer's configuration words in its block (R189). -/
def timerWordOffset : TimerWord → Nat
  | .configuration => 0
  | .reload => 1

/-- The device words (R189, 0x000 to 0x00A). -/
inductive DeviceWord where
  | identification
  | status
  | action
  | requestStatus
  | lock
  | accessCode
  | defaultActions
  | unmatched
  | responseLimit
  | pathState
  | transactionNumber
  deriving DecidableEq, Repr

/-- What an address of the service window names (R189). -/
inductive Target where
  | device (w : DeviceWord)
  | rule (r : Fin 24) (off : Fin 8)
  | queue (n : Fin 4) (off : Fin 4)
  | window (k : WindowKind) (n : Fin 4) (off : Fin 6)
  | timer (t : Fin 8) (off : Fin 6)
  | input (e : Fin 2) (off : Fin 3)
  | gate (off : Fin 3)
  | alert (off : Fin 4)
  | timebase (off : Fin 4)
  | unmapped
  deriving DecidableEq, Repr

/-- The device word at an address below 0x00B. -/
def deviceWord : Nat → Option DeviceWord
  | 0 => some .identification
  | 1 => some .status
  | 2 => some .action
  | 3 => some .requestStatus
  | 4 => some .lock
  | 5 => some .accessCode
  | 6 => some .defaultActions
  | 7 => some .unmatched
  | 8 => some .responseLimit
  | 9 => some .pathState
  | 10 => some .transactionNumber
  | _ => none

/-- Block `x / 8` of a run of blocks of eight words and the offset in it, if both are in range. -/
def blockOf (blocks words x : Nat) : Option (Fin blocks × Fin words) :=
  if h : x / 8 < blocks ∧ x % 8 < words then some (⟨x / 8, h.1⟩, ⟨x % 8, h.2⟩) else none

/-- The map of R189. -/
def targetOf (a : ServiceAddr) : Target :=
  let x := a.toNat
  if x < 0x040 then (deviceWord x).elim .unmapped .device
  else if x < 0x100 then (blockOf 24 8 (x - 0x040)).elim .unmapped fun p => .rule p.1 p.2
  else if x < 0x120 then (blockOf 4 4 (x - 0x100)).elim .unmapped fun p => .queue p.1 p.2
  else if x < 0x140 then (blockOf 4 6 (x - 0x120)).elim .unmapped fun p => .window .pop p.1 p.2
  else if x < 0x160 then (blockOf 4 6 (x - 0x140)).elim .unmapped fun p => .window .peek p.1 p.2
  else if x < 0x1A0 then (blockOf 8 6 (x - 0x160)).elim .unmapped fun p => .timer p.1 p.2
  else if x < 0x1B0 then (blockOf 2 3 (x - 0x1A0)).elim .unmapped fun p => .input p.1 p.2
  else if x < 0x1B8 then (blockOf 1 3 (x - 0x1B0)).elim .unmapped fun p => .gate p.2
  else if x < 0x1C0 then (blockOf 1 4 (x - 0x1B8)).elim .unmapped fun p => .alert p.2
  else if x < 0x1C8 then (blockOf 1 4 (x - 0x1C0)).elim .unmapped fun p => .timebase p.2
  else .unmapped

end Sys2Proof.Machine
end

