-- ==== Sys2Proof/Machine/Ops.lean ====
section
/-! DEFINITION. The operations every block uses: updates of one entry of a table, the free order of things that fall inside
one step, and the form of a command's outcome. -/

namespace Sys2Proof.Machine

/-! ### Updates -/

namespace State

def setRule (s : State) (r : Fin 24) (x : Rule) : State := { s with rules := s.rules.set r x }
def setQueue (s : State) (n : Fin 4) (x : Queue) : State := { s with queues := s.queues.set n x }
def setTimer (s : State) (t : Fin 8) (x : Timer) : State := { s with timers := s.timers.set t x }
def setInput (s : State) (e : Fin 2) (x : EventInput) : State := { s with inputs := s.inputs.set e x }

/-- Every rule at once, each by its own update. -/
def mapRules (f : Fin 24 → Rule → Rule) (s : State) : State :=
  { s with rules := Vector.ofFn fun i => f i s.rules[i] }

/-- Every queue at once. -/
def mapQueues (f : Fin 4 → Queue → Queue) (s : State) : State :=
  { s with queues := Vector.ofFn fun i => f i s.queues[i] }

/-- Every channel at once. -/
def mapTimers (f : Fin 8 → Timer → Timer) (s : State) : State :=
  { s with timers := Vector.ofFn fun i => f i s.timers[i] }

/-- Every input at once. -/
def mapInputs (f : Fin 2 → EventInput → EventInput) (s : State) : State :=
  { s with inputs := Vector.ofFn fun i => f i s.inputs[i] }

end State

/-- The numbers of the rules, queues, channels and inputs, in ascending order. -/
def allRules : List (Fin 24) := List.finRange 24
def allQueues : List (Fin 4) := List.finRange 4
def allTimers : List (Fin 8) := List.finRange 8
def allInputs : List (Fin 2) := List.finRange 2

/-! ### Free order inside a step (log 5) -/

/-- `x` put into a list at a place. -/
def insertAt {α : Type} (x : α) : List α → Nat → List α
  | [], _ => [x]
  | y :: ys, k =>
    match k with
    | 0 => x :: y :: ys
    | k + 1 => y :: insertAt x ys k

/-- The parts in the order the key gives. Every order is given by some key; one part alone needs none. -/
def orderParts {α : Type} (key : Nat → Nat) : Nat → List α → List α
  | _, [] => []
  | n, x :: xs => insertAt x (orderParts key (n + 1) xs) (key n % (xs.length + 1))

/-- The parts taken one after the other in the order the key gives. -/
def inOrder {α σ : Type} (key : Nat → Nat) (parts : List α) (apply : α → σ → σ) (s : σ) : σ :=
  (orderParts key 0 parts).foldl (fun s p => apply p s) s

/-- Things that fall inside one step, taken one after the other in a free order (R86, R91, R105, R141). -/
def race {α : Type} (parts : List α) (apply : α → State → State) (s : State) : State :=
  inOrder (Config.raceKey s.draw) parts apply { s with draw := s.draw + 1 }

/-! ### Outcomes -/

/-- The outcome of every command. -/
abbrev Result := Host.Outcome State Fault Refusal

/-- An effect happens only while power is applied (log 9). -/
def State.onPower (f : State → State) (s : State) : State := if s.powered then f s else s

/-- A command takes effect only while power is applied (log 9). -/
def whenPowered (f : State → State) (s : State) : Result := .next (s.onPower f)

/-! ### Taps (R107) -/

/-- The divisor of a tap: 1, 16, 256, 4096, 65536 for TAP0 to TAP4. -/
def tapDivisor (tap : BitVec 3) : Nat := 16 ^ tap.toNat

/-- The tap produces a tap tick at the tick that brought the tap count to this value: its divisor divides the count. -/
def tapTicks (tap : BitVec 3) (tapCount : BitVec 16) : Bool := tapCount.toNat % tapDivisor tap == 0

end Sys2Proof.Machine
end

