-- ==== Sys2Proof/Machine/Flags.lean ====
section
/-! DEFINITION. The alert flags and the ALERT line (spec/09_alert_output.md): setting and clearing flags, pulse starts,
pulse ends and cut-offs. -/

namespace Sys2Proof.Machine

/-- The 23 flags (R164). -/
inductive Flag where
  | qn (n : Fin 4)
  | qo (n : Fin 4)
  | timer (t : Fin 8)
  | input (e : Fin 2)
  | rule
  | quota
  | gate
  | path
  | config
  deriving DecidableEq, Repr

/-- The position of a flag in the flags, enable and clear-mask words (11.5). -/
def Flag.pos : Flag → Nat
  | .qn n => n.val
  | .qo n => 4 + n.val
  | .timer t => 8 + t.val
  | .input e => 16 + e.val
  | .rule => 18
  | .quota => 19
  | .gate => 20
  | .path => 21
  | .config => 22

/-- The flag as a mask. -/
def Flag.mask (f : Flag) : BitVec 23 := 1#23 <<< f.pos

namespace Alert

/-- The flag is set. -/
def flagSet (a : Alert) (f : Flag) : Bool := a.flags.getLsbD f.pos

/-- The flag's enable is set. -/
def flagEnabled (a : Alert) (f : Flag) : Bool := a.enables.getLsbD f.pos

/-- At least one flag and its enable are both set (R168). -/
def anyEnabled (a : Alert) : Bool := a.flags &&& a.enables != 0

/-- The line in LEVEL mode (R168). -/
def followLevel (a : Alert) : Alert := { a with line := a.anyEnabled }

/-- No pulse and the line deasserted: the end of a pulse by its width, or a cut-off (R170). -/
def endPulse (a : Alert) : Alert := { a with pulse := 0, line := false, tickOwed := false }

/-- One tap tick of the pulse's tap at ALC (R170). The tick that would bring the counter to 0 is left owed to
ALERT_PULSE_END (log 4). With no pulse in progress nothing happens. -/
def takeTick (a : Alert) : Alert :=
  if a.pulse = 0 then a
  else if a.pulse = 1 then { a with tickOwed := true }
  else { a with pulse := a.pulse - 1, tickOwed := false }

/-- The tap tick that ends the pulse is taken; no later pulse start comes before it (R170). -/
def tickEnds (a : Alert) : Alert := { a.endPulse with lastTick := .taken }

/-- The last tick comes after a pulse start made now: it is placed so, or it is still owed to the pulse in progress and not
placed yet (log 14). A start of a later command that is no effect of the tick, though it may have seen one, comes after a tick that
is not owed (DESIGN CHOICE, log 30). -/
def tickFollows (a : Alert) : Bool :=
  match a.lastTick with
  | .after => true
  | .counted => true
  | .before => false
  | .unplaced => a.tickOwed
  | .taken => false

/-- A pulse start (R169): the counter takes the width, the tap is fixed and the line asserted. When the tap tick of the last
tick comes after the command's starts (log 14; one still owed to the pulse, with the command no effect of that tick, is taken
at once: log 27), it is taken here on the counter just loaded, if the new tap ticks as well; a later start of the same command
loads the counter again and the tick follows that start, so it acts once, after all of them (R170). -/
def startPulse (tapCount : BitVec 16) (a : Alert) : Alert :=
  let tap := tapCode a.config
  let b := { a with
    pulse := widthOf a.config, pulseTap := tap, line := true, tickOwed := false
    lastTick := if a.tickFollows then .counted else a.lastTick }
  if a.tickFollows && tapTicks tap tapCount then b.takeTick else b

/-- A command that found the last tick's place at `start` is over. A tick counted on its starts has been taken, unless it is
still owed to a pulse of width 1; one that no start has counted keeps the place it had: it came before this command's starts, or
it is to come after those of a later effect of the same tick. -/
def commandEnds (start : LastTick) (a : Alert) : Alert :=
  if a.lastTick = start then a
  else match a.lastTick with
    | .counted => { a with lastTick := if a.tickOwed then .unplaced else .taken }
    | .before => { a with lastTick := start }
    | .after => { a with lastTick := start }
    | .unplaced => a
    | .taken => a

/-- A setting of a flag (R164). In LEVEL mode the line follows (R168); in PULSE mode a setting of an enabled flag
is a pulse start (R169). -/
def setFlag (tapCount : BitVec 16) (f : Flag) (a : Alert) : Alert :=
  let b := { a with flags := a.flags ||| f.mask }
  if b.pulseMode then (if b.flagEnabled f then b.startPulse tapCount else b) else b.followLevel

/-- A clear-flags write (R165). It never ends a pulse (R170). -/
def clearFlags (mask : Word) (a : Alert) : Alert :=
  let b := { a with flags := a.flags &&& ~~~(mask.setWidth 23) }
  if b.pulseMode then b else b.followLevel

/-- An accepted write of the enable word (R166). -/
def writeEnables (tapCount : BitVec 16) (v : Word) (a : Alert) : Alert :=
  let b := { a with enables := v.setWidth 23 }
  if b.pulseMode then
    let c := if a.flags &&& ~~~a.enables &&& b.enables != 0 then b.startPulse tapCount else b
    if c.anyEnabled then c else c.endPulse
  else b.followLevel

/-- The check of the configuration word (R167): mode LEVEL or PULSE, width not 0, tap TAP0 to TAP2. -/
def configOk (v : Word) : Bool :=
  decide ((modeCode v).toNat ≤ 1) && widthOf v != 0 && decide ((tapCode v).toNat ≤ 2)

/-- An accepted write of the configuration word (R167). A change of mode acts at the moment of the write. -/
def writeConfig (v : Word) (a : Alert) : Alert :=
  let b := { a with config := v &&& configMask }
  if a.pulseMode = b.pulseMode then b
  else if b.pulseMode then b.endPulse
  else b.endPulse.followLevel

/-- RESTART (R173): every flag clear, a pulse cut off, the line deasserted. -/
def restart (a : Alert) : Alert := { a with flags := 0 }.endPulse

end Alert

namespace State

/-- A block hands a flag setting to the alert controller (R164). -/
def setFlag (f : Flag) (s : State) : State :=
  { s with alert := s.alert.setFlag s.timebase.tapCount f }

/-- `t` as the end of a command that began in `s`: the place of the last tick is again one that stands between commands. -/
def endCommand (s t : State) : State := { t with alert := t.alert.commandEnds s.alert.lastTick }

/-- An effect that the last tick itself has caused, and ALC's own tap tick of that tick: ALC takes them in either order
(R105, R170; log 5, log 14). Once that tick has been taken, by the end of a pulse or by the starts of an earlier effect, every
later start comes after it. -/
def inTickOrder (f : State → State) (s : State) : State :=
  let place := if s.alert.lastTick = .unplaced then
      (if Config.raceKey s.draw 0 % 2 == 1 then LastTick.after else .before)
    else s.alert.lastTick
  s.endCommand (f { s with draw := s.draw + 1, alert := { s.alert with lastTick := place } })

end State

end Sys2Proof.Machine
end

