-- ==== Sys2Proof/Machine/Queues.lean ====
section
/-! DEFINITION. The capture queues (spec/04_capture_queues_and_records.md): the list, the available count, placement,
completion, and the actions on a queue. -/

namespace Sys2Proof.Machine

/-- The record is PENDING: an ACCESS record without its outcome (R82). -/
def Record.isPending (r : Record) : Bool :=
  match r.body with
  | .access a => a.outcome.isNone
  | _ => false

namespace Queue

/-- The available count: the COMPLETE records ahead of the oldest PENDING one (R83). -/
def available (q : Queue) : Nat := (q.list.takeWhile fun r => !r.isPending).length

/-- The number of PENDING records (R81). -/
def pendingCount (q : Queue) : Nat := (q.list.filter Record.isPending).length

/-- The queue holds as many records as its depth. -/
def full (q : Queue) : Bool := decide (q.depth ≤ q.list.length)

/-- One record lost (R90). -/
def lose (q : Queue) : Queue := { q with loss := satInc q.loss }

/-- What an offer meets (R85 to R89). -/
inductive Reception where
  /-- ON with room: placed at once (R85) -/
  | room
  /-- ON, full, OVERWRITE, oldest record COMPLETE: it is displaced (R88) -/
  | displace
  /-- OFF, or full under STOP, or full under OVERWRITE with a PENDING oldest record: refused (R87 to R89) -/
  | refuse
  deriving DecidableEq, Repr

/-- How the queue receives an offer (R85 to R89). -/
def reception (q : Queue) : Reception :=
  if !q.on then .refuse
  else if !q.full then .room
  else if !q.overwrite then .refuse
  else match q.list with
    | [] => .refuse
    | r :: _ => if r.isPending then .refuse else .displace

end Queue

namespace State

/-- The queue. -/
def queue (s : State) (n : Fin 4) : Queue := s.queues[n]

/-- The available counts of the four queues. -/
def availCounts (s : State) : Vector Nat 4 := Vector.ofFn fun n => (s.queue n).available

/-- A loss in queue n: the count and the QOn flag (R90). -/
def loseIn (n : Fin 4) (s : State) : State :=
  (s.setQueue n (s.queue n).lose).setFlag (.qo n)

/-- A record with this timestamp appended to the list of queue n (R85). -/
def append (stamp : Word) (n : Fin 4) (body : RecordBody) (s : State) : State :=
  let q := s.queue n
  { s with nextSerial := s.nextSerial + 1 }.setQueue n
    { q with list := q.list ++ [Record.mk s.nextSerial stamp body] }

/-- The oldest record of queue n removed (R88). -/
def dropOldest (n : Fin 4) (s : State) : State :=
  s.setQueue n { s.queue n with list := (s.queue n).list.tail }

/-- An offer of a record with this timestamp to queue n, without the judgement of the notify flag: the state after it, and whether
the record was placed (R85 to R90). -/
def placeAt (stamp : Word) (n : Fin 4) (body : RecordBody) (s : State) : State × Bool :=
  match (s.queue n).reception with
  | .room => (s.append stamp n body, true)
  | .displace => (((s.dropOldest n).loseIn n).append stamp n body, true)
  | .refuse => (s.loseIn n, false)

/-- Such an offer of a record that takes its timestamp at its placement (R106). -/
def placeIn (n : Fin 4) (body : RecordBody) (s : State) : State × Bool := s.placeAt s.timebase.timestamp n body

/-- QNn is set when the available count has risen from below the notify level to at or above it (R84). -/
def judgeNotify (n : Fin 4) (before : Nat) (s : State) : State :=
  let q := s.queue n
  if before < q.notify ∧ q.notify ≤ q.available then s.setFlag (.qn n) else s

/-- The offer of one COMPLETE record by a block: placement and judgement are one change (R84, R85). -/
def offer (n : Fin 4) (body : RecordBody) (s : State) : State :=
  (s.placeIn n body).1.judgeNotify n (s.queue n).available

/-- The offer of a record to a record queue that may be absent: an absent queue places nothing and nothing is lost
(R100). -/
def offerTo (q : Option (Fin 4)) (body : RecordBody) (s : State) : State :=
  match q with
  | none => s
  | some n => s.offer n body

/-- A PENDING record receives its outcome and, where R49 gives one, a read's data word. -/
def completeRecord (o : TxnOutcome) (readData : Option Word) (r : Record) : Record :=
  match r.body with
  | .access a =>
    if a.outcome.isNone then
      let data :=
        if a.kind = .read ∧ a.content = .withData ∧ (o = .completed ∨ o = .discarded) then readData else a.data
      { r with body := .access { a with outcome := some o, data := data } }
    else r
  | _ => r

/-- The end of a transaction in the queues (R91): every PENDING record completes in its place, then the notify flag of each
queue is judged once against the count before. -/
def completeAll (before : Vector Nat 4) (o : TxnOutcome) (readData : Option Word) (s : State) : State :=
  let s := s.mapQueues fun _ q => { q with list := q.list.map (completeRecord o readData) }
  allQueues.foldl (fun s n => s.judgeNotify n before[n]) s

/-- RESTART in CQS (R103): every record removed, every loss count 0. -/
def restartQueues (s : State) : State :=
  s.mapQueues fun _ q => { q with list := [], loss := 0 }

/-- The depths of the queues that are ON, added up (R77). -/
def poolUsed (s : State) : Nat :=
  (allQueues.map fun n => if (s.queue n).on then (s.queue n).depth else 0).sum

end State

/-! ### Writes (R78 to R81, R96). Each answers a status; an answer other than ACCEPTED leaves the state. -/

/-- The check of a queue configuration word (R78). -/
def Queue.configOk (v : Word) : Bool :=
  let d := Queue.depthOf v
  (d == 0 || (d % 4 == 0 && decide (4 ≤ d) && decide (d ≤ 256))) && decide ((Queue.policyCode v).toNat ≤ 1) &&
    (decide (d < 4) || (decide (1 ≤ Queue.notifyOf v) && decide (Queue.notifyOf v ≤ d)))

/-- A write of the queue configuration word (R78). -/
def queueConfigWrite (n : Fin 4) (v : Word) (s : State) : Status × State :=
  let q := s.queue n
  if q.on then (.active, s)
  else if !Queue.configOk v then (.invalid, s)
  else (.accepted, s.setQueue n { q with config := v &&& Queue.configMask })

/-- QUEUE_ON (R79). -/
def queueTurnOn (n : Fin 4) (s : State) : Status × State :=
  let q := s.queue n
  if q.on then (.active, s)
  else if q.depth = 0 ∨ 256 < s.poolUsed + q.depth then (.invalid, s)
  else (.accepted, s.setQueue n { q with on := true, list := [] })

/-- QUEUE_OFF (R80). -/
def queueTurnOff (n : Fin 4) (s : State) : Status × State :=
  let q := s.queue n
  if q.pendingCount ≠ 0 then (.busy, s)
  else (.accepted, s.setQueue n { q with on := false, list := [], loss := 0 })

/-- FLUSH (R96): the PENDING records stay, in their order; the loss count becomes 0. -/
def queueFlush (n : Fin 4) (s : State) : Status × State :=
  let q := s.queue n
  (.accepted, s.setQueue n { q with list := q.list.filter Record.isPending, loss := 0 })

/-- A write of the queue action word (R81): the request in bits 2:0. -/
def queueActionWrite (n : Fin 4) (v : Word) (s : State) : Status × State :=
  match (fld v 0 3).toNat with
  | 0 => (.accepted, s)
  | 1 => queueTurnOn n s
  | 2 => queueTurnOff n s
  | 3 => queueFlush n s
  | _ => (.invalid, s)

end Sys2Proof.Machine
end

