-- ==== Sys2Proof/Machine/Rules.lean ====
section
/-! DEFINITION. The rule table (spec/01_the_rule_table.md) and the arming of rules (spec/07, section 7.4): the checks of ENABLE,
the requests and writes, the notices, and what RESTART and loading do to an entry. -/

namespace Sys2Proof.Machine

namespace RuleDef

/-- The m loaded into the disarm countdown: m for HITS m, 0 otherwise (R13, R17). -/
def countdownLoad (d : RuleDef) : BitVec 8 :=
  match d.disarmSource with
  | .hits m => m
  | _ => 0

/-- The state an enabled rule begins in: LIVE with arm source NONE, DORMANT otherwise (R17). -/
def startState (d : RuleDef) : RuleState := if d.armSource = .none then .live else .dormant

/-- Extent check: RANGE with limit below base is refused (R16). -/
def extentOk (d : RuleDef) : Bool := d.masked || decide (d.base.toNat ≤ d.limit.toNat)

/-- The kinds are exactly WRITE (R3). -/
def onlyWrite (d : RuleDef) : Bool := d.writeKind && !d.readKind

/-- Condition checks (R16): an unlisted operator, a condition on kinds other than WRITE, ENTERING with CHANGED. -/
def conditionOk (d : RuleDef) : Bool :=
  decide (d.opCode.toNat ≤ 5) && (!d.hasCondition || (d.onlyWrite && !(d.entering && d.op? == some .changed)))

/-- Capture checks (R16): an unlisted content, WITH_BEFORE with READ among the kinds, AUDIT without a capture. -/
def captureOk (d : RuleDef) : Bool :=
  (!d.capture || (d.content?.isSome && !(d.content? == some .withBefore && d.readKind))) &&
    (d.capture || d.action? != some .audit)

/-- Quota checks (R16). -/
def quotaOk (d : RuleDef) : Bool := !d.quota || (d.quotaLimit != 0 && d.over?.isSome)

/-- Arm source check (R16, R192) for the rule with index `own`. -/
def armOk (own : Fin 24) (d : RuleDef) : Bool :=
  match d.armSource with
  | .none => true
  | .rule k => decide (k < 24) && k != own.val
  | .timer k => decide (k < 8)
  | .input k => decide (k < 2)

/-- Disarm source check (R16, R192). -/
def disarmOk (d : RuleDef) : Bool :=
  match d.disarmSource with
  | .none => true
  | .hits m => m != 0
  | .timer k => decide (k < 8)
  | .input k => decide (k < 2)

/-- The arm and disarm sources do not name the same timer or the same input (R16). -/
def sourcesApart (d : RuleDef) : Bool :=
  match d.armSource, d.disarmSource with
  | .timer a, .timer b => a != b
  | .input a, .input b => a != b
  | _, _ => true

/-- Every check of R16 passes for the rule with index `own`. -/
def enableOk (own : Fin 24) (d : RuleDef) : Bool :=
  d.extentOk && (d.readKind || d.writeKind) && d.conditionOk && d.action?.isSome && d.captureOk && d.quotaOk &&
    d.armOk own && d.disarmOk && d.sourcesApart

/-- A definition word set (R15); bits the layout does not name are not stored (R2, R189). -/
def setWord (d : RuleDef) : RuleWord → Word → RuleDef
  | .control, v => { d with control := v &&& controlMask }
  | .base, v => { d with base := v &&& addrMask }
  | .limit, v => { d with limit := v &&& addrMask }
  | .dataMask, v => { d with dataMask := v }
  | .reference, v => { d with reference := v }
  | .fill, v => { d with fill := v }
  | .quotaArming, v => { d with quotaArming := v }

/-- The definition as stored: bits the layout does not name are dropped (R2, R189). -/
def stored (d : RuleDef) : RuleDef :=
  { d with control := d.control &&& controlMask, base := d.base &&& addrMask, limit := d.limit &&& addrMask }

end RuleDef

namespace Rule

/-- A window reset (R11). -/
def resetWindow (x : Rule) : Rule := { x with window := 0, overQuota := false }

/-- The rule is enabled: DORMANT or LIVE. -/
def isEnabled (x : Rule) : Bool := x.state != .disabled

/-- A hit met now is over quota: the rule has a quota and its window count equals the limit (R11). -/
def hitOverQuota (x : Rule) : Bool := x.defn.quota && decide (x.defn.quotaLimit ≤ x.window)

/-- What a hit changes in the hit rule itself, at the decision (R10, R11, R13, R14, R43). -/
def hit (x : Rule) : Rule :=
  let beyond := x.hitOverQuota
  { x with
    hits := satInc x.hits
    window := if x.defn.quota && !beyond then x.window + 1 else x.window
    overQuota := x.overQuota || beyond
    countdown := if x.countdown = 0 then 0 else x.countdown - 1
    alerted := x.alerted || x.defn.alertOnHit }

/-- An arm notice (R145). -/
def arm (x : Rule) : Rule :=
  match x.state with
  | .disabled => x
  | _ => { x with state := .live, countdown := x.defn.countdownLoad }

/-- A disarm notice, or the countdown-zero change (R146, R147). -/
def disarm (x : Rule) : Rule :=
  match x.state with
  | .live => { x with state := .dormant }
  | _ => x

/-- The entry as enabled (R17). -/
def enabled (x : Rule) : Rule :=
  { x.resetWindow with state := x.defn.startState, countdown := x.defn.countdownLoad }

/-- The entry as disabled (R18). -/
def disabled (x : Rule) : Rule :=
  { x.resetWindow with state := .disabled, countdown := 0 }

/-- RESTART (R22). -/
def restart (x : Rule) : Rule :=
  let y := { x with hits := 0, alerted := false }
  if x.isEnabled then y.enabled else y

/-- The entry that loading makes from its image (R21): the definition as stored; enabled when the image marks it so and
the checks of R16 pass. -/
def load (own : Fin 24) (i : RuleImage) : Rule :=
  let x := { Rule.reset with defn := i.defn.stored }
  if i.enabled && i.defn.stored.enableOk own then x.enabled else x

end Rule

namespace State

/-- The rule entry. -/
def rule (s : State) (r : Fin 24) : Rule := s.rules[r]

/-- An arm notice to each rule whose arm source is the one given (R145). -/
def armFrom (src : ArmSource) (s : State) : State :=
  s.mapRules fun _ x => if x.defn.armSource = src then x.arm else x

/-- A disarm notice to each rule whose disarm source is the one given (R146). -/
def disarmFrom (src : DisarmSource) (s : State) : State :=
  s.mapRules fun _ x => if x.defn.disarmSource = src then x.disarm else x

/-- A window-reset notice of channel t to each rule that carries a quota on it, in whatever state (R11, R129). -/
def resetWindowsOf (t : Fin 8) (s : State) : State :=
  s.mapRules fun _ x => if x.defn.quota && x.defn.windowTimer == t then x.resetWindow else x

end State

/-! ### Requests and writes (R15 to R19). Each answers a status. -/

/-- A write of a definition word with request NONE (R15). -/
def ruleDefWrite (r : Fin 24) (w : RuleWord) (v : Word) (s : State) : Status × State :=
  let x := s.rule r
  if x.isEnabled then (.active, s)
  else (.accepted, s.setRule r { x with defn := x.defn.setWord w v })

/-- ENABLE (R16, R17). -/
def ruleEnable (r : Fin 24) (s : State) : Status × State :=
  let x := s.rule r
  if x.isEnabled then (.active, s)
  else if !x.defn.enableOk r then (.invalid, s)
  else (.accepted, s.setRule r x.enabled)

/-- DISABLE (R18). On a DISABLED rule it changes nothing. -/
def ruleDisable (r : Fin 24) (s : State) : Status × State :=
  let x := s.rule r
  (.accepted, if x.isEnabled then s.setRule r x.disabled else s)

/-- CLEAR_HITS (R19). -/
def ruleClearHits (r : Fin 24) (s : State) : Status × State :=
  (.accepted, s.setRule r { s.rule r with hits := 0, alerted := false })

/-- A write of the control word: the request in bits 21:20 (R15). -/
def ruleControlWrite (r : Fin 24) (v : Word) (s : State) : Status × State :=
  match (fld v 20 2).toNat with
  | 0 => ruleDefWrite r .control v s
  | 1 => ruleEnable r s
  | 2 => ruleDisable r s
  | _ => ruleClearHits r s

/-- A write of a definition word of a rule (R15): the control word goes by its request field. -/
def ruleWordWrite (r : Fin 24) (w : RuleWord) (v : Word) (s : State) : Status × State :=
  match w with
  | .control => ruleControlWrite r v s
  | w => ruleDefWrite r w v s

end Sys2Proof.Machine
end

