-- ==== Sys2Proof/Machine/Timers.lean ====
section
/-! DEFINITION. The watch timer channels (spec/06_watch_timers.md): tap ticks, expiries, triggers, and the actions START, STOP
and PRESET. -/

namespace Sys2Proof.Machine

/-- The mode as its code in a record (11.6) and in the configuration word (11.4). -/
def TimerMode.code : TimerMode → BitVec 2
  | .oneshot => 0
  | .repeating => 1
  | .retrigger => 2
  | .measure => 3

namespace Timer

/-- A RUNNING channel in MEASURE, which counts up (R126). -/
def measuring (ch : Timer) : Bool := ch.mode == .measure

/-- The counter loaded from the reload value when it holds 0 (R120). -/
def loadIfZero (ch : Timer) : Timer := if ch.counter = 0 then { ch with counter := ch.reload } else ch

/-- A tap tick taken now would be the channel's expiry: a down-counting channel at 1 (R120), a MEASURE channel one below
the reload value (R126). -/
def atExpiry (ch : Timer) : Bool :=
  ch.state == .running &&
    (if ch.measuring then decide (ch.counter.toNat + 1 = ch.reload.toNat) else ch.counter == 1)

/-- One tap tick of the channel's tap (R120, R126). The tick that would bring an expiry is left owed to TIMER_EXPIRY or
MEASURE_OVERDUE (log 4); a channel that is not RUNNING ignores it. Any other tick is counted at its TICK, before a trigger that
follows from another effect of that tick (DESIGN CHOICE, log 30). -/
def takeTick (ch : Timer) : Timer :=
  if ch.state ≠ .running then ch
  else if ch.atExpiry then { ch with tickOwed := true }
  else if ch.measuring then { ch with counter := satInc ch.counter, tickOwed := false }
  else { ch with counter := ch.counter - 1, tickOwed := false }

/-- The channel at its expiry (R120, R126): the owed tick is taken. -/
def expired (ch : Timer) : Timer :=
  match ch.mode with
  | .oneshot => { ch with counter := ch.reload, state := .stopped, tickOwed := false }
  | .repeating => { ch with counter := ch.reload, tickOwed := false }
  | .retrigger => { ch with counter := ch.reload, state := .lapsed, tickOwed := false }
  | .measure => { ch with counter := ch.counter + 1, tickOwed := false }

/-- A MEASURE interval of the value of the counter ends (R127). -/
def takeInterval (ch : Timer) : Timer :=
  { ch with
    last := ch.counter
    minimum := if ch.counter < ch.minimum then ch.counter else ch.minimum
    maximum := if ch.maximum < ch.counter then ch.counter else ch.maximum
    counter := 0 }

/-- What a trigger does to the channel (the table of R115), apart from a tick still owed to it. -/
def trigger' (ch : Timer) : Timer :=
  match ch.mode, ch.state with
  | .oneshot, .stopped => { ch.loadIfZero with state := .running }
  | .retrigger, .running => { ch with counter := ch.reload }
  | .retrigger, .lapsed => { ch with counter := ch.reload, state := .running }
  | .measure, .waiting => { ch with counter := 0, state := .running }
  | .measure, .running => ch.takeInterval
  | _, _ => ch

/-- A trigger taken while a tap tick is owed to the channel: the trigger is taken first, and the tick then acts on what it
left (R121, R124, R128; log 13). A tick that is not owed comes before the trigger when its TICK does (log 30). -/
def triggered (ch : Timer) : Timer :=
  if ch.tickOwed then { ch.trigger' with tickOwed := false }.takeTick else ch.trigger'

/-- The trigger ends a measured interval that places a TIMER_INTERVAL record (R127): in which queue. -/
def intervalQueue (ch : Timer) : Option (Fin 4) :=
  if ch.mode = .measure ∧ ch.state = .running ∧ ch.recordIntervals then ch.recordQueue else none

/-- The results as cleared (R116, R133). -/
def clearResults (ch : Timer) : Timer := { ch with last := 0, minimum := 65535, maximum := 0 }

/-- An accepted START (R116). -/
def started (ch : Timer) : Timer :=
  match ch.mode with
  | .measure => { ch.clearResults with state := .waiting }
  | _ => { ch.loadIfZero with state := .running }

/-- STOP (R117). A tick still owed to the channel is then ignored (R119). -/
def stopped (ch : Timer) : Timer := { ch with state := .stopped, tickOwed := false }

/-- RESTART (R134). -/
def restart (ch : Timer) : Timer := { ch.clearResults with state := .stopped, counter := ch.reload, tickOwed := false }

/-- The check of the configuration word (R114). -/
def configOk (v : Word) : Bool :=
  decide ((modeCode v).toNat ≤ 3) && decide ((tapCode v).toNat ≤ 4) &&
    match (triggerKind v).toNat with
    | 0 => true
    | 1 => decide ((triggerIndex v).toNat < 24)
    | 2 => decide ((triggerIndex v).toNat < 2)
    | _ => false

/-- The channel that loading makes from its image (R133): an image that fails the checks of R114 leaves the default. -/
def load (i : TimerImage) : Timer :=
  if configOk i.config && i.reload != 0 then
    let ch := { Timer.reset with config := i.config &&& configMask, reload := i.reload, counter := i.reload }
    if i.started then ch.started else ch
  else Timer.reset

end Timer

namespace State

/-- The channel. -/
def timer (s : State) (t : Fin 8) : Timer := s.timers[t]

/-- An expiry of channel t (R129): the channel changes; the Tt flag, the record, the arm and disarm notices and the window
resets are handed out. They have no order among themselves. -/
def expire (t : Fin 8) (s : State) : State :=
  let ch := s.timer t
  ((((s.setTimer t ch.expired).setFlag (.timer t)).offerTo ch.recordQueue (.timerExpiry t ch.mode)).armFrom
    (.timer t.val)).disarmFrom (.timer t.val) |>.resetWindowsOf t

/-- A trigger to channel t (R115), with its TIMER_INTERVAL record where R127 gives one. The two are one thing: the record is stamped
as the channel takes the trigger, although R106 lets its reading of the counter stand apart from the order of R128
(DESIGN CHOICE, log 30). -/
def triggerTimer (t : Fin 8) (s : State) : State :=
  let ch := s.timer t
  (s.setTimer t ch.triggered).offerTo ch.intervalQueue (.timerInterval t ch.counter)

/-- The channels whose trigger source is one of those given (R115). -/
def triggeredBy (s : State) (p : TriggerSource → Bool) : List (Fin 8) :=
  allTimers.filter fun t => p (s.timer t).trigger

/-- Those of the channels that will offer a record when triggered. -/
def offering (s : State) (ts : List (Fin 8)) : List (Fin 8) :=
  ts.filter fun t => (s.timer t).intervalQueue.isSome

/-- Those that will not: their order among themselves and against records does not matter. -/
def notOffering (s : State) (ts : List (Fin 8)) : List (Fin 8) :=
  ts.filter fun t => !(s.timer t).intervalQueue.isSome

end State

/-! ### Writes (R114, R116 to R118, R132) -/

/-- A write of the configuration word or of the reload word (R114). -/
def timerConfigWrite (t : Fin 8) (w : TimerWord) (v : Word) (s : State) : Status × State :=
  let ch := s.timer t
  if ch.state ≠ .stopped then (.active, s)
  else match w with
    | .configuration =>
      if !Timer.configOk v then (.invalid, s)
      else (.accepted, s.setTimer t { ch with config := v &&& Timer.configMask })
    | .reload =>
      if fld v 0 16 = 0 then (.invalid, s)
      else (.accepted, s.setTimer t { ch with reload := fld v 0 16 })

/-- START (R116). -/
def timerStart (t : Fin 8) (s : State) : Status × State :=
  let ch := s.timer t
  if ch.state ≠ .stopped then (.active, s) else (.accepted, s.setTimer t ch.started)

/-- STOP (R117). -/
def timerStop (t : Fin 8) (s : State) : Status × State :=
  (.accepted, s.setTimer t (s.timer t).stopped)

/-- PRESET (R118). -/
def timerPreset (t : Fin 8) (s : State) : Status × State :=
  let ch := s.timer t
  if ch.state ≠ .stopped then (.active, s) else (.accepted, s.setTimer t { ch with counter := ch.reload })

/-- A write of the timer action word: the request in bits 2:0 (section 6.2). -/
def timerActionWrite (t : Fin 8) (v : Word) (s : State) : Status × State :=
  match (fld v 0 3).toNat with
  | 0 => (.accepted, s)
  | 1 => timerStart t s
  | 2 => timerStop t s
  | 3 => timerPreset t s
  | _ => (.invalid, s)

/-! ### Commands -/

/-- The tap tick owed to a down-counting channel brings its count from 1 to 0 (R120). With no such tick owed there is nothing
to expire (log 2). -/
def State.timerExpires (t : Fin 8) (s : State) : State :=
  let ch := s.timer t
  if ch.tickOwed && ch.atExpiry && !ch.measuring then s.inTickOrder (State.expire t) else s

/-- The tap tick owed to a MEASURE channel brings its counter to the reload value (R126; log 2). -/
def State.measureOverdue (t : Fin 8) (s : State) : State :=
  let ch := s.timer t
  if ch.tickOwed && ch.atExpiry && ch.measuring then s.inTickOrder (State.expire t) else s

/-- TIMER_EXPIRY (R120). -/
def execTimerExpiry (t : Fin 8) (s : State) : Result := whenPowered (State.timerExpires t) s

/-- MEASURE_OVERDUE (R126). -/
def execMeasureOverdue (t : Fin 8) (s : State) : Result := whenPowered (State.measureOverdue t) s

end Sys2Proof.Machine
end

