-- ==== Sys2Proof/Machine/Inputs.lean ====
section
/-! DEFINITION. The event inputs (spec/07_event_inputs_and_rule_arming.md): samplers, edges, events, and the configuration write. -/

namespace Sys2Proof.Machine

/-! ### The sampler (R136 to R138) -/

/-- The sampler seeded from a level (R136). An unfiltered input holds no samples; its three places keep the seen level
(R143). -/
def Sampler.seed (level : Bool) : Sampler := ⟨level, level, level, level⟩

/-- The level held by at least two of three (R138). -/
def majority (a b c : Bool) : Bool := a && b || a && c || b && c

/-- One sample of a filtered input: it replaces the oldest of the three, and the seen level is the level held by at
least two (R138). -/
def Sampler.take (pin : Bool) (m : Sampler) : Sampler :=
  ⟨majority m.middle m.newest pin, m.middle, m.newest, pin⟩

namespace EventInput

/-- The check of the configuration word (R135). -/
def configOk (v : Word) : Bool :=
  decide ((filterCode v).toNat ≤ 3) && (!wbit v 6 || decide ((queueCode v).toNat ≤ 3))

/-- The level whose edge is an event: high for RISING, low for FALLING (R135, R142). -/
def activeLevel (i : EventInput) : Bool := !i.falling

/-- The input as RESTART leaves it (R144). -/
def restart (pin : Bool) (i : EventInput) : EventInput :=
  { i with count := 0, lastEvent := 0, sampler := if i.enabled then some (.seed pin) else none }

/-- The input that loading makes from its image (R144): a word that fails the check leaves the default. -/
def load (pin : Bool) (w : Word) : EventInput :=
  if configOk w then
    { EventInput.reset with config := w &&& configMask, sampler := if wbit w 0 then some (.seed pin) else none }
  else EventInput.reset

/-- The input takes a sample at a tick that brought the tap count to this value: it is enabled and its filter's tap
ticks (R138). -/
def samplesAt (tapCount : BitVec 16) (i : EventInput) : Bool :=
  i.enabled && (match i.filterTap with
    | some tap => tapTicks tap tapCount
    | none => false)

/-- An event finds the input open: hold mode EVERY, or its flag clear (R140). -/
def effectiveWith (flag : Bool) (i : EventInput) : Bool := !i.holdFirst || !flag

end EventInput

namespace State

/-- The input. -/
def input (s : State) (e : Fin 2) : EventInput := s.inputs[e]

/-- The pin level of the input. -/
def evPin (s : State) (e : Fin 2) : Bool := s.pins.ev[e]

/-- What an effective event hands out that can meet another part in one queue (R86, R141). -/
inductive EventPart where
  | record (count : BitVec 8) (level : Bool)
  | trigger (t : Fin 8)
  | meet (m : Meeting)
  deriving DecidableEq, Repr

/-- What falls among the parts of an event, and how it is taken. -/
structure EventMeetings where
  inside : List Meeting
  take : Meeting → State → State

/-- Nothing falls among them. -/
def EventMeetings.none : EventMeetings := ⟨[], fun _ s => s⟩

/-- One of those parts, for input e. The record carries the event count after the event and the seen level, and its placement is the
moment of the last-event timestamp (R142); an input without a record queue takes that timestamp alone. -/
def applyEventPart (k : EventMeetings) (e : Fin 2) (p : EventPart) (s : State) : State :=
  match p with
  | .record count level =>
    (s.setInput e { s.input e with lastEvent := s.timebase.timestamp }).offerTo (s.input e).recordQueue
      (.inputEvent e count level)
  | .trigger t => s.triggerTimer t
  | .meet m => k.take m s

/-- The parts of an effective event that a free order concerns: its record, the triggers that offer records, and what falls among
them; with something among them, every trigger (R106, R124, R128), and the last-event timestamp also where no record goes with it
(R141). -/
def eventParts (k : EventMeetings) (e : Fin 2) (ts : List (Fin 8)) (s : State) : List EventPart :=
  let i := s.input e
  (if i.recordQueue.isSome || !k.inside.isEmpty then [.record i.count i.activeLevel] else []) ++
    (if k.inside.isEmpty then s.offering ts else ts).map .trigger ++ k.inside.map .meet

/-- An effective event of input e (R141). Its record, the triggers and what is named to fall among them are taken in a free order, so
that its records may carry timestamps one apart (R106). Nothing that is not named falls among them (DESIGN CHOICE, log 28). What
is named always falls after the setting of INn and before the notices, although R170 lets ALC take a pulse start after its tick
(DESIGN CHOICE, log 26). The other parts reach different state. -/
def effectiveEvent (k : EventMeetings) (e : Fin 2) (s : State) : State :=
  let ts := s.triggeredBy fun g => g == .input e.val
  let quiet := if k.inside.isEmpty then s.notOffering ts else []
  let parts := s.eventParts k e ts
  let s := s.setInput e { s.input e with lastEvent := s.timebase.timestamp }
  let s := s.setFlag (.input e)
  let s := quiet.foldl (fun s t => s.triggerTimer t) s
  let s := race parts (applyEventPart k e) s
  (s.armFrom (.input e.val)).disarmFrom (.input e.val)

/-- An event of input e (R139 to R141): it is counted, and hands out its parts when it is effective. -/
def inputEvent (k : EventMeetings) (e : Fin 2) (s : State) : State :=
  let i := s.input e
  let effective := i.effectiveWith (s.alert.flagSet (.input e))
  let s := s.setInput e { i with count := satInc i.count }
  if effective then s.effectiveEvent k e else s

/-- The sampler of input e moves on; a change of the seen level is an edge, and in the active direction an event
(R137, R138). -/
def moveSampler (k : EventMeetings) (e : Fin 2) (before after : Sampler) (s : State) : State :=
  let s := s.setInput e { s.input e with sampler := some after }
  if before.seen ≠ after.seen ∧ after.seen = (s.input e).activeLevel then s.inputEvent k e else s

/-- An input that takes a sample at this tick (R138). Its event is caused by the tick, and every record of it carries the value after
the tick (R106). -/
def sampleInput (e : Fin 2) (s : State) : State :=
  match (s.input e).sampler with
  | some m => s.moveSampler .none e m (m.take (s.evPin e))
  | none => s

/-- A change of the pin as an enabled input with filter NONE takes it (R137). -/
def followPin (k : EventMeetings) (e : Fin 2) (level : Bool) (s : State) : State :=
  match (s.input e).sampler, (s.input e).filterTap with
  | some m, none => s.moveSampler k e m (.seed level)
  | _, _ => s

/-- The level of the pin of input e. -/
def setEvPin (e : Fin 2) (level : Bool) (s : State) : State :=
  { s with pins := { s.pins with ev := s.pins.ev.set e level } }

/-- The pin of input e changes to the level (R137). The pin is outside the part and takes its level whatever the part does; an
input that is disabled does not remember the change (R136), a filtered one takes it at its next sample (R138). -/
def changePin (k : EventMeetings) (e : Fin 2) (level : Bool) (s : State) : State :=
  if s.evPin e = level then s else s.endCommand ((s.setEvPin e level).onPower (followPin k e level))

end State

/-- A write of the input configuration word (the table of R135; R136). -/
def inputConfigWrite (e : Fin 2) (v : Word) (s : State) : Status × State :=
  let i := s.input e
  if i.enabled && wbit v 0 then (.active, s)
  else if !EventInput.configOk v then (.invalid, s)
  else (.accepted, s.setInput e
    { i with config := v &&& EventInput.configMask, sampler := if wbit v 0 then some (.seed (s.evPin e)) else none })

end Sys2Proof.Machine
end

