-- ==== Sys2Proof/Machine/Gate.lean ====
section
/-! DEFINITION. The write gate (spec/08_the_write_gate.md): its states, its causes, the writes it answers, and its words. -/

namespace Sys2Proof.Machine

namespace Gate

/-- The check of the configuration word (R153). -/
def configOk (v : Word) : Bool :=
  holdOffCount v != 0 && decide ((tapCode v).toNat ≤ 3) && decide ((policyCode v).toNat ≤ 1) &&
    (!wbit v 20 || decide ((queueCode v).toNat ≤ 3))

/-- No cause stands (R157). -/
def noCause (g : Gate) : Bool := !g.pfail && !g.hold

/-- The drain has ended and the entry to CLOSED is due (R155; log 4). -/
def drainDue (g : Gate) : Bool := g.state == .draining && !g.inFlight

/-- One tap tick of the hold-off's tap (R158). The tick that would bring the counter to 0 is left owed to
GATE_HOLD_OFF_END (log 4); a hold-off that begins later at the same moment does not count it (DESIGN CHOICE, log 30). -/
def takeTick (g : Gate) : Gate :=
  if g.state ≠ .reopening then g
  else if g.holdOff.toNat ≤ 1 then { g with tickOwed := true }
  else { g with holdOff := g.holdOff - 1, tickOwed := false }

/-- REOPENING with a full hold-off (R157). -/
def reopen (g : Gate) : Gate :=
  { g with state := .reopening, holdOff := holdOffCount g.config, holdOffTap := tapCode g.config, tickOwed := false }

/-- The return from REOPENING to CLOSED (R158). -/
def returnToClosed (g : Gate) : Gate := { g with state := .closed, holdOff := 0, tickOwed := false }

/-- The gate that loading makes from its image (R162): a word that fails the check leaves the default. -/
def load (w : Word) : Gate := if configOk w then { Gate.reset with config := w &&& configMask } else Gate.reset

/-- A write that the gate answers (R160): one more refused write. -/
def refuseWrite (g : Gate) : Gate := { g with refused := satInc g.refused }

/-- The answer by the policy (R160). -/
def answer (g : Gate) : Answer := if g.discards then .done else .error

end Gate

namespace State

/-- Entry to CLOSED from OPEN or DRAINING (R156). -/
def gateEnterClosed (s : State) : State :=
  let cause := if s.gate.powerSeen then GateCause.power else GateCause.service
  let s := { s with gate := { s.gate with state := .closed, refused := 0 } }
  (s.setFlag .gate).offerTo s.gate.recordQueue (.gateClosed cause)

/-- Entry to OPEN (R159). -/
def gateEnterOpen (s : State) : State :=
  let s := { s with gate := { s.gate with state := .opened, powerSeen := false, holdOff := 0, tickOwed := false } }
  s.offerTo s.gate.recordQueue (.gateOpened s.gate.refused)

/-- The gate leaves CLOSED once no cause stands (R157). -/
def gateLeaveClosed (s : State) : State :=
  if s.gate.state = .closed ∧ s.gate.noCause then
    if s.gate.powerSeen then { s with gate := s.gate.reopen } else s.gateEnterOpen
  else s

/-- A cause arrives (R152, R154, R158). In DRAINING and CLOSED it is only recorded. -/
def gateCauseArrival (s : State) : State :=
  match s.gate.state with
  | .opened => if s.gate.inFlight then { s with gate := { s.gate with state := .draining } } else s.gateEnterClosed
  | .reopening => { s with gate := s.gate.returnToClosed }
  | _ => s

/-- The end of a drain, when it is due (R155): CLOSED, and on at once if no cause stands. The GATE_CLOSED record and a
GATE_OPENED record behind it are offered with nothing between them (DESIGN CHOICE, log 28). -/
def gateEndDrain (s : State) : State :=
  if s.gate.drainDue then s.gateEnterClosed.gateLeaveClosed else s

/-- A PFAIL assertion as the gate takes it (R151). -/
def gatePfailAssert (s : State) : State :=
  { s with gate := { s.gate with pfail := true, powerSeen := true } }.gateCauseArrival

/-- A PFAIL deassertion as the gate takes it (R151, R157). -/
def gatePfailDeassert (s : State) : State :=
  { s with gate := { s.gate with pfail := false } }.gateLeaveClosed

/-- GATE_HOLD (R152). -/
def gateSetHold (s : State) : State :=
  if s.gate.hold then s else { s with gate := { s.gate with hold := true } }.gateCauseArrival

/-- The clearing of the service hold, by GATE_RELEASE or RESTART (R152, R157, R163). -/
def gateClearHold (s : State) : State :=
  if s.gate.hold then { s with gate := { s.gate with hold := false } }.gateLeaveClosed else s

/-- The look at PFAIL at the end of loading (R162). -/
def gateLookAtPfail (s : State) : State := if s.pins.pfail then s.gatePfailAssert else s

/-- The end of the hold-off (R158): the owed tap tick brings the counter to 0 and the gate enters OPEN. -/
def gateEndHoldOff (s : State) : State :=
  if s.gate.state = .reopening ∧ s.gate.tickOwed then s.inTickOrder gateEnterOpen else s

end State

/-! ### Writes (R152, R153) -/

/-- GATE_HOLD: accepted in every gate state. -/
def gateHoldWrite (s : State) : Status × State := (.accepted, s.endCommand s.gateSetHold)

/-- GATE_RELEASE: accepted in every gate state. -/
def gateReleaseWrite (s : State) : Status × State := (.accepted, s.endCommand s.gateClearHold)

/-- A write of the gate action word: the request in bits 2:0. -/
def gateActionWrite (v : Word) (s : State) : Status × State :=
  match (fld v 0 3).toNat with
  | 0 => (.accepted, s)
  | 1 => gateHoldWrite s
  | 2 => gateReleaseWrite s
  | _ => (.invalid, s)

/-- A write of the gate configuration word (R153). -/
def gateConfigWrite (v : Word) (s : State) : Status × State :=
  if Gate.configOk v then (.accepted, { s with gate := { s.gate with config := v &&& Gate.configMask } })
  else (.invalid, s)

/-! ### Commands -/

/-- GATE_DRAIN_END (R155). With no drain to end nothing changes (log 2). -/
def execGateDrainEnd (s : State) : Result := whenPowered (fun s => s.endCommand s.gateEndDrain) s

/-- GATE_HOLD_OFF_END (R158). -/
def execGateHoldOffEnd (s : State) : Result := whenPowered State.gateEndHoldOff s

end Sys2Proof.Machine
end

