-- ==== Sys2Proof/Machine/Timebase.lean ====
section
/-! DEFINITION. The timebase (spec/05_timebase.md): tick periods, the tick, the handing out of tap ticks, and the words of the
timebase. -/

namespace Sys2Proof.Machine

namespace Timebase

/-- A tick period begins (R104): K is added to the accumulator, and a carry makes the period N + 1 long. -/
def beginPeriod (b : Timebase) : Timebase :=
  let k := (kOf b.config).toNat
  let sum := b.accumulator.toNat + k
  { b with
    accumulator := BitVec.ofNat 4 sum
    period := .running (if 16 ≤ sum then nOf b.config + 1 else nOf b.config) }

/-- The first tick period after TB_START makes its addition when it begins, before its tick (R108; log 11). -/
def firstBegun (b : Timebase) : Timebase :=
  match b.period with
  | .starting => b.beginPeriod
  | _ => b

/-- A tick (R105 to R107): the counts advance and the next tick period begins. -/
def tick (b : Timebase) : Timebase :=
  { b.firstBegun with timestamp := b.timestamp + 1, tapCount := b.tapCount + 1 }.beginPeriod

/-- An accepted TB_START (R108). -/
def started (b : Timebase) : Timebase := { b with running := true, accumulator := 0, period := .starting }

/-- TB_STOP on a RUNNING timebase (R109). -/
def stopped (b : Timebase) : Timebase := { b with running := false, period := .none }

/-- The check of the configuration word (R110): N from 1 to 256. -/
def configOk (v : Word) : Bool := decide (1 ≤ nOf v) && decide (nOf v ≤ 256)

/-- The timebase that loading makes from its image (R112). -/
def load (w : Word) (run : Bool) : Timebase :=
  let b := if configOk w then { Timebase.reset with config := w &&& configMask } else Timebase.reset
  if run then b.started else b

end Timebase

namespace State

/-! ### Owed tap ticks (log 4) -/

/-- What is owed to a tick that has passed: an expiry of a channel, the end of a hold-off, the end of a pulse. -/
inductive OwedPart where
  | timer (t : Fin 8)
  | gate
  | alert
  deriving DecidableEq, Repr

/-- The owed part taken, if it is still owed. -/
def takeOwed (p : OwedPart) (s : State) : State :=
  match p with
  | .timer t => if (s.timer t).tickOwed && (s.timer t).atExpiry then s.expire t else s
  | .gate => if s.gate.state = .reopening ∧ s.gate.tickOwed then s.gateEnterOpen else s
  | .alert => if s.alert.tickOwed then { s with alert := s.alert.tickEnds } else s

/-- The parts owed now. -/
def owedParts (s : State) : List OwedPart :=
  (allTimers.filter fun t => (s.timer t).tickOwed).map OwedPart.timer ++
    (if s.gate.tickOwed then [.gate] else []) ++ (if s.alert.tickOwed then [.alert] else [])

/-- Whatever the last tick still owes is taken before the timestamp counter changes again, by the next tick or by a preset, so
that its records carry the value after that tick (R106); in a free order, also against ALC's own tap tick of that tick. A pulse of
width 1 that one of these effects starts before that tap tick ends by it, before the next tick (R170). -/
def settleOwed (s : State) : State :=
  if s.owedParts.isEmpty then s
  else s.endCommand ((race s.owedParts (fun p => inTickOrder (takeOwed p)) s).takeOwed .alert)

/-! ### Handing out the tap ticks (R105) -/

/-- Who takes a tap tick. -/
inductive TickPart where
  | sample (e : Fin 2)
  | timer (t : Fin 8)
  | gate
  | alert
  deriving DecidableEq, Repr

/-- A tap tick taken by one of them. The counts that reach their end are left owed (log 4), unless a sample of the same
tick is still to come: then they are taken here, before it (R86, R149), and ALC's own tap tick is then placed before that
sample's pulse starts and all later ones (R170). What one event hands over, its record, the intervals of the channels it
triggers and its notices, is taken in a free order but together: nothing of the other input's event of the same tick, or of an
expiry, falls between (DESIGN CHOICE, log 28). -/
def applyTickPart (sampleToCome : Bool) (p : TickPart) (s : State) : State :=
  match p with
  | .sample e => s.sampleInput e
  | .timer t =>
    let s := s.setTimer t (s.timer t).takeTick
    if sampleToCome then s.takeOwed (.timer t) else s
  | .gate =>
    let s := { s with gate := s.gate.takeTick }
    if sampleToCome then s.takeOwed .gate else s
  | .alert =>
    let s := if tapTicks s.alert.pulseTap s.timebase.tapCount then { s with alert := s.alert.takeTick } else s
    if sampleToCome then
      let s := s.takeOwed .alert
      { s with alert := { s.alert with lastTick := .taken } }
    else s

/-- The part is a sample. -/
def TickPart.isSample : TickPart → Bool
  | .sample _ => true
  | _ => false

/-- The parts taken in the order given. -/
def takeTickParts : List TickPart → State → State
  | [], s => s
  | p :: ps, s => takeTickParts ps (s.applyTickPart (ps.any TickPart.isSample) p)

/-- The inputs that take a sample at this tick (R138). -/
def sampling (s : State) : List (Fin 2) := allInputs.filter fun e => (s.input e).samplesAt s.timebase.tapCount

/-- The channels that this tick can reach: their tap ticks, and they are RUNNING or an input that samples now may
trigger them. -/
def tickedTimers (s : State) : List (Fin 8) :=
  allTimers.filter fun t =>
    tapTicks (s.timer t).tap s.timebase.tapCount &&
      ((s.timer t).state == .running || s.sampling.any fun e => (s.timer t).trigger == .input e.val)

/-- Who takes a tap tick at this tick. A pulse can be running, or start by a sample of this tick. -/
def tickParts (s : State) : List TickPart :=
  s.sampling.map TickPart.sample ++ s.tickedTimers.map TickPart.timer ++
    (if s.gate.state == .reopening && tapTicks s.gate.holdOffTap s.timebase.tapCount then [.gate] else []) ++
    (if s.alert.pulse != 0 || (s.alert.pulseMode && !s.sampling.isEmpty) then [.alert] else [])

/-- The tap ticks handed out. Without a sample the parts touch different state and need no order; with one they are
taken in a free order (R86, R124, R128, R170). Every channel, the hold-off and the pulse take their tap tick in this one step, but
for a last count (log 4): what comes later at the same moment because of an effect of this tick, as a hit of a rule that an expiry
of it has armed, meets the tick already counted, although R105, R124, R128, R158 and R170 let each owner take it first
(DESIGN CHOICE, log 30). -/
def handOutTick (s : State) : State :=
  if s.sampling.isEmpty then takeTickParts s.tickParts s
  else takeTickParts (orderParts (Config.raceKey s.draw) 0 s.tickParts) { s with draw := s.draw + 1 }

/-- A tick (R105): the counts of the timebase, and the tap ticks of every block, in one step (DESIGN CHOICE, log 30). -/
def takeTick (s : State) : State :=
  let s := s.settleOwed
  let s := { s with timebase := s.timebase.tick, alert := { s.alert with lastTick := .unplaced } }
  s.endCommand s.handOutTick

end State

/-! ### Commands and writes (R108 to R110) -/

/-- No tick occurs while the timebase is STOPPED (R105, R111). -/
def State.tickIfRunning (s : State) : State := if s.timebase.running then s.takeTick else s

/-- TICK (R105). -/
def execTick (s : State) : Result := whenPowered State.tickIfRunning s

/-- TB_START (R108). -/
def tbStartOp (s : State) : Status × State :=
  if s.timebase.running then (.active, s) else (.accepted, { s with timebase := s.timebase.started })

/-- TB_STOP (R109). -/
def tbStopOp (s : State) : Status × State :=
  (.accepted, if s.timebase.running then { s with timebase := s.timebase.stopped } else s)

/-- A write of the timebase action word: the request in bits 2:0. -/
def tbActionWrite (v : Word) (s : State) : Status × State :=
  match (fld v 0 3).toNat with
  | 0 => (.accepted, s)
  | 1 => tbStartOp s
  | 2 => tbStopOp s
  | _ => (.invalid, s)

/-- A write of the timebase configuration word (R110). -/
def tbConfigWrite (v : Word) (s : State) : Status × State :=
  if s.timebase.running then (.active, s)
  else if !Timebase.configOk v then (.invalid, s)
  else (.accepted, { s with timebase := { s.timebase with config := v &&& Timebase.configMask } })

/-- A write of the timestamp word (R110): the timestamp preset. What the last tick still owes was caused by that tick, and is taken
before the counter changes (R106; log 4). -/
def timestampWrite (v : Word) (s : State) : Status × State :=
  if s.timebase.running then (.active, s)
  else
    let s := s.settleOwed
    (.accepted, { s with timebase := { s.timebase with timestamp := v } })

end Sys2Proof.Machine
end

