-- ==== Sys2Proof/Machine/Meetings.lean ====
section
/-! DEFINITION. What other blocks take among the things that one decision, event or end of a forward hands out (R46, R86, R106;
log 26), and the pin changes, whose events may be so met. -/

namespace Sys2Proof.Machine

namespace State

/-- One such thing, the row of the table that it names, taken in the middle of a command. What the command has done so far is closed
as a command's end closes it (log 14). -/
def takeMeeting (m : Meeting) (s : State) : State :=
  let s := { s with alert := s.alert.commandEnds .unplaced }
  match m with
  | .tick => s.onPower tickIfRunning
  | .expiry t => s.onPower (timerExpires t)
  | .overdue t => s.onPower (measureOverdue t)
  | .holdOffEnd => s.onPower gateEndHoldOff
  | .pin e level => s.changePin .none e level

/-- The pin of input e changes, and what the change names falls among the things that its event hands out. -/
def pinChanges (e : Fin 2) (c : PinChange) (s : State) : State := s.changePin ⟨c.inside, takeMeeting⟩ e c.level

end State

/-- EV_PIN_CHANGE (R137). -/
def execEvPinChange (e : Fin 2) (c : PinChange) (s : State) : Result := .next (s.pinChanges e c)

end Sys2Proof.Machine
end

