-- ==== Sys2Proof/Machine/Decision.lean ====
section
/-! DEFINITION. The decision (spec/02_access_decisions.md): candidates, the need for a pre-read, conditions, the scan, the decided
action, the reservations and the notices. -/

namespace Sys2Proof.Machine

/-! ### Conditions (R30 to R32) -/

/-- The operator holds for a word; CHANGED compares it with the before word (R30, R31). -/
def RuleDef.opHolds (d : RuleDef) (op : CondOp) (w before : Word) : Bool :=
  let masked := w &&& d.dataMask
  let reference := d.reference &&& d.dataMask
  match op with
  | .eq => masked == reference
  | .ne => masked != reference
  | .gt => decide (reference.toNat < masked.toNat)
  | .lt => decide (masked.toNat < reference.toNat)
  | .changed => masked != before &&& d.dataMask

/-- A candidate matches: it has no condition, or its condition holds (R32, R33). -/
def RuleDef.matchesWords (d : RuleDef) (new before : Word) : Bool :=
  match d.op? with
  | none => true
  | some op => d.opHolds op new before && !(d.entering && op != .changed && d.opHolds op before before)

/-! ### Candidates (R26) and the pre-read (R28) -/

/-- The rule is a candidate of an access (R26). -/
def Rule.candidate (x : Rule) (kind : AccessKind) (a : MemAddr) : Bool :=
  x.state == .live && x.defn.inExtent a && x.defn.concerns kind

/-- The rule calls for the before word of a write that carries these lanes (R28). -/
def RuleDef.needsBefore (d : RuleDef) (lanes : Lanes) : Bool :=
  (d.hasCondition && (d.op? == some .changed || d.entering || d.dataMask &&& ~~~laneMask lanes != 0)) ||
    (d.capture && d.content? == some .withBefore)

/-- The transaction needs a pre-read (R28): a write with a candidate that calls for the before word. -/
def State.needsPreread (s : State) (t : Txn) : Bool :=
  t.kind == .write && allRules.any fun r => (s.rule r).candidate t.kind t.addr && (s.rule r).defn.needsBefore t.lanes

/-- The effective new word: the before word with each carried lane replaced (R29). -/
def effectiveNew (t : Txn) (before : Word) : Word :=
  (before &&& ~~~laneMask t.lanes) ||| (t.data &&& laneMask t.lanes)

/-! ### The scan (R33) -/

/-- The hits, ascending, and the deciding rule, over the rules listed. -/
def State.scan (s : State) (t : Txn) (new before : Word) : List (Fin 24) → List (Fin 24) × Option (Fin 24)
  | [] => ([], none)
  | r :: rs =>
    let x := s.rule r
    if x.candidate t.kind t.addr && x.defn.matchesWords new before then
      if x.defn.action? = some .observe then
        let p := s.scan t new before rs
        (r :: p.1, p.2)
      else ([r], some r)
    else s.scan t new before rs

/-! ### What is decided (R34, R35, R38) -/

/-- The default action for a kind (R35). -/
def State.defaultAction (s : State) (kind : AccessKind) : Option Action :=
  match kind with
  | .write => defaultOf (fld s.defaultActions 0 2)
  | .read => defaultOf (fld s.defaultActions 4 2)

/-- The decided action before the reservations: the deciding rule's action, or the over-quota action that replaces it, or
the default. An unlisted code is never in force (R16, R35); FAULT stands for it (log 18). -/
def State.decidedAction (s : State) (t : Txn) (decider : Option (Fin 24)) : Action :=
  match decider with
  | none => (s.defaultAction t.kind).getD .fault
  | some r =>
    let x := s.rule r
    if x.hitOverQuota then x.defn.over?.getD .fault else x.defn.action?.getD .fault

/-- The read data of a read decided DISCARD: the deciding rule's fill value, zero for the default (R34). -/
def State.discardData (s : State) (decider : Option (Fin 24)) : Word :=
  match decider with
  | none => 0
  | some r => (s.rule r).defn.fill

/-! ### Reservations (R36, R39, R40) -/

/-- One reservation: the queue, the source, the content, the OVER_QUOTA flag, and whether it is the deciding rule's own. -/
structure Reservation where
  queue : Fin 4
  source : Fin 25
  content : Content
  overQuota : Bool
  own : Bool
  deriving DecidableEq, Repr

/-- The reservation of a hit, if its rule carries a capture and the record is not suppressed (R39, R40). -/
def State.reservationOf (s : State) (decider : Option (Fin 24)) (r : Fin 24) : Option Reservation :=
  let x := s.rule r
  let own := decider == some r
  if x.defn.capture && (own || !x.hitOverQuota) then
    some ⟨x.defn.captureQueue, r.castSucc, x.defn.content?.getD .addressOnly, own && x.hitOverQuota, own⟩
  else none

/-- The reservations of a decision in their order (R40): the hits ascending, then the unmatched record. -/
def State.reservations (s : State) (hits : List (Fin 24)) (decider : Option (Fin 24)) : List Reservation :=
  hits.filterMap (s.reservationOf decider) ++
    (if decider.isNone && unmatchedPresent s.unmatched then
      [⟨unmatchedQueue s.unmatched, 24, unmatchedContent s.unmatched, false, false⟩]
    else [])

/-- The record of a reservation (R40, R99). `before` is the word a pre-read returned. -/
def Reservation.record (v : Reservation) (t : Txn) (before : Option Word) : RecordBody :=
  .access
    { source := v.source
      number := t.number
      kind := t.kind
      lanes := t.lanes
      addr := t.addr
      content := v.content
      overQuota := v.overQuota
      data := if t.kind = .write ∧ v.content ≠ .addressOnly then some t.data else none
      before := if v.content = .withBefore then before else none
      outcome := none }

/-- The timestamp of the reservations `vs` (R82, R106): the value that the decision has read. A record placed since the decision
began, of number `first` or above, that carries another value would stand ahead of one of them; the reading has then come after that
record, and gives the value standing at the placement. -/
def State.accessStamp (first : Nat) (read : Word) (vs : List Reservation) (s : State) : Word :=
  if vs.any fun v => (s.queue v.queue).reception != .refuse &&
      (s.queue v.queue).list.any fun r => decide (first ≤ r.serial) && r.timestamp != read then
    s.timebase.timestamp
  else read

/-- The reservations placed one after the other (R86), with their timestamp, and whether the deciding rule's own was placed (R42). -/
def State.placeAll (t : Txn) (before : Option Word) (stamp : Word) : List Reservation → State × Bool → State × Bool
  | [], p => p
  | v :: vs, p =>
    let q := p.1.placeAt stamp v.queue (v.record t before)
    placeAll t before stamp vs (q.1, if v.own then q.2 else p.2)

/-! ### What follows a decision (R47, R61, R62, R68) -/

/-- What becomes of a decided transaction: it goes to FORWARD, or it ends with an outcome and an answer. -/
inductive Verdict where
  | forward
  | ended (o : TxnOutcome) (a : Answer)
  deriving DecidableEq, Repr

/-- The gate answers one write (R160). -/
def State.countRefused (s : State) : State := { s with gate := s.gate.refuseWrite }

/-- The consultation of the gate, as its verdict shows (R62, R160): a write that it answers is counted at once. -/
def State.consulted (v : Verdict) (s : State) : State :=
  match v with
  | .ended .gated _ => s.countRefused
  | _ => s

/-- A decided action that needs a forward, met with the port and, for a write, the gate (R47, R62, R68). -/
def State.forwardVerdict (s : State) (t : Txn) : Verdict :=
  if s.path.port = .down then .ended .pathDown .error
  else if t.kind = .write ∧ s.gate.state ≠ .opened then .ended .gated s.gate.answer
  else .forward

/-- The answer of a transaction decided DISCARD (R61). -/
def discardAnswer (t : Txn) (data : Word) : Answer :=
  match t.kind with
  | .read => .doneData data
  | .write => .done

/-- The verdict of a decision (R34, R42, R47). A write that needed a pre-read while the port was DOWN ends PATH_DOWN
whatever was decided (R23). -/
def State.verdict (s : State) (t : Txn) (substitute : Bool) (a : Action) (data : Word) (auditReserved : Bool) :
    Verdict :=
  if substitute then .ended .pathDown .error
  else match a with
    | .discard => .ended .discarded (discardAnswer t data)
    | .fault => .ended .refused .error
    | .audit => if auditReserved then s.forwardVerdict t else .ended .auditRefused .error
    | _ => s.forwardVerdict t

/-- The placement of a decision's reservations, the verdict, and the consultation of the gate where the verdict needs one. The records
of a transaction that ends at its decision complete in the same change (R91), so the placement and the consultation, which gives the
outcome GATED, are one thing: nothing falls between them (DESIGN CHOICE, log 28). -/
def State.reserve (t : Txn) (before : Option Word) (substitute : Bool) (a : Action) (data : Word)
    (vs : List Reservation) (first : Nat) (stamp : Word) (s : State) : State × Verdict :=
  let counts := s.availCounts
  let p := State.placeAll t before (s.accessStamp first stamp vs) vs (s, false)
  let v := p.1.verdict t substitute a data p.2
  match v with
  | .forward => (p.1, v)
  | .ended o _ => ((p.1.completeAll counts o (some data)).consulted v, v)

/-! ### Notices (R43 to R45) -/

/-- The effects of a hit on the hit rule itself and on the flags RULE and QUOTA (R37, R43). -/
def State.hitRule (s : State) (r : Fin 24) : State :=
  let x := s.rule r
  let s := s.setRule r x.hit
  let s := if x.defn.alertOnHit then s.setFlag .rule else s
  if x.hitOverQuota && !x.overQuota then s.setFlag .quota else s

/-- The hits of a decision whose changes of rule states are still to come, ascending: all of them, each with its arm notices,
and those that have brought their rule's countdown to zero (R45). `between` is what is taken before these changes (log 26). -/
structure Changes where
  hits : List (Fin 24)
  zeroed : List (Fin 24)
  between : List Between
  deriving DecidableEq, Repr

/-- The changes that take effect after the decision (R45): the rules whose countdown has come to zero go DORMANT, then
each hit sends its arm notices. A rule that is DISABLED by then is reached by neither (R20). The changes of one decision are taken
together: the spec orders the two at one rule only, and lets a notice of an expiry or an event meet each rule before or after its
change (R149); that nothing falls between the change of one rule and the change of another is the model's (DESIGN CHOICE,
log 26). -/
def State.afterDecision (c : Changes) (s : State) : State :=
  let s := c.zeroed.foldl (fun s r => s.setRule r (s.rule r).disarm) s
  c.hits.foldl (fun s r => s.armFrom (.rule r.val)) s

/-- What a decision hands out and what meets it (R86, R106): the placement of its reservations with the consultation of the gate, the
triggers, the reading of the timestamp counter for its records, and what is named to fall among these. Nothing that is not named falls among them (DESIGN CHOICE,
log 28). -/
inductive DecisionPart where
  | reserve
  | trigger (t : Fin 8)
  | read
  | meet (m : Meeting)
  deriving DecidableEq, Repr

/-- What falls among the things that the decision hands out, as the item names it. -/
def inside? : Between → Option Meeting
  | .inside m => some m
  | _ => none

/-- What falls among the things that the decision of the transaction hands out (log 26). -/
def insideOf (bs : List Between) : List Meeting := bs.filterMap inside?

/-- The parts that a free order concerns: the placement and the triggers that offer records; with something among them, the
reading of the counter and every trigger as well (R106, R124, R128). -/
def State.decisionParts (inside : List Meeting) (ts : List (Fin 8)) (s : State) : List DecisionPart :=
  if inside.isEmpty then .reserve :: (s.offering ts).map .trigger
  else .reserve :: .read :: (ts.map .trigger ++ inside.map .meet)

/-- The timestamp that a decision reads whose parts are taken in this order (R106): TBG takes the reading and a tick one after the
other, and the reading gives the value after the ticks taken before it. The reading does not come after the placement, since a
record placed between the two would then stand behind a newer one (R82). -/
def State.decisionStamp (order : List DecisionPart) (s : State) : Word :=
  if s.timebase.running then
    s.timebase.timestamp + BitVec.ofNat 32 ((order.takeWhile fun p => p != .read && p != .reserve).count (.meet .tick))
  else s.timebase.timestamp

/-- The parts taken in the order given. -/
def State.takeDecisionParts (reserve : State → State × Verdict) (order : List DecisionPart) (q : State × Verdict) :
    State × Verdict :=
  order.foldl (fun q p => match p with
    | .reserve => reserve q.1
    | .trigger c => (q.1.triggerTimer c, q.2)
    | .read => q
    | .meet m => (q.1.takeMeeting m, q.2)) q

/-- What a decision leaves: the state, what becomes of the transaction, and the changes that follow it. -/
structure Decided where
  state : State
  verdict : Verdict
  changes : Changes
  deriving DecidableEq, Repr

/-- A decision (R23): `before` is the word of a pre-read, if one was made; `substitute` says that one was needed while the
port was DOWN (R29). Where a rule was hit, what is named to fall inside the decision falls among the things it hands out, always
after the settings of RULE and QUOTA, although R170 lets ALC take a pulse start after its tick (DESIGN CHOICE, log 26). The
changes of R45 are left to come. -/
def State.decision (t : Txn) (before : Option Word) (substitute : Bool) (s : State) : Decided :=
  let old := before.getD 0
  let new := if before.isSome then effectiveNew t old else t.data
  let p := s.scan t new old allRules
  let hits := p.1
  let action := s.decidedAction t p.2
  let data := s.discardData p.2
  let vs := s.reservations hits p.2
  let zeroed := hits.filter fun r => (s.rule r).countdown == 1
  let ts := s.triggeredBy fun g => hits.any fun r => g == .rule r.val
  let inside := if hits.isEmpty then [] else insideOf t.between
  let quiet := if inside.isEmpty then s.notOffering ts else []
  let order := orderParts (Config.raceKey s.draw) 0 (s.decisionParts inside ts)
  let stamp := s.decisionStamp order
  let first := s.nextSerial
  let s := hits.foldl State.hitRule s
  let s := quiet.foldl (fun s t => s.triggerTimer t) s
  let q := State.takeDecisionParts (State.reserve t before substitute action data vs first stamp) order
    ({ s with draw := s.draw + 1 }, Verdict.forward)
  ⟨q.1, q.2, ⟨hits, zeroed, t.between⟩⟩

/-- A decision met by nothing, and followed by its changes (R45). -/
def State.decideTxn (t : Txn) (before : Option Word) (substitute : Bool) (s : State) : State × Verdict :=
  let d := s.decision { t with between := [] } before substitute
  (d.state.afterDecision d.changes, d.verdict)

/-! ### The two words of this chapter (R35, R36) -/

/-- The check of the default actions word (R35). -/
def defaultActionsOk (v : Word) : Bool := (defaultOf (fld v 0 2)).isSome && (defaultOf (fld v 4 2)).isSome

/-- The check of the unmatched capture word (R36): WITH_BEFORE and unlisted contents are refused when it is present. -/
def unmatchedOk (v : Word) : Bool := !unmatchedPresent v || decide ((fld v 4 2).toNat ≤ 1)

/-- A write of the default actions word (R35). -/
def defaultActionsWriteOp (v : Word) (s : State) : Status × State :=
  if defaultActionsOk v then (.accepted, { s with defaultActions := v &&& defaultActionsMask }) else (.invalid, s)

/-- A write of the unmatched capture word (R36). -/
def unmatchedWriteOp (v : Word) (s : State) : Status × State :=
  if unmatchedOk v then (.accepted, { s with unmatched := v &&& unmatchedMask }) else (.invalid, s)

end Sys2Proof.Machine
end

