-- ==== Sys2Proof/Machine/Path.lean ====
section
/-! DEFINITION. The memory path (spec/03_the_memory_path.md): takings, holds, the two phases, the response limit, the port
states, and upstream reset. The three commands that can decide a transaction are in Machine/Deciding.lean. -/

namespace Sys2Proof.Machine

/-- What the part presents to memory (R51): a full-word read, or a write of the carried lanes. -/
inductive Access where
  | read (addr : MemAddr)
  | write (addr : MemAddr) (lanes : Lanes) (data : Word)
  deriving DecidableEq, Repr

/-- The transaction that a request becomes at its taking (R25, R50): uncarried lanes are zero; a READ has all lanes. -/
def captureRequest (number : BitVec 16) : Request → Txn
  | .read a bs => ⟨number, .read, byteAddr a, 15, 0, bs⟩
  | .write a lanes d bs => ⟨number, .write, byteAddr a, lanes, d &&& laneMask lanes, bs⟩

/-- What falls at the end of the forward, as the item names it. -/
def atEnd? : Between → Option Meeting
  | .atEnd m => some m
  | _ => none

/-- What is left to meet a transaction once it is decided: what falls at the end of its forward (log 26). -/
def afterDeciding (bs : List Between) : List Between := bs.filter fun b => (atEnd? b).isSome

namespace Path

/-- An access begins (R51, R65): the port is BUSY and the timer runs with the limit standing now. -/
def begin (phase : Phase) (t : Txn) (p : Path) : Path :=
  { p with phase := phase, txn := some t, port := .busy, limitTimer := some (limitOf p.limitWord) }

/-- An access ends with its completion (R66): the timer stops and the port returns to READY. -/
def accessDone (p : Path) : Path := { p with port := .ready, limitTimer := none }

/-- The transaction is over (R64): the answer, if one is given, and the phase IDLE with the marker clear. -/
def finish (a : Option Answer) (p : Path) : Path :=
  { p with phase := .idle, txn := none, abandoned := false, answer := a }

/-- The access ran past its limit (R65, R66): LATE, with the timer started again. -/
def late (t : Txn) (p : Path) : Path :=
  { p with port := .late, limitTimer := some (limitOf p.limitWord), expired := some (t.number, t.addr) }

/-- The port leaves LATE or DOWN for the state given, with the timer stopped (R67, R69). -/
def leave (port : PortState) (p : Path) : Path := { p with port := port, limitTimer := none, expired := none }

/-- RESTART (R76). -/
def restart (p : Path) : Path := { p.leave .ready with number := 0, restartHold := false }

/-- Power-on reset and part reset (R75). A request that stays presented stays held. -/
def resetKeepHeld (p : Path) : Path := { Path.reset with held := p.held }

/-- The check of the response limit word (R65). -/
def limitOk (v : Word) : Bool := decide (16 ≤ (limitOf v).toNat) && (!wbit v 16 || decide ((queueCode v).toNat ≤ 3))

end Path

namespace State

/-- At least one hold applies (R52). A part without power takes nothing (log 9). -/
def holdApplies (s : State) : Bool :=
  !s.powered || s.store.state == .loading || s.path.port == .late || s.path.restartHold || s.pins.urst

/-- A request can be taken: the phase is IDLE and no hold applies (R52). -/
def canTake (s : State) : Bool := s.path.phase == .idle && !s.holdApplies

/-- The downstream access in progress (R51). -/
def downstreamAccess (s : State) : Option Access :=
  match s.path.phase, s.path.txn with
  | .preread, some t => some (.read t.addr)
  | .forward, some t =>
    match t.kind with
    | .read => some (.read t.addr)
    | .write => some (.write t.addr t.lanes t.data)
  | _, _ => none

/-- The transaction is over and answered, or not (R64). -/
def finishTxn (a : Option Answer) (s : State) : State := { s with path := s.path.finish a }

/-- A decided transaction goes to FORWARD, or ends (R47, R61, R62). Its records, if it ends, are complete already, and a write that
the gate has answered is counted. -/
def carryOut (t : Txn) (v : Verdict) (s : State) : State :=
  match v with
  | .forward =>
    let s := { s with path := s.path.begin .forward { t with between := afterDeciding t.between } }
    if t.kind = .write then { s with gate := { s.gate with inFlight := true } } else s
  | .ended _ a => s.finishTxn (some a)

/-- No decision was made, so no changes follow. -/
def undecided (s : State) : State × Changes := (s, ⟨[], [], []⟩)

/-- The decision of a transaction, what becomes of it, and the changes still to come. -/
def decideAndCarryOut (t : Txn) (before : Option Word) (substitute : Bool) (s : State) : State × Changes :=
  let d := s.decision t before substitute
  (d.state.carryOut t d.verdict, d.changes)

/-- A taken transaction goes on (R58, R59): a write meets the gate; a write that needs the before word goes to PREREAD; any
other is decided at once. -/
def startTxn (t : Txn) (s : State) : State × Changes :=
  if t.kind = .write ∧ s.gate.state ≠ .opened then (s.countRefused.finishTxn (some s.gate.answer)).undecided
  else if s.needsPreread t then
    if s.path.port = .down then s.decideAndCarryOut t none true
    else { s with path := s.path.begin .preread t }.undecided
  else s.decideAndCarryOut t none false

/-- A request is taken (R52, R55). A drain whose end is due has ended before (R155; log 4). -/
def take (r : Request) (s : State) : State × Changes :=
  let s := s.gateEndDrain
  let n := s.path.number + 1
  let s := { s with path := { s.path with number := n, held := none, abandoned := false, answer := none } }
  s.startTxn (captureRequest n r)

/-- The PATH flag (R72) after a completion. -/
def flagMemErr (c : Completion) (s : State) : State :=
  match c with
  | .memErr => s.setFlag .path
  | .ok _ => s

/-- The gate is told that its write in flight has ended (R63). -/
def gateToldEnd (t : Txn) (s : State) : State :=
  if t.kind = .write then { s with gate := { s.gate with inFlight := false } } else s

/-- What meets in the queues at the end of a forward (R91): the completion of the records, the TIMEOUT record of R71, and
the end of a drain, which offers GATE_CLOSED and, when no cause is left and the mark is clear, GATE_OPENED (R155, R156, R159); and what is named to fall among these
(R106; log 26). -/
inductive EndPart where
  | complete
  | fault
  | drain
  | meet (m : Meeting)
  deriving DecidableEq, Repr

/-- One of those parts. The end of a drain is one part: where it offers GATE_CLOSED and then GATE_OPENED, the two are offered
together, and neither the completion of the records nor the TIMEOUT record falls between them, although R86 and R91 leave the order
of each against each offer open (DESIGN CHOICE, log 28). -/
def applyEndPart (t : Txn) (o : TxnOutcome) (readData : Option Word) (p : EndPart) (s : State) : State :=
  match p with
  | .complete => s.completeAll s.availCounts o readData
  | .fault => s.offerTo s.path.recordQueue (.pathFault .timeout t.number t.addr)
  | .drain => s.gateEndDrain
  | .meet m => s.takeMeeting m

/-- The parts taken in the order given, every order being free (R86, R91). The end of a drain that comes last is left due for
GATE_DRAIN_END (log 4); before another part it is taken here. -/
def takeEndParts (t : Txn) (o : TxnOutcome) (readData : Option Word) : List EndPart → State → State
  | [], s => s
  | [.drain], s => s
  | p :: ps, s => takeEndParts t o readData ps (s.applyEndPart t o readData p)

/-- The parts taken in a free order (log 5). -/
def raceEndParts (t : Txn) (o : TxnOutcome) (readData : Option Word) (parts : List EndPart) (s : State) : State :=
  takeEndParts t o readData (orderParts (Config.raceKey s.draw) 0 parts) { s with draw := s.draw + 1 }

/-- The drain is a part of its own only when its end offers a record. -/
def drainPart (s : State) : List EndPart :=
  if s.gate.drainDue && s.gate.recordQueue.isSome then [.drain] else []

/-- What is named to fall at the end of the forward is used when the end of a drain is a part. -/
def endMeetings (t : Txn) (s : State) : List EndPart :=
  if s.drainPart.isEmpty then [] else (t.between.filterMap atEnd?).map .meet

/-- The TIMEOUT record is a part of its own only when there is a path record queue. -/
def faultPart (s : State) : List EndPart := if s.path.recordQueue.isSome then [.fault] else []

/-- The outcome of a transaction at the end of its forward: its own, or ABANDONED (R63, R74). -/
def endOutcome (s : State) (o : TxnOutcome) : TxnOutcome := if s.path.abandoned then .abandoned else o

/-- The answer given: none for an abandoned transaction (R64). -/
def endAnswer (s : State) (a : Answer) : Option Answer := if s.path.abandoned then none else some a

/-- A forward ends with a completion (R63, R74). ALC takes the setting of PATH, if any, before anything that is named to fall at its
end (R170; DESIGN CHOICE, log 26). -/
def forwardEnds (t : Txn) (c : Completion) (s : State) : State :=
  let o := s.endOutcome (match c with | .ok _ => .completed | .memErr => .memoryError)
  let data := match c with | .ok w => some w | .memErr => none
  let a := s.endAnswer (match c with
    | .ok w => (match t.kind with | .read => .doneData w | .write => .done)
    | .memErr => .error)
  let s := ({ s with path := s.path.accessDone }.flagMemErr c).gateToldEnd t
  (s.raceEndParts t o data (.complete :: (s.drainPart ++ s.endMeetings t))).finishTxn a

/-- A pre-read ends with a completion (R60, R73). -/
def prereadEnds (t : Txn) (c : Completion) (s : State) : State × Changes :=
  let abandoned := s.path.abandoned
  let s := { s with path := s.path.accessDone }.flagMemErr c
  if abandoned then (s.finishTxn none).undecided
  else match c with
    | .memErr => (s.finishTxn (some .error)).undecided
    | .ok w => s.decideAndCarryOut t (some w) false

/-- The response limit expires on the access of t (R66): in PREREAD there are no records to complete. ALC takes the setting of PATH
before anything that is named to fall at the end of the forward (R170; DESIGN CHOICE, log 26). -/
def limitExpires (t : Txn) (s : State) : State :=
  let o := s.endOutcome .timeout
  let a := s.endAnswer .error
  let forward := s.path.phase == .forward
  let s := { s with path := s.path.late t }.setFlag .path
  let s := if forward then s.gateToldEnd t else s
  let parts := if forward then .complete :: (s.faultPart ++ s.drainPart ++ s.endMeetings t) else s.faultPart
  (s.raceEndParts t o none parts).finishTxn a

/-- The second limit period expires (R67): DOWN, the PATH flag, and the DOWN_ENTERED record. A held request that the end of the LATE
hold lets be taken at the same moment is the later command HELD_REQUEST_TAKEN, so DOWN_ENTERED always comes before its reservations,
although R86 leaves the order of the two open, and never carries a newer timestamp than they do, although R106 lets a tick fall
between the two in either order (DESIGN CHOICE, log 29). -/
def secondLimitExpires (s : State) : State :=
  let x := s.path.expired.getD (0, 0)
  let s := { s with path := s.path.leave .down }.setFlag .path
  s.offerTo s.path.recordQueue (.pathFault .downEntered x.1 x.2)

end State

/-! ### Commands -/

/-- REQUEST_WITHDRAWN (R50): a request not yet taken leaves no trace. -/
def execRequestWithdrawn (s : State) : Result := .next { s with path := { s.path with held := none } }

/-- FORWARD_COMPLETE (R63). -/
def execForwardComplete (c : Completion) (s : State) : Result :=
  whenPowered (fun s => match s.path.phase, s.path.txn with
    | .forward, some t => s.endCommand (s.forwardEnds t c)
    | _, _ => s) s

/-- RESPONSE_LIMIT_EXPIRY (R66). -/
def execResponseLimitExpiry (s : State) : Result :=
  whenPowered (fun s => match s.path.port, s.path.txn with
    | .busy, some t => s.endCommand (s.limitExpires t)
    | _, _ => s) s

/-- SECOND_LIMIT_EXPIRY (R67). -/
def execSecondLimitExpiry (s : State) : Result :=
  whenPowered (fun s => match s.path.port with
    | .late => s.endCommand s.secondLimitExpires
    | _ => s) s

/-- STRAY_COMPLETION (R67): discarded, whatever it is; the port returns to READY. -/
def execStrayCompletion (_c : Completion) (s : State) : Result :=
  whenPowered (fun s => match s.path.port with
    | .late => { s with path := s.path.leave .ready }
    | _ => s) s

/-- COMPLETION_IGNORED (R70): it changes no state, sets no flag and makes no record. -/
def execCompletionIgnored (_c : Completion) (s : State) : Result := .next s

/-- URST_ASSERT (R73, R74): the pin, and the abandoned marker of a transaction in flight. -/
def execUrstAssert (s : State) : Result :=
  let s := { s with pins := { s.pins with urst := true } }
  .next (if s.powered && s.path.phase != .idle then { s with path := { s.path with abandoned := true } } else s)

/-- URST_DEASSERT (R52): the hold ends; the marker of a transaction in flight stays (R73). -/
def execUrstDeassert (s : State) : Result := .next { s with pins := { s.pins with urst := false } }

/-! ### Writes (R65, R69) -/

/-- A write of the response limit word (R65). -/
def responseLimitWriteOp (v : Word) (s : State) : Status × State :=
  if Path.limitOk v then (.accepted, { s with path := { s.path with limitWord := v &&& Path.limitMask } })
  else (.invalid, s)

/-- PATH_RESET (the table of R69). -/
def pathResetOp (s : State) : Status × State :=
  match s.path.port with
  | .ready => (.accepted, s)
  | .busy => (.busy, s)
  | .late => (.busy, s)
  | .down => (.accepted, { s with path := s.path.leave .ready })

end Sys2Proof.Machine
end

