-- ==== Sys2Proof/Machine/AlertOutput.lean ====
section
/-! DEFINITION. The commands and writes of the alert controller (spec/09_alert_output.md). -/

namespace Sys2Proof.Machine

/-- ALERT_PULSE_END (R170): the owed tap tick brings the pulse counter to 0 and the line is deasserted. -/
def execAlertPulseEnd (s : State) : Result :=
  whenPowered (fun s => if s.alert.tickOwed then { s with alert := s.alert.tickEnds } else s) s

/-- A clear-flags write (R165). -/
def clearFlagsOp (v : Word) (s : State) : Status × State :=
  (.accepted, { s with alert := s.alert.clearFlags v })

/-- A write of the alert enable word (R166). -/
def alertEnableOp (v : Word) (s : State) : Status × State :=
  (.accepted, s.endCommand { s with alert := s.alert.writeEnables s.timebase.tapCount v })

/-- A write of the alert configuration word (R167). -/
def alertConfigOp (v : Word) (s : State) : Status × State :=
  if Alert.configOk v then (.accepted, { s with alert := s.alert.writeConfig v }) else (.invalid, s)

end Sys2Proof.Machine
end

