-- ==== Sys2Proof/Machine/Store.lean ====
section
/-! DEFINITION. The configuration store and the device actions (spec/10_service_link_lock_and_stored_configuration.md, 10.4 and
10.5): the stored image, SAVE and its end, abandonment, the end of loading, and RESTART. -/

namespace Sys2Proof.Machine

/-! ### The image (R182) -/

/-- The words of one rule of the image. -/
def RuleImage.words (i : RuleImage) : List Word :=
  [i.defn.control, i.defn.base, i.defn.limit, i.defn.dataMask, i.defn.reference, i.defn.fill, i.defn.quotaArming,
    placeBit i.enabled 0]

/-- All of the image as words, in the order of R182: what the check value is computed over. -/
def Image.words (i : Image) : List Word :=
  i.rules.toList.flatMap RuleImage.words ++
  i.queues.toList.flatMap (fun q => [q.config, placeBit q.on 0]) ++
  i.timers.toList.flatMap (fun t => [t.config, place t.reload 0, placeBit t.started 0]) ++
  i.inputs.toList ++
  [i.gate, place i.alertEnables 0, i.alert, i.timebase, placeBit i.timebaseRunning 0, i.defaultActions, i.unmatched,
    i.limitWord, i.code]

/-- The configuration of the part as it stands (R182, R185). -/
def State.capturedImage (s : State) : Image :=
  { rules := s.rules.map fun x => ⟨x.defn, x.isEnabled⟩
    queues := s.queues.map fun q => ⟨q.config, q.on⟩
    timers := s.timers.map fun ch => ⟨ch.config, ch.reload, ch.state != .stopped⟩
    inputs := s.inputs.map fun i => i.config
    gate := s.gate.config
    alertEnables := s.alert.enables
    alert := s.alert.config
    timebase := s.timebase.config
    timebaseRunning := s.timebase.running
    defaultActions := s.defaultActions
    unmatched := s.unmatched
    limitWord := s.path.limitWord
    code := s.link.code }

/-- An image of which some parts hold the new copy and the others the old image (R186; log 7). `new` says which. -/
def Image.torn (new : Nat → Bool) (old copy : Image) : Image :=
  { rules := Vector.ofFn fun i => if new i.val then copy.rules[i] else old.rules[i]
    queues := Vector.ofFn fun i => if new (24 + i.val) then copy.queues[i] else old.queues[i]
    timers := Vector.ofFn fun i => if new (28 + i.val) then copy.timers[i] else old.timers[i]
    inputs := Vector.ofFn fun i => if new (36 + i.val) then copy.inputs[i] else old.inputs[i]
    gate := if new 38 then copy.gate else old.gate
    alertEnables := if new 39 then copy.alertEnables else old.alertEnables
    alert := if new 40 then copy.alert else old.alert
    timebase := if new 41 then copy.timebase else old.timebase
    timebaseRunning := if new 42 then copy.timebaseRunning else old.timebaseRunning
    defaultActions := if new 43 then copy.defaultActions else old.defaultActions
    unmatched := if new 44 then copy.unmatched else old.unmatched
    limitWord := if new 45 then copy.limitWord else old.limitWord
    code := if new 46 then copy.code else old.code }

namespace State

/-! ### Saving (R185, R186) -/

/-- SAVE (R185): BUSY unless the gate is OPEN (R161). That the store is IDLE is the service link's check. -/
def saveOp (s : State) : Status × State :=
  if s.gate.state ≠ .opened then (.busy, s)
  else (.accepted, { s with store :=
    { s.store with state := .saving, copy := some s.capturedImage, saveResult := .none, check := none } })

/-- The writing of a save ends (R185). -/
def endSave (s : State) : State :=
  match s.store.state, s.store.copy with
  | .saving, some c => { s with store :=
      { s.store with
        state := .idle, image := c, check := some (Config.checkValue c.words), copy := none, saveResult := .complete } }
  | _, _ => s

/-- A save in progress stops (R186): the image is torn and the check value stays void. -/
def tearSave (result : SaveResult) (s : State) : State :=
  match s.store.state, s.store.copy with
  | .saving, some c => { s with
      draw := s.draw + 1
      store :=
        { s.store with
          state := .idle, image := .torn (Config.tornNew s.draw) s.store.image c, check := none, copy := none,
          saveResult := result } }
  | _, _ => s

/-! ### The end of loading (R184) -/

/-- Stage 1: each block takes its configuration, with the checks of its chapter. -/
def loadConfiguration (i : Image) (s : State) : State :=
  { s with
    defaultActions := if defaultActionsOk i.defaultActions then i.defaultActions &&& defaultActionsMask else 0
    unmatched := if unmatchedOk i.unmatched then i.unmatched &&& unmatchedMask else 0
    path := { s.path with
      limitWord := if Path.limitOk i.limitWord then i.limitWord &&& Path.limitMask else Path.reset.limitWord }
    queues := Vector.ofFn fun n =>
      let c := i.queues[n].config
      if Queue.configOk c then { s.queues[n] with config := c &&& Queue.configMask } else s.queues[n]
    gate := .load i.gate
    alert :=
      { s.alert with
        enables := i.alertEnables
        config := if Alert.configOk i.alert then i.alert &&& Alert.configMask else Alert.reset.config }
    link := { s.link with code := i.code } }

/-- A queue that the image marks ON is turned on with the checks of R79; its loss count is 0 (R102). -/
def loadQueueOn (i : Image) (s : State) (n : Fin 4) : State :=
  if i.queues[n].on then
    let p := queueTurnOn n s
    if p.1 = .accepted then p.2.setQueue n { p.2.queue n with loss := 0 } else s
  else s

/-- Stage 2: the stored states are put into effect. The queues go first, in order; the rules, the timebase, the timers and
the inputs, which touch different state, take their configuration here as well. -/
def loadStarts (i : Image) (s : State) : State :=
  let s := allQueues.foldl (loadQueueOn i) s
  { s with
    rules := Vector.ofFn fun r => Rule.load r i.rules[r]
    timebase := .load i.timebase i.timebaseRunning
    timers := Vector.ofFn fun t => .load i.timers[t]
    inputs := Vector.ofFn fun e => .load (s.evPin e) i.inputs[e] }

/-- Stage 3: the lock is set from the code (R180), and the gate looks at PFAIL (R162). -/
def loadLockAndGate (s : State) : State :=
  { s with link := { s.link with locked := s.link.code != 0 } }.gateLookAtPfail

/-- The image applied in its stages (R184); `ok` says that the check value matched. A failed check sets CONFIG. -/
def applyImage (ok : Bool) (i : Image) (s : State) : State :=
  let s := (s.loadConfiguration i).loadStarts i
  let s := if ok then s else s.setFlag .config
  let s := s.loadLockAndGate
  { s with store := { s.store with state := .idle, loadDefaults := !ok } }

/-- The stored check value matches the image (R182). -/
def checkMatches (s : State) : Bool := s.store.check == some (Config.checkValue s.store.image.words)

/-- Loading ends (R184): the image when the check value matches, the factory defaults otherwise. -/
def endLoading (s : State) : State :=
  s.endCommand (if s.checkMatches then s.applyImage true s.store.image else s.applyImage false .factory)

/-! ### RESTART (R187) -/

/-- A BUSY-pending that still stands becomes ACCEPTED (R178). -/
def settlePending (s : State) : State :=
  if s.link.pendingMark then { s with link := { s.link with status := .accepted, pendingMark := false } } else s

/-- RESTART takes effect in every block (R187). A drain whose end is due has ended before (log 4); the release of the hold
follows the emptying of the queues and the clearing of the flags (R163). -/
def restartEffect (s : State) : State :=
  let begun := s
  let s := s.gateEndDrain
  let s := { s with path := s.path.restart, alert := s.alert.restart }
  let s := s.restartQueues.mapRules fun _ x => x.restart
  let s := (s.mapTimers fun _ ch => ch.restart).mapInputs fun e i => i.restart (s.evPin e)
  begun.endCommand s.settlePending.gateClearHold

/-- RESTART (R54, R187): at once with no transaction in flight; otherwise the hold is set and the answer is BUSY-pending.
The Bool is the pending marker. -/
def restartOp (s : State) : (Status × Bool) × State :=
  if s.path.phase = .idle then ((.accepted, false), s.restartEffect)
  else ((.busy, true), { s with path := { s.path with restartHold := true } })

end State

/-! ### Commands -/

/-- LOADING_END (R184). -/
def execLoadingEnd (s : State) : Result :=
  whenPowered (fun s => if s.store.state = .loading then s.endLoading else s) s

/-- SAVE_END (R185). -/
def execSaveEnd (s : State) : Result := whenPowered State.endSave s

/-- RESTART_TAKES_EFFECT (R54): the transaction that RESTART waited for has ended. -/
def execRestartTakesEffect (s : State) : Result :=
  whenPowered (fun s => if s.path.restartHold && s.path.phase == .idle then s.restartEffect else s) s

end Sys2Proof.Machine
end

