-- ==== Sys2Proof/Machine/Window.lean ====
section
/-! DEFINITION. What the service window reads (spec/11_formats.md): the layout of every word and of the records. -/

namespace Sys2Proof.Machine

/-! ### Encodings -/

def StoreState.code : StoreState → Word
  | .idle => 0
  | .loading => 1
  | .saving => 2

def SaveResult.code : SaveResult → Word
  | .none => 0
  | .complete => 1
  | .abandoned => 2

def Status.code : Status → Word
  | .accepted => 0
  | .locked => 1
  | .busy => 2
  | .active => 3
  | .invalid => 4
  | .address => 5

def Phase.code : Phase → Word
  | .idle => 0
  | .preread => 1
  | .forward => 2

def PortState.code : PortState → Word
  | .ready => 0
  | .busy => 1
  | .late => 2
  | .down => 3

def RuleState.code : RuleState → Word
  | .disabled => 0
  | .dormant => 1
  | .live => 2

def TimerState.code : TimerState → Word
  | .stopped => 0
  | .running => 1
  | .lapsed => 2
  | .waiting => 3

def GateState.code : GateState → Word
  | .opened => 0
  | .draining => 1
  | .closed => 2
  | .reopening => 3

def TxnOutcome.code : TxnOutcome → Word
  | .completed => 0
  | .discarded => 1
  | .refused => 2
  | .auditRefused => 3
  | .memoryError => 4
  | .timeout => 5
  | .pathDown => 6
  | .gated => 7
  | .abandoned => 8

/-! ### Records (11.6) -/

/-- The kind in bits 3:0 of word 0. -/
def RecordBody.kindCode : RecordBody → Word
  | .access _ => 1
  | .timerExpiry .. => 2
  | .timerInterval .. => 3
  | .inputEvent .. => 4
  | .gateClosed _ => 5
  | .gateOpened _ => 6
  | .pathFault .. => 7

/-- The source in bits 12:8 of word 0. -/
def RecordBody.source : RecordBody → Word
  | .access a => BitVec.ofNat 32 a.source.val
  | .timerExpiry t _ => BitVec.ofNat 32 t.val
  | .timerInterval t _ => BitVec.ofNat 32 t.val
  | .inputEvent e _ _ => BitVec.ofNat 32 e.val
  | _ => 0

/-- The fields of word 0 that an ACCESS record alone carries. -/
def AccessRecord.word0 (a : AccessRecord) : Word :=
  (match a.outcome with | some o => o.code <<< 16 | none => 0) ||| placeBit (a.kind == .write) 20 |||
    place a.lanes 24 ||| placeBit a.overQuota 28 ||| placeBit a.data.isSome 29 ||| placeBit a.before.isSome 30

/-- The auxiliary field, in word 4 of every kind but ACCESS. -/
def RecordBody.auxiliary : RecordBody → Word
  | .timerExpiry _ m => place m.code 0
  | .timerInterval _ v => place v 0
  | .inputEvent _ c level => place c 0 ||| placeBit level 8
  | .gateClosed cause => placeBit (cause == .service) 0
  | .gateOpened n => place n 0
  | .pathFault type _ _ => placeBit (type == .downEntered) 0
  | .access _ => 0

/-- A word of a record (R191). -/
def Record.word (r : Record) (off : Fin 6) : Word :=
  match off.val with
  | 0 => r.body.kindCode ||| r.body.source <<< 8 ||| (match r.body with | .access a => a.word0 | _ => 0)
  | 1 => r.timestamp
  | 2 => (match r.body with | .access a => place a.number 0 | .pathFault _ n _ => place n 0 | _ => 0)
  | 3 => (match r.body with | .access a => place a.addr 0 | .pathFault _ _ x => place x 0 | _ => 0)
  | 4 => (match r.body with | .access a => a.data.getD 0 | b => b.auxiliary)
  | _ => (match r.body with | .access a => a.before.getD 0 | _ => 0)

/-- A word of a copy; a copy of kind NONE reads as zero (R191). -/
def copyWord (r : Option Record) (off : Fin 6) : Word :=
  match r with
  | some r => r.word off
  | none => 0

/-- What the link drives on SDO: nothing, low, or a word, most significant bit first. -/
inductive Sdo where
  | notDriven
  | low
  | word (w : Word)
  deriving DecidableEq, Repr

namespace State

/-- The record that a copy made now would hold: the oldest one if it is COMPLETE (R92). -/
def copyNow (s : State) (n : Fin 4) : Option Record :=
  match (s.queue n).list with
  | r :: _ => if r.isPending then none else some r
  | [] => none

/-! ### The words (11.2 to 11.5) -/

/-- A device word. -/
def readDevice (w : DeviceWord) (s : State) : Word :=
  match w with
  | .identification => 0x4B470124
  | .status => placeBit s.link.locked 0 ||| s.store.state.code <<< 1 ||| placeBit s.store.loadDefaults 3 |||
      s.store.saveResult.code <<< 4 ||| placeBit s.path.restartHold 6
  | .action => 0
  | .requestStatus => s.link.status.code ||| placeBit s.link.pendingMark 7
  | .lock => placeBit s.link.locked 0
  | .accessCode => 0
  | .defaultActions => s.defaultActions
  | .unmatched => s.unmatched
  | .responseLimit => s.path.limitWord
  | .pathState => s.path.phase.code ||| placeBit s.path.abandoned 2 ||| placeBit s.path.held.isSome 3 |||
      placeBit (s.store.state == .loading) 4 ||| placeBit (s.path.port == .late) 5 ||| placeBit s.path.restartHold 6 |||
      placeBit s.pins.urst 7 ||| s.path.port.code <<< 8
  | .transactionNumber => place s.path.number 0

/-- A word of a rule entry (11.3, R190). -/
def readRule (r : Fin 24) (off : Fin 8) (s : State) : Word :=
  let x := s.rule r
  match off.val with
  | 0 => x.defn.control ||| place x.countdown 24
  | 1 => x.defn.base
  | 2 => x.defn.limit
  | 3 => x.defn.dataMask
  | 4 => x.defn.reference
  | 5 => x.defn.fill
  | 6 => x.defn.quotaArming
  | _ => x.state.code ||| placeBit x.overQuota 2 ||| placeBit x.alerted 3 ||| place x.window 4 ||| place x.hits 16

/-- A word of a queue (R81). -/
def readQueue (n : Fin 4) (off : Fin 4) (s : State) : Word :=
  let q := s.queue n
  match off.val with
  | 0 => q.config
  | 1 => 0
  | 2 => BitVec.ofNat 32 q.list.length ||| BitVec.ofNat 32 q.available <<< 16 ||| placeBit q.on 31
  | _ => place q.loss 0 ||| BitVec.ofNat 32 q.pendingCount <<< 16

/-- A word of a pop or peek window, from the copy of the frame if there is one (R92). -/
def readWindow (k : WindowKind) (n : Fin 4) (off : Fin 6) (s : State) : Word :=
  match s.copy with
  | some c => if c.window = k ∧ c.queue = n then copyWord c.record off else copyWord (s.copyNow n) off
  | none => copyWord (s.copyNow n) off

/-- A word of a timer channel (R132). -/
def readTimer (t : Fin 8) (off : Fin 6) (s : State) : Word :=
  let ch := s.timer t
  match off.val with
  | 0 => ch.config
  | 1 => place ch.reload 0
  | 2 => 0
  | 3 => ch.state.code ||| place ch.counter 16
  | 4 => place ch.last 0
  | _ => place ch.minimum 0 ||| place ch.maximum 16

/-- A word of an input (R143). -/
def readInput (e : Fin 2) (off : Fin 3) (s : State) : Word :=
  let i := s.input e
  let pin := s.evPin e
  let m := i.sampler.getD (.seed pin)
  match off.val with
  | 0 => i.config
  | 1 => placeBit i.enabled 0 ||| placeBit pin 1 ||| placeBit m.seen 2 ||| placeBit m.newest 3 |||
      placeBit m.middle 4 ||| placeBit m.oldest 5 ||| place i.count 8
  | _ => i.lastEvent

/-- A word of the gate (R153). -/
def readGate (off : Fin 3) (s : State) : Word :=
  let g := s.gate
  match off.val with
  | 0 => g.config
  | 1 => 0
  | _ => g.state.code ||| placeBit g.pfail 2 ||| placeBit g.hold 3 ||| placeBit g.powerSeen 4 |||
      placeBit g.inFlight 5 ||| place g.holdOff 8 ||| place g.refused 16

/-- A word of the alert controller (R164, R166, R167). -/
def readAlert (off : Fin 4) (s : State) : Word :=
  let a := s.alert
  match off.val with
  | 0 => place a.flags 0
  | 1 => place a.enables 0
  | 2 => a.config
  | _ => placeBit a.line 0 ||| placeBit a.pulseMode 1 ||| place a.pulse 8

/-- A word of the timebase (R110). -/
def readTimebase (off : Fin 4) (s : State) : Word :=
  let b := s.timebase
  match off.val with
  | 0 => b.config
  | 1 => 0
  | 2 => b.timestamp
  | _ => placeBit b.running 0 ||| place b.accumulator 4 ||| place b.tapCount 16

/-- What a READ frame takes at an address (R175, R189). Reading changes nothing but for the copy and the removal, which
are commands of their own. -/
def readWord (a : ServiceAddr) (s : State) : Word :=
  match targetOf a with
  | .device w => s.readDevice w
  | .rule r off => s.readRule r off
  | .queue n off => s.readQueue n off
  | .window k n off => s.readWindow k n off
  | .timer t off => s.readTimer t off
  | .input e off => s.readInput e off
  | .gate off => s.readGate off
  | .alert off => s.readAlert off
  | .timebase off => s.readTimebase off
  | .unmapped => 0

/-! ### The output SDO (R174, R175, R183) -/

/-- SDO at the moment the next word of the frame is to be driven. It is not driven while SCS_N is high (R174), while RST is
asserted (R183), without power (log 9), or with no frame in progress (log 21). It is low in a header, in a WRITE frame, in a
void frame and after the words of the count (R174). A READ frame drives the word it takes (R175). -/
def sdo (s : State) : Sdo :=
  if !s.powered || s.pins.rst || !s.pins.scsLow then .notDriven
  else match s.link.frame with
    | .idle => .notDriven
    | .data .read a (_ + 1) => .word (s.readWord a)
    | _ => .low

end State

/-- The level of SDO during bit `i` of the word being sent, counted from its first bit; none when SDO is not driven. A word is
sent most significant byte first, each byte most significant bit first (R174). -/
def Sdo.bit (o : Sdo) (i : Fin 32) : Option Bool :=
  match o with
  | .notDriven => none
  | .low => some false
  | .word w => some (w.getMsbD i.val)

end Sys2Proof.Machine
end

