-- ==== Sys2Proof/Machine/Link.lean ====
section
/-! DEFINITION. The service link (spec/10_service_link_lock_and_stored_configuration.md, 10.1 and 10.2): frames, the checks of a
write word, the lock, and the read-out of records (spec/04, 4.4). -/

namespace Sys2Proof.Machine

namespace State

/-! ### Frames (R174) -/

/-- The frame state. -/
def setFrame (f : Frame) (s : State) : State := { s with link := { s.link with frame := f } }

/-- The request status and its marker (R178). -/
def setStatus (st : Status) (mark : Bool) (s : State) : State :=
  { s with link := { s.link with status := st, pendingMark := mark } }

/-- A frame begins with its header (R174). A void header sets the status INVALID. -/
def beginFrame (kind : HeaderKind) (addr : ServiceAddr) (count : BitVec 8) (s : State) : State :=
  if count.toNat = 0 ∨ 64 < count.toNat then (s.setFrame .void).setStatus .invalid false
  else match kind with
    | .read => s.setFrame (.data .read addr count.toNat)
    | .write => s.setFrame (.data .write addr count.toNat)
    | .unnamed => (s.setFrame .void).setStatus .invalid false

/-! ### Write words (R176, R177) -/

/-- Checks 1 to 3 of R177 as far as they do not depend on the object: the status of the refusal, if one applies. -/
def linkCheck (s : State) (t : Target) : Option Status :=
  if t = .unmapped then some .address
  else if s.link.locked ∧ t ≠ .device .lock ∧ t ≠ .alert 0 then some .locked
  else if s.store.state = .loading ∨ (s.store.state = .saving ∧ t ≠ .device .lock) then some .busy
  else none

/-- A complete write word at an address of the frame: the checks in their order, the word's own operation if they pass, and
the request status (R176, R177). -/
def writeWord (a : ServiceAddr) (op : State → (Status × Bool) × State) (s : State) : State :=
  match s.linkCheck (targetOf a) with
  | some st => s.setStatus st false
  | none => (op s).2.setStatus (op s).1.1 (op s).1.2

/-- The next word of a WRITE frame, if one is still to come: its address, and the frame after it. -/
def nextWrite (s : State) : Option (ServiceAddr × Frame) :=
  match s.link.frame with
  | .data .write a (left + 1) => some (a, .data .write (a + 1) left)
  | _ => none

/-- A write word at the address `a`: it is the next word of the WRITE frame being served. Otherwise there is no such word
(log 2). -/
def serviceWrite' (a : ServiceAddr) (op : State → (Status × Bool) × State) (s : State) : State :=
  match s.nextWrite with
  | some (x, f) => if x = a then (s.setFrame f).writeWord a op else s
  | none => s

/-- An operation whose answer carries no pending marker. -/
def plain (op : State → Status × State) (s : State) : (Status × Bool) × State := (((op s).1, false), (op s).2)

/-- A write word whose answer carries no pending marker. -/
def serviceWrite (a : ServiceAddr) (op : State → Status × State) (s : State) : State := s.serviceWrite' a (plain op)

/-! ### Reading out records (R92 to R95) -/

/-- The copy of the frame is of this window. -/
def copied (c : Option ReadCopy) (k : WindowKind) (n : Fin 4) : Bool :=
  match c with
  | some c => c.window == k && c.queue == n
  | none => false

/-- A window that a READ frame reaches: its kind and queue, the word reached first, and the frame after that word. -/
structure Reached where
  window : WindowKind
  queue : Fin 4
  word : Fin 6
  addr : ServiceAddr
  left : Nat
  deriving DecidableEq, Repr

/-- The next window that a READ frame reaches within its remaining words; the rest of a window already copied and all
other words are read on the way (log 20). -/
def windowAhead (c : Option ReadCopy) : ServiceAddr → Nat → Option Reached
  | _, 0 => none
  | a, left + 1 =>
    match targetOf a with
    | .window k n off => if copied c k n then windowAhead c (a + 1) left else some ⟨k, n, off, a + 1, left⟩
    | _ => windowAhead c (a + 1) left

/-- The next window of the READ frame being served. -/
def nextWindow (s : State) : Option Reached :=
  match s.link.frame with
  | .data .read a left => windowAhead s.copy a left
  | _ => none

/-- The record that a pop has copied leaves the list, if the read-out began at word 0 and the record is still the oldest
(R93, R94). -/
def removeCopied (s : State) : State :=
  match s.copy with
  | some ⟨.pop, n, true, some r⟩ =>
    (match (s.queue n).list with
    | x :: _ => if x.serial = r.serial then s.dropOldest n else s
    | [] => s)
  | _ => s

/-- The first word of a window is taken and the copy made (R92), when that window is the next one the frame reaches. A frame that
has gone on to it from a pop window has clocked out that window's word 5 on the way, which removes the record copied there
unless POP_REMOVE has removed it already (R93). -/
def makeCopy (k : WindowKind) (n : Fin 4) (s : State) : State :=
  match s.nextWindow with
  | some w =>
    if w.window = k ∧ w.queue = n then
      let s := s.removeCopied
      { s with copy := some ⟨k, n, w.word == 0, s.copyNow n⟩ }.setFrame (.data .read w.addr w.left)
    else s
  | none => s

/-- The pop window of queue n is being read and its word 5 is within the frame: the frame after that word (R93). -/
def popWord5 (n : Fin 4) (s : State) : Option Frame :=
  match s.link.frame with
  | .data .read a left =>
    let d := (popAddr n 5 - a).toNat
    if copied s.copy .pop n && decide (d < left) && decide (d ≤ 5) then
      some (.data .read (popAddr n 5 + 1) (left - (d + 1)))
    else none
  | _ => none

/-! ### The lock (R179, R180) -/

/-- A write of the lock word (R179). -/
def lockWordOp (v : Word) (s : State) : Status × State :=
  if v = s.link.code then (.accepted, { s with link := { s.link with locked := false } })
  else (.locked, { s with link := { s.link with locked := true } })

/-- A write of the access code word (R180). -/
def accessCodeOp (v : Word) (s : State) : Status × State :=
  (.accepted, { s with link := { s.link with code := v } })

/-! ### Any word at its address (R177, R189) -/

/-- A read-only word: INVALID (R177). -/
def readOnlyOp (s : State) : Status × State := (.invalid, s)

/-- A write of the device action word: the request in bits 2:0 (R181). -/
def deviceActionWrite (v : Word) (s : State) : (Status × Bool) × State :=
  match (fld v 0 3).toNat with
  | 0 => ((.accepted, false), s)
  | 1 => plain saveOp s
  | 2 => s.restartOp
  | 3 => plain pathResetOp s
  | _ => ((.invalid, false), s)

/-- A write of a device word. -/
def deviceWrite (w : DeviceWord) (v : Word) (s : State) : (Status × Bool) × State :=
  match w with
  | .action => s.deviceActionWrite v
  | .lock => plain (lockWordOp v) s
  | .accessCode => plain (accessCodeOp v) s
  | .defaultActions => plain (defaultActionsWriteOp v) s
  | .unmatched => plain (unmatchedWriteOp v) s
  | .responseLimit => plain (responseLimitWriteOp v) s
  | _ => plain readOnlyOp s

/-- A write of a word of a rule entry. -/
def ruleWrite (r : Fin 24) (off : Fin 8) (v : Word) (s : State) : Status × State :=
  match off.val with
  | 0 => ruleWordWrite r .control v s
  | 1 => ruleWordWrite r .base v s
  | 2 => ruleWordWrite r .limit v s
  | 3 => ruleWordWrite r .dataMask v s
  | 4 => ruleWordWrite r .reference v s
  | 5 => ruleWordWrite r .fill v s
  | 6 => ruleWordWrite r .quotaArming v s
  | _ => readOnlyOp s

/-- The operation of a write word by what its address names. -/
def targetWrite (t : Target) (v : Word) (s : State) : (Status × Bool) × State :=
  match t with
  | .device w => s.deviceWrite w v
  | .rule r off => plain (ruleWrite r off v) s
  | .queue n off =>
    (match off.val with
    | 0 => plain (queueConfigWrite n v) s
    | 1 => plain (queueActionWrite n v) s
    | _ => plain readOnlyOp s)
  | .timer t off =>
    (match off.val with
    | 0 => plain (timerConfigWrite t .configuration v) s
    | 1 => plain (timerConfigWrite t .reload v) s
    | 2 => plain (timerActionWrite t v) s
    | _ => plain readOnlyOp s)
  | .input e off =>
    (match off.val with
    | 0 => plain (inputConfigWrite e v) s
    | _ => plain readOnlyOp s)
  | .gate off =>
    (match off.val with
    | 0 => plain (gateConfigWrite v) s
    | 1 => plain (gateActionWrite v) s
    | _ => plain readOnlyOp s)
  | .alert off =>
    (match off.val with
    | 0 => plain (clearFlagsOp v) s
    | 1 => plain (alertEnableOp v) s
    | 2 => plain (alertConfigOp v) s
    | _ => plain readOnlyOp s)
  | .timebase off =>
    (match off.val with
    | 0 => plain (tbConfigWrite v) s
    | 1 => plain (tbActionWrite v) s
    | 2 => plain (timestampWrite v) s
    | _ => plain readOnlyOp s)
  | _ => plain readOnlyOp s

end State

/-! ### Commands of the link -/

/-- SERVICE_FRAME_HEADER (R174). While RST is asserted, or without power, the link serves no frame (R183); a frame begins
only at a fall of SCS_N. -/
def execServiceFrameHeader (kind : HeaderKind) (addr : ServiceAddr) (count : BitVec 8) (s : State) : Result :=
  .next (
    if s.pins.scsLow then s
    else
      let s := { s with pins := { s.pins with scsLow := true } }
      if s.powered && !s.pins.rst then s.beginFrame kind addr count else s)

/-- SCS_N_RISE (R174): the frame ends, and its copy with it (R92). -/
def execScsNRise (s : State) : Result :=
  .next ({ s with pins := { s.pins with scsLow := false }, copy := none }.setFrame .idle)

/-- POP_WINDOW_READ (R92). -/
def execPopWindowRead (n : Fin 4) (s : State) : Result := whenPowered (State.makeCopy .pop n) s

/-- PEEK (R95): the copy is made through the peek window. -/
def execPeek (n : Fin 4) (s : State) : Result := whenPowered (State.makeCopy .peek n) s

/-- POP_REMOVE (R93): word 5 is clocked out whole. -/
def execPopRemove (n : Fin 4) (s : State) : Result :=
  whenPowered (fun s => match s.popWord5 n with
    | some f => s.removeCopied.setFrame f
    | none => s) s

/-- REGISTER_WRITE (R177): a complete write word at the current address of the WRITE frame. -/
def execRegisterWrite (v : Word) (s : State) : Result :=
  whenPowered (fun s => match s.nextWrite with
    | some (a, f) => (s.setFrame f).writeWord a (State.targetWrite (targetOf a) v)
    | none => s) s

end Sys2Proof.Machine
end

