-- ==== Sys2Proof/Machine/Writes.lean ====
section
/-! DEFINITION. The commands that are one write word of a WRITE frame, each at the address of its word (R189). Every one is put
to the checks of R177 and answers through the request status. -/

namespace Sys2Proof.Machine

/-- The addresses of the words outside the numbered blocks (R189). -/
def actionAddr : ServiceAddr := 0x002
def lockAddr : ServiceAddr := 0x004
def accessCodeAddr : ServiceAddr := 0x005
def defaultActionsAddr : ServiceAddr := 0x006
def unmatchedAddr : ServiceAddr := 0x007
def responseLimitAddr : ServiceAddr := 0x008
def gateConfigAddr : ServiceAddr := 0x1B0
def gateActionAddr : ServiceAddr := 0x1B1
def alertFlagsAddr : ServiceAddr := 0x1B8
def alertEnableAddr : ServiceAddr := 0x1B9
def alertConfigAddr : ServiceAddr := 0x1BA
def timebaseConfigAddr : ServiceAddr := 0x1C0
def timebaseActionAddr : ServiceAddr := 0x1C1
def timestampAddr : ServiceAddr := 0x1C2

/-- RULE_DEFINITION_WRITE (R15). -/
def execRuleDefinitionWrite (r : Fin 24) (w : RuleWord) (v : Word) (s : State) : Result :=
  whenPowered (State.serviceWrite (ruleAddr r (ruleWordOffset w)) (ruleWordWrite r w v)) s

/-- The write word ENABLE at the control word of rule r. -/
def State.enableWrite (r : Fin 24) (s : State) : State := s.serviceWrite (ruleAddr r 0) (ruleEnable r)

/-- The write word DISABLE at the control word of rule r. -/
def State.disableWrite (r : Fin 24) (s : State) : State := s.serviceWrite (ruleAddr r 0) (ruleDisable r)

/-- ENABLE (R16, R17). -/
def execEnable (r : Fin 24) (s : State) : Result := whenPowered (State.enableWrite r) s

/-- DISABLE (R18). -/
def execDisable (r : Fin 24) (s : State) : Result := whenPowered (State.disableWrite r) s

/-- CLEAR_HITS (R19). -/
def execClearHits (r : Fin 24) (s : State) : Result :=
  whenPowered (State.serviceWrite (ruleAddr r 0) (ruleClearHits r)) s

/-- DEFAULT_ACTIONS_WRITE (R35). -/
def execDefaultActionsWrite (v : Word) (s : State) : Result :=
  whenPowered (State.serviceWrite defaultActionsAddr (defaultActionsWriteOp v)) s

/-- UNMATCHED_CAPTURE_WRITE (R36). -/
def execUnmatchedCaptureWrite (v : Word) (s : State) : Result :=
  whenPowered (State.serviceWrite unmatchedAddr (unmatchedWriteOp v)) s

/-- RESPONSE_LIMIT_WRITE (R65). -/
def execResponseLimitWrite (v : Word) (s : State) : Result :=
  whenPowered (State.serviceWrite responseLimitAddr (responseLimitWriteOp v)) s

/-- QUEUE_CONFIGURATION_WRITE (R78). -/
def execQueueConfigurationWrite (n : Fin 4) (v : Word) (s : State) : Result :=
  whenPowered (State.serviceWrite (queueAddr n 0) (queueConfigWrite n v)) s

/-- QUEUE_ON (R79). -/
def execQueueOn (n : Fin 4) (s : State) : Result :=
  whenPowered (State.serviceWrite (queueAddr n 1) (queueTurnOn n)) s

/-- QUEUE_OFF (R80). -/
def execQueueOff (n : Fin 4) (s : State) : Result :=
  whenPowered (State.serviceWrite (queueAddr n 1) (queueTurnOff n)) s

/-- FLUSH (R96). -/
def execFlush (n : Fin 4) (s : State) : Result :=
  whenPowered (State.serviceWrite (queueAddr n 1) (queueFlush n)) s

/-- TB_START (R108). -/
def execTbStart (s : State) : Result := whenPowered (State.serviceWrite timebaseActionAddr tbStartOp) s

/-- TB_STOP (R109). -/
def execTbStop (s : State) : Result := whenPowered (State.serviceWrite timebaseActionAddr tbStopOp) s

/-- TIMEBASE_CONFIGURATION_WRITE (R110). -/
def execTimebaseConfigurationWrite (v : Word) (s : State) : Result :=
  whenPowered (State.serviceWrite timebaseConfigAddr (tbConfigWrite v)) s

/-- TIMESTAMP_PRESET (R110). -/
def execTimestampPreset (v : Word) (s : State) : Result :=
  whenPowered (State.serviceWrite timestampAddr (timestampWrite v)) s

/-- TIMER_CONFIGURATION_WRITE (R114). -/
def execTimerConfigurationWrite (t : Fin 8) (w : TimerWord) (v : Word) (s : State) : Result :=
  whenPowered (State.serviceWrite (timerAddr t (timerWordOffset w)) (timerConfigWrite t w v)) s

/-- START (R116). -/
def execStart (t : Fin 8) (s : State) : Result :=
  whenPowered (State.serviceWrite (timerAddr t 2) (timerStart t)) s

/-- STOP (R117). -/
def execStop (t : Fin 8) (s : State) : Result :=
  whenPowered (State.serviceWrite (timerAddr t 2) (timerStop t)) s

/-- PRESET (R118). -/
def execPreset (t : Fin 8) (s : State) : Result :=
  whenPowered (State.serviceWrite (timerAddr t 2) (timerPreset t)) s

/-- INPUT_CONFIGURATION_WRITE (R135). -/
def execInputConfigurationWrite (e : Fin 2) (v : Word) (s : State) : Result :=
  whenPowered (State.serviceWrite (inputAddr e 0) (inputConfigWrite e v)) s

/-- GATE_HOLD (R152). -/
def execGateHold (s : State) : Result := whenPowered (State.serviceWrite gateActionAddr gateHoldWrite) s

/-- GATE_RELEASE (R152). -/
def execGateRelease (s : State) : Result := whenPowered (State.serviceWrite gateActionAddr gateReleaseWrite) s

/-- GATE_CONFIGURATION_WRITE (R153). -/
def execGateConfigurationWrite (v : Word) (s : State) : Result :=
  whenPowered (State.serviceWrite gateConfigAddr (gateConfigWrite v)) s

/-- CLEAR_FLAGS (R165). -/
def execClearFlags (v : Word) (s : State) : Result :=
  whenPowered (State.serviceWrite alertFlagsAddr (clearFlagsOp v)) s

/-- ALERT_ENABLE_WRITE (R166). -/
def execAlertEnableWrite (v : Word) (s : State) : Result :=
  whenPowered (State.serviceWrite alertEnableAddr (alertEnableOp v)) s

/-- ALERT_CONFIGURATION_WRITE (R167). -/
def execAlertConfigurationWrite (v : Word) (s : State) : Result :=
  whenPowered (State.serviceWrite alertConfigAddr (alertConfigOp v)) s

/-- LOCK_WORD_WRITE (R179). -/
def execLockWordWrite (v : Word) (s : State) : Result :=
  whenPowered (State.serviceWrite lockAddr (State.lockWordOp v)) s

/-- ACCESS_CODE_WRITE (R180). -/
def execAccessCodeWrite (v : Word) (s : State) : Result :=
  whenPowered (State.serviceWrite accessCodeAddr (State.accessCodeOp v)) s

/-- SAVE (R185). -/
def execSave (s : State) : Result := whenPowered (State.serviceWrite actionAddr State.saveOp) s

/-- RESTART (R187). -/
def execRestart (s : State) : Result := whenPowered (State.serviceWrite' actionAddr State.restartOp) s

/-- PATH_RESET (R188). -/
def execPathReset (s : State) : Result := whenPowered (State.serviceWrite actionAddr pathResetOp) s

end Sys2Proof.Machine
end

