-- ==== Sys2Proof/Machine/Deciding.lean ====
section
/-! DEFINITION. The three commands that can decide a transaction (R50, R52, R60), and what is taken between a decision and the
changes of rule states that follow it (R20, R45, R149). -/

namespace Sys2Proof.Machine

namespace State

/-- One thing taken between a decision and its changes: the row of the table that it names. What falls inside the decision or at the
end of the forward is taken there. -/
def meet (b : Between) (s : State) : State :=
  match b with
  | .expiry t => s.onPower (timerExpires t)
  | .overdue t => s.onPower (measureOverdue t)
  | .pin e c => s.pinChanges e c
  | .tick => s.onPower tickIfRunning
  | .enable r => s.onPower (enableWrite r)
  | .disable r => s.onPower (disableWrite r)
  | .inside _ => s
  | .atEnd _ => s

/-- The things taken between a decision and its changes, in their order. -/
def meetAll (bs : List Between) (s : State) : State := bs.foldl (fun s b => s.meet b) s

/-- A command that can decide, begun in `s`: what falls between the decision and its changes meets the decision done and the
changes not yet applied (R20, R45, R149). Where no rule was hit nothing changes, and there is nothing to fall between. -/
def thenChanges (s : State) (p : State × Changes) : State :=
  let u := s.endCommand p.1
  if p.2.hits.isEmpty then u else (u.meetAll p.2.between).afterDecision p.2

/-- A request is presented (R50, R52): taken at once when nothing holds it, otherwise it waits as the held request. -/
def present (r : Request) (s : State) : State × Changes :=
  let s := { s with path := { s.path with answer := none } }
  if s.canTake then s.take r else { s with path := { s.path with held := some r } }.undecided

/-- The held request is taken once the phase is IDLE and no hold is left (R52, R64). -/
def takeHeld (s : State) : State × Changes :=
  match s.path.held with
  | some r => if s.canTake then s.take r else s.undecided
  | none => s.undecided

/-- The pre-read in progress ends (R60). -/
def completePreread (c : Completion) (s : State) : State × Changes :=
  match s.powered, s.path.phase, s.path.txn with
  | true, .preread, some t => s.prereadEnds t c
  | _, _, _ => s.undecided

end State

/-- UPSTREAM_REQUEST (R50, R52). While one request waits no second one is presented (R50; log 2). A WRITE without a lane is no
request (log 19). -/
def execUpstreamRequest (r : Request) (s : State) : Result :=
  if !r.wf then .refused .emptyLanes
  else .next (if s.path.held.isSome then s else s.thenChanges (s.present r))

/-- HELD_REQUEST_TAKEN (R52, R64). -/
def execHeldRequestTaken (s : State) : Result := .next (s.thenChanges s.takeHeld)

/-- PREREAD_COMPLETE (R60). -/
def execPrereadComplete (c : Completion) (s : State) : Result := .next (s.thenChanges (s.completePreread c))

end Sys2Proof.Machine
end

