-- ==== Sys2Proof/Machine/Power.lean ====
section
/-! DEFINITION. Power, reset and the PFAIL pin (R151, R161, R183, R186). -/

namespace Sys2Proof.Machine

namespace State

/-- Every block at its reset value and the store LOADING (R183). The pins, a request that stays presented and the
non-volatile image are outside the reset; a save in progress has been ended before (R186). -/
def resetBlocks (s : State) : State :=
  { s with
    path := s.path.resetKeepHeld
    defaultActions := 0
    unmatched := 0
    rules := Vector.replicate 24 .reset
    queues := Vector.replicate 4 .reset
    copy := none
    timebase := .reset
    timers := Vector.replicate 8 .reset
    inputs := Vector.replicate 2 .reset
    gate := .reset
    alert := .reset
    link := .reset
    store := { s.store with state := .loading, copy := none, loadDefaults := true, saveResult := .none } }

/-- The PFAIL pin rises on a part that takes it: the gate takes the cause, and a save in progress is abandoned (R151,
R161, R186). -/
def takePfail (s : State) : State := (s.tearSave .abandoned).gatePfailAssert

end State

/-- POWER_ON_RESET (R183). Power is applied. -/
def execPowerOnReset (s : State) : Result := .next { (s.tearSave .none).resetBlocks with powered := true }

/-- PART_RESET (R183): RST is asserted. -/
def execPartReset (s : State) : Result :=
  let s := { s with pins := { s.pins with rst := true } }
  .next (if s.powered then (s.tearSave .none).resetBlocks else s)

/-- RST_DEASSERT (R183): the link serves frames again, from the next fall of SCS_N. -/
def execRstDeassert (s : State) : Result := .next { s with pins := { s.pins with rst := false } }

/-- LOSS_OF_POWER (R186): a save in progress ends torn. -/
def execLossOfPower (s : State) : Result := .next { (s.tearSave .none) with powered := false }

/-- PFAIL_ASSERT (R151). While the store is LOADING the change is not taken. -/
def execPfailAssert (s : State) : Result :=
  .next (
    if s.pins.pfail then s
    else
      let s := { s with pins := { s.pins with pfail := true } }
      if s.powered && s.store.state != .loading then s.endCommand s.takePfail else s)

/-- PFAIL_DEASSERT (R151, R157). -/
def execPfailDeassert (s : State) : Result :=
  .next (
    if s.pins.pfail then
      let s := { s with pins := { s.pins with pfail := false } }
      if s.powered && s.store.state != .loading then s.endCommand s.gatePfailDeassert else s
    else s)

end Sys2Proof.Machine
end

