-- ==== Sys2Proof/Machine/Dispatch.lean ====
section
/-! DEFINITION. The effect of every command: one arm per row of spec/opcode_table.json, each one call of its meaning. -/

namespace Sys2Proof.Machine

/-- The effect of a command on everything but the queue of commands. -/
def exec (i : Instr) (s : State) : Host.Outcome State Fault Refusal :=
  match i with
  | .upstreamRequest r => Sys2Proof.Machine.execUpstreamRequest r s
  | .requestWithdrawn => Sys2Proof.Machine.execRequestWithdrawn s
  | .heldRequestTaken => Sys2Proof.Machine.execHeldRequestTaken s
  | .prereadComplete c => Sys2Proof.Machine.execPrereadComplete c s
  | .forwardComplete c => Sys2Proof.Machine.execForwardComplete c s
  | .responseLimitExpiry => Sys2Proof.Machine.execResponseLimitExpiry s
  | .secondLimitExpiry => Sys2Proof.Machine.execSecondLimitExpiry s
  | .strayCompletion c => Sys2Proof.Machine.execStrayCompletion c s
  | .completionIgnored c => Sys2Proof.Machine.execCompletionIgnored c s
  | .urstAssert => Sys2Proof.Machine.execUrstAssert s
  | .urstDeassert => Sys2Proof.Machine.execUrstDeassert s
  | .powerOnReset => Sys2Proof.Machine.execPowerOnReset s
  | .partReset => Sys2Proof.Machine.execPartReset s
  | .loadingEnd => Sys2Proof.Machine.execLoadingEnd s
  | .tick => Sys2Proof.Machine.execTick s
  | .timerExpiry t => Sys2Proof.Machine.execTimerExpiry t s
  | .measureOverdue t => Sys2Proof.Machine.execMeasureOverdue t s
  | .evPinChange e level => Sys2Proof.Machine.execEvPinChange e level s
  | .pfailAssert => Sys2Proof.Machine.execPfailAssert s
  | .pfailDeassert => Sys2Proof.Machine.execPfailDeassert s
  | .gateDrainEnd => Sys2Proof.Machine.execGateDrainEnd s
  | .gateHoldOffEnd => Sys2Proof.Machine.execGateHoldOffEnd s
  | .alertPulseEnd => Sys2Proof.Machine.execAlertPulseEnd s
  | .serviceFrameHeader kind addr count => Sys2Proof.Machine.execServiceFrameHeader kind addr count s
  | .registerWrite v => Sys2Proof.Machine.execRegisterWrite v s
  | .ruleDefinitionWrite r w v => Sys2Proof.Machine.execRuleDefinitionWrite r w v s
  | .enable r => Sys2Proof.Machine.execEnable r s
  | .disable r => Sys2Proof.Machine.execDisable r s
  | .clearHits r => Sys2Proof.Machine.execClearHits r s
  | .defaultActionsWrite v => Sys2Proof.Machine.execDefaultActionsWrite v s
  | .unmatchedCaptureWrite v => Sys2Proof.Machine.execUnmatchedCaptureWrite v s
  | .responseLimitWrite v => Sys2Proof.Machine.execResponseLimitWrite v s
  | .queueConfigurationWrite n v => Sys2Proof.Machine.execQueueConfigurationWrite n v s
  | .queueOn n => Sys2Proof.Machine.execQueueOn n s
  | .queueOff n => Sys2Proof.Machine.execQueueOff n s
  | .flush n => Sys2Proof.Machine.execFlush n s
  | .popWindowRead n => Sys2Proof.Machine.execPopWindowRead n s
  | .popRemove n => Sys2Proof.Machine.execPopRemove n s
  | .peek n => Sys2Proof.Machine.execPeek n s
  | .tbStart => Sys2Proof.Machine.execTbStart s
  | .tbStop => Sys2Proof.Machine.execTbStop s
  | .timebaseConfigurationWrite v => Sys2Proof.Machine.execTimebaseConfigurationWrite v s
  | .timestampPreset v => Sys2Proof.Machine.execTimestampPreset v s
  | .timerConfigurationWrite t w v => Sys2Proof.Machine.execTimerConfigurationWrite t w v s
  | .start t => Sys2Proof.Machine.execStart t s
  | .stop t => Sys2Proof.Machine.execStop t s
  | .preset t => Sys2Proof.Machine.execPreset t s
  | .inputConfigurationWrite e v => Sys2Proof.Machine.execInputConfigurationWrite e v s
  | .gateHold => Sys2Proof.Machine.execGateHold s
  | .gateRelease => Sys2Proof.Machine.execGateRelease s
  | .gateConfigurationWrite v => Sys2Proof.Machine.execGateConfigurationWrite v s
  | .clearFlags v => Sys2Proof.Machine.execClearFlags v s
  | .alertEnableWrite v => Sys2Proof.Machine.execAlertEnableWrite v s
  | .alertConfigurationWrite v => Sys2Proof.Machine.execAlertConfigurationWrite v s
  | .lockWordWrite v => Sys2Proof.Machine.execLockWordWrite v s
  | .accessCodeWrite v => Sys2Proof.Machine.execAccessCodeWrite v s
  | .save => Sys2Proof.Machine.execSave s
  | .saveEnd => Sys2Proof.Machine.execSaveEnd s
  | .restart => Sys2Proof.Machine.execRestart s
  | .restartTakesEffect => Sys2Proof.Machine.execRestartTakesEffect s
  | .pathReset => Sys2Proof.Machine.execPathReset s
  | .scsNRise => Sys2Proof.Machine.execScsNRise s
  | .rstDeassert => Sys2Proof.Machine.execRstDeassert s
  | .lossOfPower => Sys2Proof.Machine.execLossOfPower s

end Sys2Proof.Machine
end

