-- ==== Sys2Proof/Machine/Idle.lean ====
section
/-! DEFINITION. What the part does with no command waiting: its own clocks go on. REFCLK begins the first tick period after a
start (R104, R108), and SCK clocks out the words of a READ frame that no row of the table stands for (R174, R175). -/

namespace Sys2Proof.Machine

namespace State

/-- The first tick period after a start begins, with its addition to the accumulator (R104, R108). -/
def beginFirstPeriod (s : State) : State := { s with timebase := s.timebase.firstBegun }

/-- A tick period is about to begin (R108). -/
def firstPeriodDue (s : State) : Bool := s.powered && s.timebase.period == .starting

/-- Clocking out this word of a READ frame is a row of its own: the first word of a pop or peek window that the frame reaches
(POP_WINDOW_READ, PEEK), or word 5 of the pop window being read out (POP_REMOVE). -/
def hasRow (c : Option ReadCopy) (a : ServiceAddr) : Bool :=
  match targetOf a with
  | .window .pop n off => !copied c .pop n || off == 5
  | .window .peek n _ => !copied c .peek n
  | _ => false

/-- The next word of a READ frame is clocked out, if it has no row of its own: the frame after it (R174, R175). -/
def plainWord (s : State) : Option Frame :=
  match s.powered, s.link.frame with
  | true, .data .read a (left + 1) => if hasRow s.copy a then none else some (.data .read (a + 1) left)
  | _, _ => none

/-- That word is clocked out; reading it changes nothing but the frame (R175). -/
def clockOut (s : State) : State :=
  match s.plainWord with
  | some f => s.setFrame f
  | none => s

/-- With no command waiting the clock that has something to do does it; of two clocks either may come first (log 3, log 5). -/
def idle (s : State) : State :=
  if s.firstPeriodDue then
    if s.plainWord.isSome then
      let u := { s with draw := s.draw + 1 }
      if Config.raceKey s.draw 0 % 2 == 0 then u.beginFirstPeriod else u.clockOut
    else s.beginFirstPeriod
  else s.clockOut

end State

end Sys2Proof.Machine
end

