-- ==== Sys2Proof/Safety.lean ====
section
/-! DEFINITION. What holds of the part in every run, block by block, in the terms the claims use. Each is a decidable
property of a state; the obligations say that every step keeps it. -/

namespace Sys2Proof.Machine

/-! ### Queues (04) -/

/-- A queue holds at most its share: its depth while ON, nothing while OFF (R77). -/
abbrev Queue.Within (q : Queue) : Prop := q.list.length ≤ if q.on then q.depth else 0

/-- The depths of the queues that are ON never sum to more than 256, and no queue holds more than its share (R77). -/
abbrev State.PoolOk (s : State) : Prop := s.poolUsed ≤ 256 ∧ ∀ n, (s.queue n).Within

/-- Every record has a number below the next one, and the numbers rise along each list (log 16). -/
abbrev State.SerialsOk (s : State) : Prop :=
  ∀ n, ((s.queue n).list.map Record.serial).Pairwise (· < ·) ∧ ∀ r ∈ (s.queue n).list, r.serial < s.nextSerial

/-- PENDING records stand in the queues only while a transaction is in FORWARD (R82). -/
abbrev State.PendingOk (s : State) : Prop := s.path.phase ≠ .forward → ∀ n, (s.queue n).pendingCount = 0

/-! ### The memory path (03) -/

/-- The port is BUSY exactly while a transaction is in flight, which is when there is one (R57). -/
abbrev Path.PhaseOk (p : Path) : Prop := (p.port = .busy ↔ p.phase ≠ .idle) ∧ (p.txn.isSome ↔ p.phase ≠ .idle)

/-- The response-limit timer runs exactly while the port is BUSY or LATE (R65). -/
abbrev Path.TimerOk (p : Path) : Prop := p.limitTimer.isSome ↔ (p.port = .busy ∨ p.port = .late)

/-- The abandoned marker is clear while the phase is IDLE (R57). -/
abbrev Path.MarkerOk (p : Path) : Prop := p.phase = .idle → p.abandoned = false

/-- The transaction in flight is a write. -/
def Path.writing (p : Path) : Bool := p.txn.any fun t => t.kind == .write

/-- The write-in-flight marker stands exactly during the forward of a write (R160). -/
abbrev State.MarkerInFlight (s : State) : Prop := s.gate.inFlight = true ↔ s.path.phase = .forward ∧ s.path.writing

/-! ### Rules (01, 07) -/

/-- What the runtime state of a rule with index `own` never leaves. -/
structure Rule.Ok (own : Fin 24) (x : Rule) : Prop where
  /-- an enabled rule has passed the checks of R16 -/
  checked : x.state ≠ .disabled → x.defn.enableOk own = true
  /-- a DISABLED rule has no window count, no mark and no countdown (R18, R22) -/
  cleared : x.state = .disabled → x.window = 0 ∧ x.overQuota = false ∧ x.countdown = 0
  /-- the window count stays within the limit (R11) -/
  window : x.state ≠ .disabled → x.window ≤ x.defn.quotaLimit ∨ x.window = 0
  /-- the countdown never exceeds its load (R13) -/
  countdown : x.countdown ≤ x.defn.countdownLoad ∨ x.state = .disabled
  /-- a LIVE rule with disarm source HITS has hits left (R147) -/
  hitsLeft : x.state = .live → x.defn.countdownLoad ≠ 0 → x.countdown ≠ 0

/-- Every rule entry is so. -/
abbrev State.RulesOk (s : State) : Prop := ∀ r, (s.rule r).Ok r

/-! ### Timers, inputs, gate, alert, timebase, store, link -/

/-- A channel is in a state of its mode (R113), and its reload value is not 0 (R114). -/
abbrev Timer.Ok (ch : Timer) : Prop :=
  (ch.state = .lapsed → ch.mode = .retrigger) ∧ (ch.state = .waiting → ch.mode = .measure) ∧ ch.reload ≠ 0

/-- Every channel is so. -/
abbrev State.TimersOk (s : State) : Prop := ∀ t, (s.timer t).Ok

/-- An input has a sampler exactly while it is enabled (R136). -/
abbrev State.InputsOk (s : State) : Prop := ∀ e, (s.input e).sampler.isSome ↔ (s.input e).enabled = true

/-- The gate's state agrees with its causes (section 8.2), its configuration word is a checked one (R153), and no write is in flight
while the gate is CLOSED or REOPENING (R62, R154, R155, R160). -/
abbrev Gate.Ok (g : Gate) : Prop :=
  Gate.configOk g.config = true ∧
  (g.state = .opened → g.pfail = false ∧ g.hold = false ∧ g.powerSeen = false) ∧
  (g.state = .closed → g.pfail = true ∨ g.hold = true) ∧
  (g.state = .reopening → g.pfail = false ∧ g.hold = false ∧ g.powerSeen = true ∧ g.holdOff ≠ 0) ∧
  (g.inFlight = true → g.state = .opened ∨ g.state = .draining)

/-- The line: in LEVEL mode it is asserted exactly when a flag and its enable are both set, and no pulse counts (R168); in
PULSE mode it is asserted exactly during a pulse (R169, R170). Between commands the last tick is `unplaced` or
`taken`, and one that is owed to a pulse has not been taken (log 14). -/
abbrev Alert.LineOk (a : Alert) : Prop :=
  (a.pulseMode = false → a.line = a.anyEnabled ∧ a.pulse = 0) ∧
  (a.pulseMode = true → (a.line = true ↔ a.pulse ≠ 0)) ∧ (a.tickOwed = true → a.pulse ≠ 0) ∧
  (a.lastTick = .unplaced ∨ (a.lastTick = .taken ∧ a.tickOwed = false)) ∧ Alert.configOk a.config = true

/-- A tick period is in progress, or about to begin, exactly while the timebase is RUNNING (R108, R109). -/
abbrev Timebase.Ok (b : Timebase) : Prop := (b.running = true ↔ b.period ≠ .none) ∧ Timebase.configOk b.config = true

/-- A copy is being written exactly while the store is SAVING, and no check value is stored then (R185). -/
abbrev Store.Ok (c : Store) : Prop := (c.state = .saving ↔ c.copy.isSome) ∧ (c.state = .saving → c.check = none)

/-- The pending marker stands only with BUSY (R178). -/
abbrev Link.MarkOk (l : Link) : Prop := l.pendingMark = true → l.status = .busy

/-- A frame has at most 64 words left (R174), and frames are served only while SCS_N is low. -/
abbrev State.FrameOk (s : State) : Prop :=
  (∀ k a n, s.link.frame = .data k a n → n ≤ 64) ∧ (s.pins.scsLow = false → s.link.frame = .idle) ∧
    (s.link.frame = .idle → s.copy = none)

/-! ### Loading (R183) -/

/-- While the store is LOADING every block holds its reset value and the lock is LOCKED (R21, R75, R102, R112, R133, R144,
R162, R172, R180). -/
abbrev State.LoadingOk (s : State) : Prop :=
  s.store.state = .loading →
    s.path.phase = .idle ∧ s.path.port = .ready ∧ s.path.txn = none ∧ s.path.number = 0 ∧
    s.path.limitWord = Path.reset.limitWord ∧ s.defaultActions = 0 ∧ s.unmatched = 0 ∧
    (∀ r, s.rule r = .reset) ∧ (∀ n, s.queue n = .reset) ∧ s.timebase = .reset ∧ (∀ t, s.timer t = .reset) ∧
    (∀ e, s.input e = .reset) ∧ s.gate = .reset ∧ s.alert = .reset ∧ s.link.locked = true ∧ s.link.code = 0

/-! ### A request about to be taken (R52), and what meets it, in the terms the claims use -/

/-- Power is on, the phase is IDLE and none of the four holds applies (R52). -/
abbrev State.NoHold (s : State) : Prop :=
  s.powered = true ∧ s.path.phase = .idle ∧ s.store.state ≠ .loading ∧ s.path.port ≠ .late ∧
    s.path.restartHold = false ∧ s.pins.urst = false

/-- No rule is a candidate of an access (R26). -/
abbrev State.NoCandidate (s : State) (kind : AccessKind) (a : MemAddr) : Prop :=
  ∀ r, (s.rule r).candidate kind a = false

/-- No queue holds a PENDING record. -/
abbrev State.NonePending (s : State) : Prop := ∀ n, (s.queue n).pendingCount = 0

/-- What an expiry of channel t hands to the other blocks (R129), from `s` to `u`: the Tt flag, the record to the channel's
record queue, and the notices to the rules that name t. A rule names t at most once as a source when it is enabled (R16). -/
structure State.ExpiryHandedOut (t : Fin 8) (s u : State) : Prop where
  flag : u.alert.flagSet (.timer t) = true
  /-- the record goes to the end of a record queue that is ON with room (R130) -/
  placed : ∀ n, (s.timer t).recordQueue = some n → (s.queue n).on = true →
    (s.queue n).list.length < (s.queue n).depth →
    (u.queue n).list = (s.queue n).list ++ [⟨s.nextSerial, s.timebase.timestamp, .timerExpiry t (s.timer t).mode⟩]
  /-- nothing is offered to any other queue -/
  others : ∀ n, (s.timer t).recordQueue ≠ some n → u.queue n = s.queue n
  /-- an enabled rule with arm source TIMER t is LIVE, with its countdown loaded (R145) -/
  armed : ∀ r, (s.rule r).defn.armSource = .timer t.val → (s.rule r).defn.disarmSource ≠ .timer t.val →
    (s.rule r).state ≠ .disabled →
    (u.rule r).state = .live ∧ (u.rule r).countdown = (s.rule r).defn.countdownLoad
  /-- a LIVE rule with disarm source TIMER t is DORMANT (R146) -/
  disarmed : ∀ r, (s.rule r).defn.disarmSource = .timer t.val → (s.rule r).state = .live → (u.rule r).state = .dormant
  /-- a rule whose quota has the window timer t begins a new window, in whatever state it is (R11) -/
  windows : ∀ r, (s.rule r).defn.quota = true → (s.rule r).defn.windowTimer = t →
    (u.rule r).window = 0 ∧ (u.rule r).overQuota = false
  /-- a rule that names t nowhere keeps its runtime state -/
  untouched : ∀ r, (s.rule r).defn.armSource ≠ .timer t.val → (s.rule r).defn.disarmSource ≠ .timer t.val →
    ((s.rule r).defn.quota = false ∨ (s.rule r).defn.windowTimer ≠ t) → u.rule r = s.rule r
  /-- the hit counts and the markers of all rules stay -/
  counts : ∀ r, (u.rule r).hits = (s.rule r).hits ∧ (u.rule r).alerted = (s.rule r).alerted ∧
    (u.rule r).defn = (s.rule r).defn
  /-- the other channels stay, and so do the other blocks -/
  channels : ∀ x, x ≠ t → u.timer x = s.timer x
  blocks : u.path = s.path ∧ u.gate = s.gate ∧ u.inputs = s.inputs ∧ u.timebase = s.timebase ∧ u.link = s.link ∧
    u.store = s.store ∧ u.pins = s.pins ∧ u.defaultActions = s.defaultActions ∧ u.unmatched = s.unmatched ∧
    u.copy = s.copy ∧ u.pending = s.pending ∧ u.powered = s.powered

/-! ### A write word about to complete (R176, R177), in the terms the claims use -/

/-- Power is on, and the next word of the WRITE frame being served goes to the address, with `left` words after it. -/
abbrev State.AwaitsWord (s : State) (a : ServiceAddr) (left : Nat) : Prop :=
  s.powered = true ∧ s.link.frame = .data .write a (left + 1)

/-- No check of R177 that does not concern the object refuses a word: the lock is UNLOCKED and the store IDLE. -/
abbrev State.WritesOpen (s : State) : Prop := s.link.locked = false ∧ s.store.state = .idle

/-- The state once the word at the address is done: the frame has moved on to the next address, and the request status and its
marker hold the result (R174, R176, R178). -/
def State.answered (s : State) (a : ServiceAddr) (left : Nat) (st : Status) (mark : Bool) : State :=
  { s with link := { s.link with frame := .data .write (a + 1) left, status := st, pendingMark := mark } }

/-! ### Stored words (R189, R192) -/

/-- The word holds no bit outside the mask. -/
abbrev storedIn (mask w : Word) : Prop := w &&& ~~~mask = 0

/-- The bits that no layout names are never stored, and checked words hold only checked values. -/
structure State.WordsOk (s : State) : Prop where
  rules : ∀ r, storedIn RuleDef.controlMask (s.rule r).defn.control ∧ storedIn RuleDef.addrMask (s.rule r).defn.base ∧
    storedIn RuleDef.addrMask (s.rule r).defn.limit
  queues : ∀ n, storedIn Queue.configMask (s.queue n).config ∧ Queue.configOk (s.queue n).config = true
  timers : ∀ t, storedIn Timer.configMask (s.timer t).config ∧ Timer.configOk (s.timer t).config = true
  inputs : ∀ e, storedIn EventInput.configMask (s.input e).config ∧ EventInput.configOk (s.input e).config = true
  gate : storedIn Gate.configMask s.gate.config ∧ Gate.configOk s.gate.config = true
  alert : storedIn Alert.configMask s.alert.config ∧ Alert.configOk s.alert.config = true
  timebase : storedIn Timebase.configMask s.timebase.config ∧ Timebase.configOk s.timebase.config = true
  limit : storedIn Path.limitMask s.path.limitWord ∧ Path.limitOk s.path.limitWord = true
  defaults : storedIn defaultActionsMask s.defaultActions ∧ defaultActionsOk s.defaultActions = true
  unmatched : storedIn unmatchedMask s.unmatched ∧ unmatchedOk s.unmatched = true

end Sys2Proof.Machine
end

