-- ==== Sys2Proof/Certificates/Slice0/Obligations.lean ====
section
/-! DEFINITION. The statements for the provers. Each is about the commands as `exec` gives them, or about an operation that
every run goes through. -/

open Sys2Proof Sys2Proof.Machine

/-! ### The machine -/

/-- A step takes the command at the front of the queue and is that command on the state with the queue's rest. With no command
waiting the part's own clocks go on (that an empty queue is where they do is the model's choice, log 3): the first tick period
after a start begins, with its addition (R104, R108), a READ frame goes past a word that has no row of its own (R174, R175),
and otherwise nothing changes. -/
def Obligations.StepRunsTheFrontCommandOrIdles : Prop :=
  (∀ (c : Instr) (rest : List Instr) (s : State),
    step { s with pending := c :: rest } = exec c { s with pending := rest }) ∧
  ∀ s : State, s.pending = [] →
    let sum := s.timebase.accumulator.toNat + (fld s.timebase.config 12 4).toNat
    let n := (fld s.timebase.config 0 9).toNat
    ((s.powered = false ∨ s.timebase.period ≠ .starting) →
      (s.powered = false ∨ ∀ a left, s.link.frame ≠ .data .read a (left + 1)) → step s = .next s) ∧
    (s.powered = true → s.timebase.period = .starting → (∀ a left, s.link.frame ≠ .data .read a (left + 1)) →
      step s = .next { s with timebase := { s.timebase with
        accumulator := BitVec.ofNat 4 sum, period := .running (if 16 ≤ sum then n + 1 else n) } }) ∧
    ∀ (a : ServiceAddr) (left : Nat), s.powered = true → s.timebase.period ≠ .starting →
      s.link.frame = .data .read a (left + 1) →
      ((∀ k q off, targetOf a ≠ .window k q off) →
        step s = .next { s with link := { s.link with frame := .data .read (a + 1) left } }) ∧
      (∀ k q off, targetOf a = .window k q off → s.copy = none → step s = .next s)

/-- Every command the spec allows answers a next state, in every state, and leaves the queue of commands alone. That an event
which cannot happen in the state answers one too, the state as it was, is the model's choice (log 2, unsafe), and so is what a
part without power does (log 9). The one request that is none, a WRITE without a lane, is refused (R50; the refusal is the
model's, log 19). -/
def Obligations.AllowedCommandsAlwaysComplete : Prop :=
  (∀ (c : Instr) (s : State), c.wf = true → ∃ t, exec c s = .next t ∧ t.pending = s.pending) ∧
  ∀ (a : BitVec 24) (d : Word) (bs : List Between) (s : State),
    exec (.upstreamRequest (.write a 0 d bs)) s = .refused .emptyLanes

/-- At reset every block has its reset value and the store is LOADING, as of a part never saved (the image's value and the
levels of the pins are the model's, log 8); and every property that the invariants below keep holds. -/
def Obligations.ResetPutsEveryBlockAtItsValue : Prop :=
  State.reset.LoadingOk ∧ State.reset.store.state = .loading ∧ State.reset.store.loadDefaults = true ∧
  State.reset.store.saveResult = .none ∧ State.reset.store.check = none ∧
  State.reset.link.status = .accepted ∧ State.reset.link.pendingMark = false ∧
  State.reset.path.abandoned = false ∧ State.reset.path.limitTimer = none ∧ State.reset.path.restartHold = false ∧
  State.reset.readWord 0x000 = 0x4B470124 ∧ State.reset.readWord 0x008 = 0x00000400 ∧
  (∀ n, State.reset.readWord (queueAddr n 0) = 0x00010000) ∧
  (∀ t, State.reset.readWord (timerAddr t 1) = 0x0000FFFF ∧ State.reset.readWord (timerAddr t 5) = 0x0000FFFF) ∧
  State.reset.readWord 0x1B0 = 0x00000100 ∧ State.reset.readWord 0x1BA = 0x00000100 ∧
  State.reset.readWord 0x1C0 = 0x00000001 ∧
  State.reset.PoolOk ∧ State.reset.SerialsOk ∧ State.reset.PendingOk ∧
  State.reset.path.PhaseOk ∧ State.reset.path.TimerOk ∧ State.reset.path.MarkerOk ∧ State.reset.MarkerInFlight ∧
  State.reset.RulesOk ∧ State.reset.TimersOk ∧ State.reset.InputsOk ∧ State.reset.gate.Ok ∧ State.reset.alert.LineOk ∧
  State.reset.timebase.Ok ∧ State.reset.store.Ok ∧ State.reset.link.MarkOk ∧ State.reset.FrameOk ∧ State.reset.WordsOk

/-! ### The memory path (03) -/

/-- A request waits while a hold applies or a transaction is in flight (R52), and one that is withdrawn before it is taken
leaves no trace (R50). When no hold is left the held request is taken (R52, R55): it gets the next number, and goes on exactly
as a request presented at that moment. -/
def Obligations.RequestWaitsUnderAHoldAndIsTakenWhenNoneIsLeft : Prop :=
  (∀ (s : State) (r : Request), r.wf = true → s.path.held = none →
    (s.path.phase ≠ .idle ∨ s.store.state = .loading ∨ s.path.port = .late ∨ s.path.restartHold = true ∨
      s.pins.urst = true) →
    exec (.upstreamRequest r) s = .next { s with path := { s.path with held := some r, answer := none } }) ∧
  (∀ s : State, exec .requestWithdrawn s = .next { s with path := { s.path with held := none } }) ∧
  ∀ (s : State) (r : Request), r.wf = true → s.path.held = some r → s.NoHold →
    ∃ t, exec .heldRequestTaken s = .next t ∧ t.path.held = none ∧ t.path.number = s.path.number + 1 ∧
      exec (.upstreamRequest r) { s with path := { s.path with held := none } } = .next t

/-- A write that arrives while the gate is CLOSED or REOPENING is answered by the policy and counted; it gets a number and is
not decided (R58, R160). -/
def Obligations.WriteMeetsTheGateAtArrival : Prop :=
  ∀ (s : State) (a : BitVec 24) (lanes : Lanes) (d : Word) (bs : List Between), lanes ≠ 0 → s.NoHold →
    s.path.held = none → s.gate.state = .closed ∨ s.gate.state = .reopening →
    exec (.upstreamRequest (.write a lanes d bs)) s = .next { s with
      path := { s.path with
        number := s.path.number + 1, phase := .idle, txn := none, abandoned := false,
        answer := some (if fld s.gate.config 0 2 = 1 then .done else .error) }
      gate := { s.gate with refused := satInc s.gate.refused } }

/-- With no candidate rule and no unmatched capture the default action decides (R35). A read is forwarded under PASS with the
port READY, ends PATH_DOWN with the port DOWN, is answered DONE with zero under DISCARD and ERROR under FAULT (R59, R61, R68),
whatever the gate's state (R160); a drain whose end is due ends first (log 4). A write met by an OPEN gate likewise, and its
forward sets the write-in-flight marker (R58, R160). The draw counts the free order of the decision (the model's, log 5). -/
def Obligations.AccessWithoutARuleFollowsTheDefault : Prop :=
  ∀ (s : State) (a : BitVec 24) (bs : List Between), s.NoHold → s.path.held = none → s.NonePending →
    wbit s.unmatched 0 = false →
    let number := s.path.number + 1
    let limit := some (fld s.path.limitWord 0 12)
    let forward : Txn → Path := fun x => { s.path with
      number := number, phase := .forward, abandoned := false, answer := none, port := .busy, txn := some x,
      limitTimer := limit }
    let ended : Answer → Path := fun y => { s.path with
      number := number, phase := .idle, txn := none, abandoned := false, answer := some y }
    (s.NoCandidate .read (byteAddr a) → s.gate.state ≠ .draining →
      (fld s.defaultActions 4 2 = 0 → s.path.port = .ready → exec (.upstreamRequest (.read a bs)) s = .next { s with
        path := forward ⟨number, .read, byteAddr a, 15, 0, afterDeciding bs⟩, draw := s.draw + 1 }) ∧
      (fld s.defaultActions 4 2 = 0 → s.path.port = .down → exec (.upstreamRequest (.read a bs)) s = .next { s with
        path := ended .error, draw := s.draw + 1 }) ∧
      (fld s.defaultActions 4 2 = 1 → exec (.upstreamRequest (.read a bs)) s = .next { s with
        path := ended (.doneData 0), draw := s.draw + 1 }) ∧
      (fld s.defaultActions 4 2 = 2 → exec (.upstreamRequest (.read a bs)) s = .next { s with
        path := ended .error, draw := s.draw + 1 })) ∧
    (s.NoCandidate .read (byteAddr a) → s.gate.state = .draining → fld s.defaultActions 4 2 = 0 →
      s.path.port = .ready → ∃ t, exec (.upstreamRequest (.read a bs)) s = .next t ∧
        t.path = forward ⟨number, .read, byteAddr a, 15, 0, afterDeciding bs⟩ ∧
        (s.gate.inFlight = false → t.gate.state ≠ .draining ∧ t.alert.flagSet .gate = true) ∧
        (s.gate.inFlight = true → t.gate = s.gate)) ∧
    ∀ (lanes : Lanes) (d : Word), lanes ≠ 0 → s.gate.state = .opened → s.NoCandidate .write (byteAddr a) →
      (fld s.defaultActions 0 2 = 0 → s.path.port = .ready →
        exec (.upstreamRequest (.write a lanes d bs)) s = .next { s with
          path := forward ⟨number, .write, byteAddr a, lanes, d &&& laneMask lanes, afterDeciding bs⟩
          gate := { s.gate with inFlight := true }
          draw := s.draw + 1 }) ∧
      (fld s.defaultActions 0 2 = 0 → s.path.port = .down →
        exec (.upstreamRequest (.write a lanes d bs)) s = .next { s with path := ended .error, draw := s.draw + 1 }) ∧
      (fld s.defaultActions 0 2 = 1 →
        exec (.upstreamRequest (.write a lanes d bs)) s = .next { s with path := ended .done, draw := s.draw + 1 }) ∧
      (fld s.defaultActions 0 2 = 2 →
        exec (.upstreamRequest (.write a lanes d bs)) s = .next { s with path := ended .error, draw := s.draw + 1 })

/-- The scan (R2 to R4, R26, R30 to R33). A candidate is a LIVE rule whose extent holds the address and whose kinds hold the
access's; its condition compares the masked new word with the masked reference, or for CHANGED with the masked before word, and
ENTERING asks that the before word does not satisfy the operator. The hits are in ascending index, each a candidate that
matches; the deciding rule is the last hit and the only one whose action is not OBSERVE; and no candidate that matches is passed
over up to it. -/
def Obligations.DecidingRuleIsTheFirstHitNotObserve : Prop :=
  (∀ (x : Rule) (kind : AccessKind) (a : MemAddr),
    let c := x.defn.control
    let w : Word := a.setWidth 32
    x.candidate kind a = true ↔ x.state = .live ∧
      (match kind with | .read => wbit c 1 = true | .write => wbit c 2 = true) ∧
      (if wbit c 0 = true then w &&& x.defn.limit = x.defn.base &&& x.defn.limit
        else x.defn.base.toNat ≤ w.toNat ∧ w.toNat ≤ x.defn.limit.toNat)) ∧
  (∀ (d : RuleDef) (new before : Word),
    let op := fld d.control 3 3
    let r := d.reference &&& d.dataMask
    let holds : Word → Prop := fun w =>
      if op = 1 then w &&& d.dataMask = r else if op = 2 then w &&& d.dataMask ≠ r
      else if op = 3 then r.toNat < (w &&& d.dataMask).toNat else (w &&& d.dataMask).toNat < r.toNat
    (op = 0 → d.matchesWords new before = true) ∧
    (1 ≤ op.toNat → op.toNat ≤ 4 → wbit d.control 6 = false → (d.matchesWords new before = true ↔ holds new)) ∧
    (1 ≤ op.toNat → op.toNat ≤ 4 → wbit d.control 6 = true →
      (d.matchesWords new before = true ↔ holds new ∧ ¬ holds before)) ∧
    (op = 5 → wbit d.control 6 = false →
      (d.matchesWords new before = true ↔ new &&& d.dataMask ≠ before &&& d.dataMask))) ∧
  ∀ (s : State) (t : Txn) (new before : Word),
    let p := s.scan t new before allRules
    p.1.Pairwise (· < ·) ∧
    (∀ r ∈ p.1, (s.rule r).candidate t.kind t.addr = true ∧ (s.rule r).defn.matchesWords new before = true) ∧
    (∀ r ∈ p.1, (s.rule r).defn.action? ≠ some .observe → p.2 = some r) ∧
    (∀ d, p.2 = some d → p.1.getLast? = some d ∧ (s.rule d).defn.action? ≠ some .observe) ∧
    ∀ r, (s.rule r).candidate t.kind t.addr = true → (s.rule r).defn.matchesWords new before = true →
      (∀ d, p.2 = some d → r ≤ d) → r ∈ p.1

/-- An access that a rule decides at its taking, a read or a write met by an OPEN gate that needs no pre-read (R34, R38, R47,
R61, R68). The decided action is the rule's own or, over quota, its over-quota action. DISCARD is answered DONE, a read with the
rule's fill value; FAULT is answered ERROR; PASS is forwarded with the port READY, a write setting the write-in-flight marker,
and answered ERROR with the port DOWN. With nothing falling between the decision and its changes the other blocks that no record,
flag or trigger reaches stay as they were. -/
def Obligations.RuleDecidesTheAccessAtItsTaking : Prop :=
  ∀ (s : State) (q : Request) (r : Fin 24), q.wf = true → s.NoHold → s.path.held = none →
    let x := captureRequest (s.path.number + 1) q
    (x.kind = .read → s.gate.state ≠ .draining) → (x.kind = .write → s.gate.state = .opened) →
    s.needsPreread x = false → (s.scan x x.data 0 allRules).2 = some r →
    let d := (s.rule r).defn
    let beyond := wbit d.control 16 = true ∧ (fld d.quotaArming 0 12).toNat ≤ (s.rule r).window.toNat
    let decided : Nat → Prop := fun c => (beyond ∧ (fld d.control 17 2).toNat = (c + 2) % 3) ∨
      (¬ beyond ∧ (fld d.control 7 3).toNat = c)
    let ended : Answer → Path := fun y => { s.path with
      number := s.path.number + 1, phase := .idle, txn := none, abandoned := false, answer := some y }
    ∃ t, exec (.upstreamRequest q) s = .next t ∧
      (decided 1 → t.path = ended (match x.kind with | .read => .doneData d.fill | .write => .done)) ∧
      (decided 2 → t.path = ended .error) ∧
      (decided 0 → s.path.port = .down → t.path = ended .error) ∧
      (decided 0 → s.path.port = .ready → t.path = { s.path with
        number := s.path.number + 1, phase := .forward, abandoned := false, answer := none, port := .busy,
        txn := some { x with between := afterDeciding x.between }
        limitTimer := some (fld s.path.limitWord 0 12) }) ∧
      (x.between = [] →
        (decided 1 ∨ decided 2 ∨ x.kind = .read → t.gate = s.gate) ∧
        (decided 0 → s.path.port = .ready → x.kind = .write → t.gate = { s.gate with inFlight := true }) ∧
        t.link = s.link ∧ t.store = s.store ∧ t.timebase = s.timebase ∧ t.defaultActions = s.defaultActions ∧
        t.unmatched = s.unmatched ∧ t.inputs = s.inputs)

/-- Each hit counts once at the decision, and no other rule's counts move (R10, R11, R14): the hit count saturates at 65535; a
rule with a quota below its limit counts the hit in its window; an over-quota hit sets the mark; alert on hit sets the
marker. The flag RULE is set exactly by a hit with alert on hit, and QUOTA by the first over-quota hit of a window (R37, R43,
R164). -/
def Obligations.HitsCountOnceAtTheDecision : Prop :=
  (∀ (s : State) (t : Txn) (before : Option Word) (sub : Bool),
    let old := before.getD 0
    let hits := (s.scan t (if before.isSome then effectiveNew t old else t.data) old allRules).1
    let u := (s.decideTxn t before sub).1
    (u.alert.flagSet .rule = true ↔
      s.alert.flagSet .rule = true ∨ ∃ r ∈ hits, wbit (s.rule r).defn.control 15 = true) ∧
    (u.alert.flagSet .quota = true ↔
      s.alert.flagSet .quota = true ∨ ∃ r ∈ hits, wbit (s.rule r).defn.control 16 = true ∧
        (fld (s.rule r).defn.quotaArming 0 12).toNat ≤ (s.rule r).window.toNat ∧ (s.rule r).overQuota = false)) ∧
  ∀ (s : State) (t : Txn) (before : Option Word) (sub : Bool) (r : Fin 24),
    let old := before.getD 0
    let hits := (s.scan t (if before.isSome then effectiveNew t old else t.data) old allRules).1
    let x := s.rule r
    let y := ((s.decideTxn t before sub).1.rule r)
    (r ∈ hits →
      y.hits = (if x.hits = 65535 then 65535 else x.hits + 1) ∧
      y.window = (if x.defn.quota = true ∧ x.window < x.defn.quotaLimit then x.window + 1 else x.window) ∧
      y.overQuota = (x.overQuota || (x.defn.quota && decide (x.defn.quotaLimit ≤ x.window))) ∧
      y.alerted = (x.alerted || x.defn.alertOnHit)) ∧
    (r ∉ hits → y.hits = x.hits ∧ y.window = x.window ∧ y.overQuota = x.overQuota ∧ y.alerted = x.alerted) ∧
    y.defn = x.defn

/-- The changes that hits make to rule states come after the decision (R45, R147): a hit that brings a countdown from 1 to 0
leaves its rule DORMANT, unless another hit of the same decision arms it; a rule that a hit arms ends LIVE with its countdown
loaded; every other rule keeps its state. A hit triggers the channels that name its rule (R44, R115). What a request's command
does is this decision, with whatever falls between taken before the changes, which find a rule DISABLED by then out of reach and
any other as it then stands (R20, R149; that the command names what falls between is the model's, log 26). What falls among the
things that the decision hands out moves neither its hits nor the countdowns they end. -/
def Obligations.NoticesOfHitsActAfterTheDecision : Prop :=
  (∀ (s : State) (t : Txn) (before : Option Word) (sub : Bool) (r : Fin 24),
    let old := before.getD 0
    let hits := (s.scan t (if before.isSome then effectiveNew t old else t.data) old allRules).1
    let x := s.rule r
    let y := ((s.decideTxn t before sub).1.rule r)
    let armed := ∃ k ∈ hits, x.defn.armSource = .rule k.val
    (armed → x.state ≠ .disabled → y.state = .live ∧ y.countdown = x.defn.countdownLoad) ∧
    (¬ armed → r ∈ hits → x.countdown = 1 → y.state = .dormant ∧ y.countdown = 0) ∧
    (¬ armed → (r ∉ hits ∨ x.countdown ≠ 1) → y.state = x.state) ∧
    (¬ armed → r ∉ hits → y.countdown = x.countdown) ∧
    (¬ armed → r ∈ hits → x.countdown ≠ 0 → y.countdown = x.countdown - 1) ∧
    (x.state = .disabled → y.state = .disabled)) ∧
  (∀ (s : State) (t : Txn) (before : Option Word) (sub : Bool) (c : Fin 8),
    let old := before.getD 0
    let hits := (s.scan t (if before.isSome then effectiveNew t old else t.data) old allRules).1
    let y := (s.decideTxn t before sub).1.timer c
    ((∃ k ∈ hits, (s.timer c).trigger = .rule k.val) → y = (s.triggerTimer c).timer c) ∧
    ((∀ k ∈ hits, (s.timer c).trigger ≠ .rule k.val) → y = s.timer c)) ∧
  (∀ (s : State) (c : Changes) (r : Fin 24),
    let x := s.rule r
    let y := (s.afterDecision c).rule r
    let armed := ∃ k ∈ c.hits, x.defn.armSource = .rule k.val
    (x.state = .disabled → y = x) ∧
    (armed → x.state ≠ .disabled → y = { x with state := .live, countdown := x.defn.countdownLoad }) ∧
    (¬ armed → r ∈ c.zeroed → x.state ≠ .disabled → y = { x with state := .dormant }) ∧
    (¬ armed → r ∉ c.zeroed → y = x)) ∧
  ∀ (s : State) (q : Request), q.wf = true → s.NoHold → s.path.held = none →
    let x := captureRequest (s.path.number + 1) q
    let s' := { s with path := { s.path with
      number := s.path.number + 1, held := none, abandoned := false, answer := none } }
    let hits := (s.scan x x.data 0 allRules).1
    (x.kind = .read → s.gate.state ≠ .draining) → (x.kind = .write → s.gate.state = .opened) →
    s.needsPreread x = false →
    ∃ (u : State) (c : Changes), c.hits = hits ∧ c.zeroed = hits.filter (fun r => (s.rule r).countdown == 1) ∧
      exec (.upstreamRequest q) s = .next
        ((if hits = [] then u else u.meetAll x.between).afterDecision c) ∧
      (insideOf x.between = [] →
        (u.afterDecision c).rules = (s'.decideTxn x none false).1.rules ∧
        u.queues = (s'.decideTxn x none false).1.queues ∧ u.timers = (s'.decideTxn x none false).1.timers ∧
        u.alert.flags = (s'.decideTxn x none false).1.alert.flags)

/-- The reservations of a decision (R36, R38 to R40, R86, R98, R99). In queues that are ON with room for all of them, when no
channel is triggered by a rule, the records of a decision stand at the end of their queues, PENDING when it is forwarded and with
the outcome of the transaction when it ends at its decision (R48, R49, R91): one for
each hit with a capture, in ascending index, but for an OBSERVE hit over quota, whose record is suppressed; then the unmatched
record when no rule decides and it is present; each with the fields of the transaction, OVER_QUOTA for an over-quota deciding
hit alone, a write's data unless the content is ADDRESS_ONLY, a DISCARDED read's data with WITH_DATA, and the before word of a
pre-read with WITH_BEFORE; no loss is counted. An AUDIT within quota whose own record has its place is forwarded; one whose own record is refused ends AUDIT_REFUSED
(R42): with the rule the only hit and its queue OFF, the controller gets ERROR, nothing is forwarded, and the loss is counted
with its flag (R89). -/
def Obligations.ReservationsStandInOrderAndAuditNeedsItsOwn : Prop :=
  (∀ (s : State) (t : Txn) (before : Option Word) (sub : Bool), (∀ c k, (s.timer c).trigger ≠ .rule k) →
    (∀ n, (s.queue n).on = true ∧ (s.queue n).list.length + 25 ≤ (s.queue n).depth) →
    let old := before.getD 0
    let p := s.scan t (if before.isSome then effectiveNew t old else t.data) old allRules
    let beyond : Fin 24 → Bool := fun r => wbit (s.rule r).defn.control 16 &&
      decide ((fld (s.rule r).defn.quotaArming 0 12).toNat ≤ (s.rule r).window.toNat)
    let d := s.decideTxn t before sub
    let outcome : Option TxnOutcome := match d.2 with
      | .forward => none
      | .ended o _ => some o
    let fill : Word := match p.2 with
      | none => 0
      | some r => (s.rule r).defn.fill
    let made : Fin 25 → BitVec 2 → Bool → RecordBody := fun source content overQuota => .access
      { source := source, number := t.number, kind := t.kind, lanes := t.lanes, addr := t.addr
        content := if content = 0 then .addressOnly else if content = 1 then .withData else .withBefore
        overQuota := overQuota
        data := if t.kind = .write ∧ content ≠ 0 then some t.data
          else if t.kind = .read ∧ content = 1 ∧ outcome = some .discarded then some fill else none
        before := if content = 2 then before else none
        outcome := outcome }
    d.2 = .forward ∨ s.NonePending → (∀ r ∈ p.1, wbit (s.rule r).defn.control 10 = true → fld (s.rule r).defn.control 13 2 ≠ 3) →
    (wbit s.unmatched 0 = true → (fld s.unmatched 4 2).toNat ≤ 1) → ∀ n,
      (d.1.queue n).list.map Record.body = (s.queue n).list.map Record.body ++
        ((p.1.filter fun r => wbit (s.rule r).defn.control 10 && fld (s.rule r).defn.control 11 2 == n.val &&
          (p.2 == some r || !beyond r)).map fun r =>
            made r.castSucc (fld (s.rule r).defn.control 13 2) (p.2 == some r && beyond r)) ++
        (if p.2 = none ∧ wbit s.unmatched 0 = true ∧ fld s.unmatched 1 2 = n.val then
          [made 24 (fld s.unmatched 4 2) false] else []) ∧
      (∀ x ∈ (d.1.queue n).list.drop (s.queue n).list.length, x.timestamp = s.timebase.timestamp) ∧
      (d.1.queue n).loss = (s.queue n).loss) ∧
  ∀ (s : State) (a : BitVec 24) (bs : List Between) (r : Fin 24), s.NoHold → s.path.held = none →
    s.gate.state ≠ .draining → s.NonePending →
    s.scan ⟨s.path.number + 1, .read, byteAddr a, 15, 0, bs⟩ 0 0 allRules = ([r], some r) →
    fld (s.rule r).defn.control 7 3 = 3 → (s.rule r).defn.capture = true → (s.rule r).hitOverQuota = false →
    let n := (s.rule r).defn.captureQueue
    ((s.queue n).on = false → (∀ c, (s.timer c).trigger ≠ .rule r.val) → bs = [] →
      ∃ t, exec (.upstreamRequest (.read a bs)) s = .next t ∧ t.path.answer = some .error ∧ t.path.phase = .idle ∧
        t.path.port = s.path.port ∧ t.path.txn = none ∧
        t.queue n = { s.queue n with loss := satInc (s.queue n).loss } ∧
        t.alert.flagSet (.qo n) = true ∧ (t.rule r).hits = satInc (s.rule r).hits) ∧
    ((s.queue n).on = true → (s.queue n).list.length < (s.queue n).depth → s.path.port = .ready →
      (∀ c, (s.timer c).trigger ≠ .rule r.val) → insideOf bs = [] →
      ∃ t, exec (.upstreamRequest (.read a bs)) s = .next t ∧ t.path.phase = .forward ∧ t.path.answer = none ∧
        (bs = [] → (t.queue n).pendingCount = 1))

/-- A write met by an OPEN gate needs the before word exactly when a candidate has one of four causes (R28): a condition CHANGED,
a condition ENTERING, a condition whose mask reaches into a lane that the write does not carry, or a capture WITH_BEFORE. It
then goes to PREREAD with the port READY (R57, R58, R65). With the port DOWN it is decided at its taking on the zero substitute
before word and ends PATH_DOWN with ERROR, its hits counted, its notices sent and its records reserved as at any decision (R23, R29,
R68); the gate counts nothing (R160). A write with no such candidate is decided at once. What the part presents to memory is a full-word read of the address in PREREAD and in the FORWARD of a read, a write of
the carried lanes in the FORWARD of a write, and no access in IDLE (R51). -/
def Obligations.WriteNeedingTheBeforeWordEntersPreread : Prop :=
  (∀ s : State,
    (s.path.phase = .idle → s.downstreamAccess = none) ∧
    ∀ x : Txn, s.path.txn = some x →
      (s.path.phase = .preread → s.downstreamAccess = some (.read x.addr)) ∧
      (s.path.phase = .forward → x.kind = .read → s.downstreamAccess = some (.read x.addr)) ∧
      (s.path.phase = .forward → x.kind = .write → s.downstreamAccess = some (.write x.addr x.lanes x.data))) ∧
  ∀ (s : State) (a : BitVec 24) (lanes : Lanes) (d : Word) (bs : List Between), lanes ≠ 0 → s.NoHold →
    s.path.held = none → s.gate.state = .opened →
    let needs : Fin 24 → Prop := fun r =>
      let c := (s.rule r).defn.control
      (1 ≤ (fld c 3 3).toNat ∧ (fld c 3 3).toNat ≤ 5 ∧
        (fld c 3 3 = 5 ∨ wbit c 6 = true ∨
          ∃ i : Fin 32, wbit (s.rule r).defn.dataMask i.val = true ∧ lanes.getLsbD (i.val / 8) = false)) ∨
      (wbit c 10 = true ∧ fld c 13 2 = 2)
    ((∃ r, (s.rule r).candidate .write (byteAddr a) = true ∧ needs r) →
      (s.path.port = .ready → exec (.upstreamRequest (.write a lanes d bs)) s = .next { s with path := { s.path with
        number := s.path.number + 1, phase := .preread, abandoned := false, answer := none, port := .busy,
        txn := some ⟨s.path.number + 1, .write, byteAddr a, lanes, d &&& laneMask lanes, bs⟩,
        limitTimer := some (fld s.path.limitWord 0 12) } }) ∧
      (s.path.port = .down → ∃ t, exec (.upstreamRequest (.write a lanes d bs)) s = .next t ∧
        t.path = { s.path with
          number := s.path.number + 1, phase := .idle, txn := none, abandoned := false, answer := some .error }) ∧
      (s.path.port = .down →
        let x : Txn := ⟨s.path.number + 1, .write, byteAddr a, lanes, d &&& laneMask lanes, bs⟩
        let s' := { s with path := { s.path with
          number := s.path.number + 1, held := none, abandoned := false, answer := none } }
        let hits := (s.scan x x.data 0 allRules).1
        let decided := s'.decideTxn x none true
        decided.2 = .ended .pathDown .error ∧
        ∃ (u : State) (c : Changes), c.hits = hits ∧ c.zeroed = hits.filter (fun r => (s.rule r).countdown == 1) ∧
          exec (.upstreamRequest (.write a lanes d bs)) s = .next
            ((if hits = [] then u else u.meetAll bs).afterDecision c) ∧
          u.path.answer = some .error ∧
          (insideOf bs = [] → (u.afterDecision c).rules = decided.1.rules ∧ u.queues = decided.1.queues ∧
            u.timers = decided.1.timers ∧ u.alert.flags = decided.1.alert.flags ∧ u.gate = s.gate))) ∧
    ((∀ r, (s.rule r).candidate .write (byteAddr a) = true → ¬ needs r) →
      ∃ t, exec (.upstreamRequest (.write a lanes d bs)) s = .next t ∧ t.path.phase ≠ .preread)

/-- The end of a pre-read (R60, R62, R73). MEMERR ends the transaction undecided with ERROR and sets PATH; with the abandoned
marker set either completion ends it undecided without an answer. OK with the word w decides it (R27, R29): the scan compares the
word that the write would leave with w as the before word, and the verdict is carried out: a forward, whose write the gate holds, or
the end with its answer, a GATED write being counted; the changes of the hits follow what falls between (R20, R45). With no
candidate, default PASS and no unmatched capture it is forwarded through an OPEN gate and answered by the policy of any other. -/
def Obligations.PrereadEndsByItsCompletion : Prop :=
  (∀ (t : Txn) (w : Word) (i : Fin 32), (effectiveNew t w).getLsbD i.val =
    if t.lanes.getLsbD (i.val / 8) then t.data.getLsbD i.val else w.getLsbD i.val) ∧
  ∀ (s : State) (t : Txn), s.powered = true → s.path.phase = .preread → s.path.txn = some t →
    (∀ w : Word, s.path.abandoned = false →
      let s' := { s with path := { s.path with port := .ready, limitTimer := none } }
      let hits := (s.scan t (effectiveNew t w) w allRules).1
      let d := s'.decideTxn t (some w) false
      ∃ (u : State) (c : Changes), c.hits = hits ∧ c.zeroed = hits.filter (fun r => (s.rule r).countdown == 1) ∧
        exec (.prereadComplete (.ok w)) s = .next ((if hits = [] then u else u.meetAll t.between).afterDecision c) ∧
        (u.path.phase = .forward ∨ u.path.phase = .idle) ∧
        (insideOf t.between = [] →
          (d.2 = .forward → u.path = { s.path with
            phase := .forward, port := .busy, limitTimer := some (fld s.path.limitWord 0 12)
            txn := some { t with between := afterDeciding t.between } } ∧
            u.gate = { s.gate with inFlight := s.gate.inFlight || t.kind == .write }) ∧
          (∀ o a, d.2 = .ended o a → u.path = { s.path with
            phase := .idle, txn := none, port := .ready, limitTimer := none, answer := some a } ∧
            u.gate = { s.gate with refused := if o = .gated then satInc s.gate.refused else s.gate.refused }) ∧
          (u.afterDecision c).rules = d.1.rules ∧ u.queues = d.1.queues ∧ u.timers = d.1.timers ∧
          u.alert.flags = d.1.alert.flags)) ∧
    (s.path.abandoned = false →
      exec (.prereadComplete .memErr) s = .next { s with
        path := { s.path with
          phase := .idle, txn := none, answer := some .error, port := .ready, limitTimer := none }
        alert := (s.alert.setFlag s.timebase.tapCount .path).commandEnds s.alert.lastTick }) ∧
    (s.path.abandoned = true →
      exec (.prereadComplete .memErr) s = .next { s with
        path := { s.path with
          phase := .idle, txn := none, abandoned := false, answer := none, port := .ready, limitTimer := none }
        alert := (s.alert.setFlag s.timebase.tapCount .path).commandEnds s.alert.lastTick } ∧
      ∀ w, exec (.prereadComplete (.ok w)) s = .next { s with
        path := { s.path with
          phase := .idle, txn := none, abandoned := false, answer := none, port := .ready, limitTimer := none } }) ∧
    ∀ w, s.path.abandoned = false → t.kind = .write → s.NoCandidate .write t.addr → fld s.defaultActions 0 2 = 0 →
      wbit s.unmatched 0 = false → s.NonePending →
      (s.gate.state = .opened → exec (.prereadComplete (.ok w)) s = .next { s with
        path := { s.path with
          phase := .forward, port := .busy, limitTimer := some (fld s.path.limitWord 0 12)
          txn := some { t with between := afterDeciding t.between } }
        gate := { s.gate with inFlight := true }
        draw := s.draw + 1 }) ∧
      (s.gate.state ≠ .opened → exec (.prereadComplete (.ok w)) s = .next { s with
        path := { s.path with
          phase := .idle, txn := none, port := .ready, limitTimer := none,
          answer := some (if fld s.gate.config 0 2 = 1 then .done else .error) }
        gate := { s.gate with refused := satInc s.gate.refused }
        draw := s.draw + 1 })

/-- The end of a forward (R63, R64, R74): the phase returns to IDLE, the port to READY, the answer is given unless the
transaction is abandoned, the gate is told that its write has ended, a MEMERR sets PATH, and no record is left PENDING. The other
blocks stay, unless the transaction names what meets the end of a drain (log 26). -/
def Obligations.ForwardCompletionEndsTheTransaction : Prop :=
  ∀ (s : State) (x : Txn) (c : Completion), s.powered = true → s.path.phase = .forward → s.path.txn = some x →
    ∃ t, exec (.forwardComplete c) s = .next t ∧
      t.path = { s.path with
        phase := .idle, txn := none, abandoned := false, port := .ready, limitTimer := none,
        answer := if s.path.abandoned then none else match c with
          | .ok w => some (match x.kind with | .read => .doneData w | .write => .done)
          | .memErr => some .error } ∧
      (x.kind = .write → t.gate.inFlight = false) ∧ (x.kind = .read → t.gate.inFlight = s.gate.inFlight) ∧
      (s.gate.state ≠ .draining →
        t.gate = { s.gate with inFlight := if x.kind = .write then false else s.gate.inFlight }) ∧
      t.NonePending ∧ (c = .memErr → t.alert.flagSet .path = true) ∧
      (s.gate.state ≠ .draining ∨ afterDeciding x.between = [] →
        t.rules = s.rules ∧ t.timers = s.timers ∧ t.inputs = s.inputs ∧ t.timebase = s.timebase ∧ t.pins = s.pins) ∧
      t.link = s.link ∧ t.store = s.store ∧ t.defaultActions = s.defaultActions ∧ t.unmatched = s.unmatched ∧
      t.copy = s.copy

/-- The records of a transaction complete in their places at the end of its forward (R49, R82, R91), with no drain to end:
every list keeps its length and its order; a PENDING record gets the outcome, and a read's record with content WITH_DATA the
word of an OK; a COMPLETE record stays as it is. The outcome and the answer of a transaction that ends at its decision (R34, R42,
R47, R48, R61): DISCARDED for DISCARD, REFUSED for FAULT, AUDIT_REFUSED for an AUDIT without its own record; of one that needs a
forward PATH_DOWN with the port DOWN and GATED for a write with the gate not OPEN; and PATH_DOWN for a write that needed a pre-read
with the port DOWN, whatever was decided. -/
def Obligations.RecordsCompleteInTheirPlaces : Prop :=
  (∀ (s : State) (t : Txn) (before : Option Word) (sub : Bool),
    let old := before.getD 0
    let decider := (s.scan t (if before.isSome then effectiveNew t old else t.data) old allRules).2
    let v := (s.decideTxn t before sub).2
    let beyond : Fin 24 → Prop := fun r => wbit (s.rule r).defn.control 16 = true ∧
      (fld (s.rule r).defn.quotaArming 0 12).toNat ≤ (s.rule r).window.toNat
    let decided : Nat → Prop := fun c =>
      (decider = none ∧
        (match t.kind with | .write => fld s.defaultActions 0 2 | .read => fld s.defaultActions 4 2).toNat = c) ∨
      ∃ r, decider = some r ∧ ((beyond r ∧ (fld (s.rule r).defn.control 17 2).toNat = (c + 2) % 3) ∨
        (¬ beyond r ∧ (fld (s.rule r).defn.control 7 3).toNat = c))
    let fill : Word := match decider with
      | none => 0
      | some r => (s.rule r).defn.fill
    let forwarded : Verdict := if s.path.port = .down then .ended .pathDown .error
      else if t.kind = .write ∧ s.gate.state ≠ .opened then
        .ended .gated (if fld s.gate.config 0 2 = 1 then .done else .error)
      else .forward
    (sub = true → v = .ended .pathDown .error) ∧
    (sub = false → decided 0 → v = forwarded) ∧
    (sub = false → decided 1 →
      v = .ended .discarded (match t.kind with | .read => .doneData fill | .write => .done)) ∧
    (sub = false → decided 2 → v = .ended .refused .error) ∧
    ∀ (r : Fin 24) (n : Fin 4), sub = false → decider = some r → ¬ beyond r →
      fld (s.rule r).defn.control 7 3 = 3 → (fld (s.rule r).defn.control 11 2).toNat = n.val →
      ((s.queue n).on = false → v = .ended .auditRefused .error) ∧
      (wbit (s.rule r).defn.control 10 = true → (s.queue n).on = true →
        (s.queue n).list.length + 33 ≤ (s.queue n).depth → v = forwarded)) ∧
  ∀ (s : State) (x : Txn) (c : Completion), s.powered = true → s.path.phase = .forward → s.path.txn = some x →
    s.gate.state ≠ .draining →
    let o : TxnOutcome := if s.path.abandoned then .abandoned else match c with
      | .ok _ => .completed
      | .memErr => .memoryError
    ∃ t, exec (.forwardComplete c) s = .next t ∧ ∀ n : Fin 4,
      (t.queue n).list.length = (s.queue n).list.length ∧
      (t.queue n).loss = (s.queue n).loss ∧ (t.queue n).on = (s.queue n).on ∧ (t.queue n).config = (s.queue n).config ∧
      ∀ (i : Nat) (r : Record), (s.queue n).list[i]? = some r →
        (r.isPending = false → (t.queue n).list[i]? = some r) ∧
        ∀ a : AccessRecord, r.body = .access a → a.outcome = none →
          (t.queue n).list[i]? = some { r with body := .access { a with
            outcome := some o
            data := if a.kind = .read ∧ a.content = .withData ∧ o = .completed then
                (match c with | .ok w => some w | .memErr => none)
              else a.data } }

/-- The expiry of the response limit (R65, R66, R71, R72): the transaction ends, ERROR unless it is abandoned; the port goes
LATE with the timer started again, PATH is set, no record is left PENDING after a forward, and a pre-read's expiry places its
TIMEOUT record at the end of a path record queue that is ON with room. After a forward with no drain to end the records complete in
their places with the outcome TIMEOUT, or ABANDONED, and no read's word (R48, R49, R91), and the TIMEOUT record stands behind them.
The TIMEOUT record and the records of a drain's end may carry timestamps one apart when a tick falls among them (R106; named by the
transaction, log 26). -/
def Obligations.LimitExpiryTakesThePortToLate : Prop :=
  ∀ (s : State) (x : Txn), s.powered = true → s.path.port = .busy → s.path.txn = some x →
    (s.path.phase = .preread → s.NonePending) →
    ∃ t, exec .responseLimitExpiry s = .next t ∧
      t.path = { s.path with
        phase := .idle, txn := none, abandoned := false, port := .late,
        limitTimer := some (fld s.path.limitWord 0 12), expired := some (x.number, x.addr),
        answer := if s.path.abandoned then none else some .error } ∧
      t.alert.flagSet .path = true ∧ (s.path.phase = .forward → x.kind = .write → t.gate.inFlight = false) ∧
      (s.path.phase = .forward → t.NonePending) ∧
      (s.gate.state ≠ .draining → t.gate = { s.gate with
        inFlight := if s.path.phase = .forward ∧ x.kind = .write then false else s.gate.inFlight }) ∧
      (s.path.phase = .preread → s.path.recordQueue = none → t.queues = s.queues) ∧
      (∀ n, s.path.phase = .preread → s.path.recordQueue = some n → (s.queue n).on = true →
        (s.queue n).list.length < (s.queue n).depth →
        (t.queue n).list = (s.queue n).list ++
          [⟨s.nextSerial, s.timebase.timestamp, .pathFault .timeout x.number x.addr⟩]) ∧
      (∀ n, s.path.phase = .forward → s.gate.state ≠ .draining →
        s.path.recordQueue ≠ some n ∨ ((s.queue n).on = true ∧ (s.queue n).list.length < (s.queue n).depth) →
        (t.queue n).list.length = (s.queue n).list.length + (if s.path.recordQueue = some n then 1 else 0) ∧
        (s.path.recordQueue = some n → (t.queue n).list[(s.queue n).list.length]? =
          some ⟨s.nextSerial, s.timebase.timestamp, .pathFault .timeout x.number x.addr⟩) ∧
        ∀ (i : Nat) (r : Record), (s.queue n).list[i]? = some r →
          (r.isPending = false → (t.queue n).list[i]? = some r) ∧
          ∀ a : AccessRecord, r.body = .access a → a.outcome = none →
            (t.queue n).list[i]? = some { r with body := .access { a with
              outcome := some (if s.path.abandoned then .abandoned else .timeout) } }) ∧
      (s.gate.state ≠ .draining ∨ afterDeciding x.between = [] →
        t.rules = s.rules ∧ t.timers = s.timers ∧ t.inputs = s.inputs ∧ t.timebase = s.timebase ∧ t.pins = s.pins) ∧
      (x.between = [.atEnd .tick] → ∀ n, ∀ r ∈ (t.queue n).list,
        (∃ y ∈ (s.queue n).list, y.serial = r.serial ∧ y.timestamp = r.timestamp) ∨
          r.timestamp = s.timebase.timestamp ∨ r.timestamp = s.timebase.timestamp + 1) ∧
      t.link = s.link ∧ t.store = s.store

/-- The port leaves LATE (R67): the second expiry takes it DOWN, sets PATH and places a DOWN_ENTERED record with the number
and the address of the access that never completed; a stray completion, even MEMERR, takes it to READY and does nothing
else. -/
def Obligations.PortLeavesLateByExpiryOrStray : Prop :=
  ∀ s : State, s.powered = true → s.path.port = .late →
    (∀ (x : BitVec 16 × MemAddr), s.path.expired = some x →
      ∃ t, exec .secondLimitExpiry s = .next t ∧
        t.path = { s.path with port := .down, limitTimer := none, expired := none } ∧
        t.alert.flagSet .path = true ∧
        (s.path.recordQueue = none → t.queues = s.queues) ∧
        (∀ n, s.path.recordQueue = some n → (s.queue n).on = true → (s.queue n).list.length < (s.queue n).depth →
          (t.queue n).list = (s.queue n).list ++
            [⟨s.nextSerial, s.timebase.timestamp, .pathFault .downEntered x.1 x.2⟩]) ∧
        t.gate = s.gate ∧ t.rules = s.rules ∧ t.timers = s.timers ∧ t.inputs = s.inputs ∧ t.link = s.link ∧
        t.store = s.store) ∧
    ∀ c : Completion, exec (.strayCompletion c) s = .next { s with
      path := { s.path with port := .ready, limitTimer := none, expired := none } }

/-- A completion that arrives while no access is in progress changes no state, sets no flag and makes no record; while the port
is BUSY a completion ends the access in progress (R70). -/
def Obligations.CompletionOutsideAnAccessIsIgnored : Prop :=
  (∀ (s : State) (c : Completion), exec (.completionIgnored c) s = .next s) ∧
  ∀ (s : State) (x : Txn) (c : Completion), s.powered = true → s.path.port = .busy → s.path.txn = some x →
    (s.path.phase = .preread →
      ∃ t, exec (.prereadComplete c) s = .next t ∧ t.path.phase ≠ .preread) ∧
    (s.path.phase = .forward →
      ∃ t, exec (.forwardComplete c) s = .next t ∧ t.path.phase = .idle ∧ t.path.port = .ready)

/-- URST acts on the memory path alone (R73, R74): asserted it sets the marker of a transaction in flight, in PREREAD and in
FORWARD alike, and touches nothing else; deasserted it ends the hold and leaves the marker. -/
def Obligations.UpstreamResetMarksTheTransactionInFlight : Prop :=
  ∀ s : State, s.powered = true →
    (s.path.phase ≠ .idle → exec .urstAssert s = .next { s with
      pins := { s.pins with urst := true }, path := { s.path with abandoned := true } }) ∧
    (s.path.phase = .idle → exec .urstAssert s = .next { s with pins := { s.pins with urst := true } }) ∧
    exec .urstDeassert s = .next { s with pins := { s.pins with urst := false } }

/-- PATH_RESET by the state of the port (R69, R188), and the response limit word, checked (R65). -/
def Obligations.PathResetAndResponseLimitWrites : Prop :=
  (∀ (s : State) (left : Nat), s.AwaitsWord actionAddr left → s.WritesOpen →
    (s.path.port = .ready → exec .pathReset s = .next (s.answered actionAddr left .accepted false)) ∧
    (s.path.port = .busy ∨ s.path.port = .late →
      exec .pathReset s = .next (s.answered actionAddr left .busy false)) ∧
    (s.path.port = .down → exec .pathReset s = .next
      ({ s with path := { s.path with port := .ready, limitTimer := none, expired := none } }.answered
        actionAddr left .accepted false))) ∧
  ∀ (s : State) (left : Nat) (v : Word), s.AwaitsWord responseLimitAddr left → s.WritesOpen →
    (16 ≤ (fld v 0 12).toNat → (wbit v 16 = true → (fld v 17 3).toNat ≤ 3) →
      exec (.responseLimitWrite v) s = .next
        ({ s with path := { s.path with limitWord := v &&& 0x000F0FFF } }.answered responseLimitAddr left
          .accepted false)) ∧
    ((fld v 0 12).toNat < 16 ∨ (wbit v 16 = true ∧ 3 < (fld v 17 3).toNat) →
      exec (.responseLimitWrite v) s = .next (s.answered responseLimitAddr left .invalid false))

/-! ### Rules (01, 07) -/

/-- A definition word is written only while the rule is DISABLED, unchecked; otherwise the write is refused with ACTIVE and
nothing changes (R15). Bits that the layout does not name are not stored (R2, R189). -/
def Obligations.DefinitionWriteNeedsADisabledRule : Prop :=
  ∀ (s : State) (r : Fin 24) (w : RuleWord) (v : Word) (left : Nat),
    s.AwaitsWord (ruleAddr r (ruleWordOffset w)) left → s.WritesOpen → w.wf v = true →
    ((s.rule r).state = .disabled →
      exec (.ruleDefinitionWrite r w v) s = .next
        ((s.setRule r { s.rule r with defn := match w with
          | .control => { (s.rule r).defn with control := v &&& 0x0007FFFF }
          | .base => { (s.rule r).defn with base := v &&& 0x03FFFFFC }
          | .limit => { (s.rule r).defn with limit := v &&& 0x03FFFFFC }
          | .dataMask => { (s.rule r).defn with dataMask := v }
          | .reference => { (s.rule r).defn with reference := v }
          | .fill => { (s.rule r).defn with fill := v }
          | .quotaArming => { (s.rule r).defn with quotaArming := v } }).answered
          (ruleAddr r (ruleWordOffset w)) left .accepted false)) ∧
    ((s.rule r).state ≠ .disabled →
      exec (.ruleDefinitionWrite r w v) s = .next
        (s.answered (ruleAddr r (ruleWordOffset w)) left .active false))

/-- ENABLE (R16, R17). A rule already enabled answers ACTIVE. A DISABLED rule that fails one of the checks named here answers
INVALID; one that fails none of them goes LIVE with arm source NONE and DORMANT otherwise, with its window new and its
countdown loaded. The hit count and the marker stay. -/
def Obligations.EnableChecksAndStartsTheRule : Prop :=
  ∀ (s : State) (r : Fin 24) (left : Nat), s.AwaitsWord (ruleAddr r 0) left → s.WritesOpen →
    let x := s.rule r
    let c := x.defn.control
    let q := x.defn.quotaArming
    let fault : Prop :=
      (wbit c 0 = false ∧ x.defn.limit.toNat < x.defn.base.toNat) ∨ fld c 1 2 = 0 ∨
      (1 ≤ (fld c 3 3).toNat ∧ fld c 1 2 ≠ 2) ∨ (fld c 3 3 = 5 ∧ wbit c 6 = true) ∨ 5 < (fld c 3 3).toNat ∨
      4 < (fld c 7 3).toNat ∨ (wbit c 10 = true ∧ fld c 13 2 = 2 ∧ wbit c 1 = true) ∨
      (wbit c 10 = true ∧ fld c 13 2 = 3) ∨ (fld c 7 3 = 3 ∧ wbit c 10 = false) ∨
      (wbit c 16 = true ∧ (fld q 0 12 = 0 ∨ fld c 17 2 = 3)) ∨
      (fld q 15 2 = 1 ∧ ((fld q 17 5).toNat = r.val ∨ 23 < (fld q 17 5).toNat)) ∨
      (fld q 15 2 = 2 ∧ 7 < (fld q 17 5).toNat) ∨ (fld q 15 2 = 3 ∧ 1 < (fld q 17 5).toNat) ∨
      (fld q 22 2 = 1 ∧ fld q 24 8 = 0) ∨ (fld q 22 2 = 2 ∧ 7 < (fld q 24 8).toNat) ∨
      (fld q 22 2 = 3 ∧ 1 < (fld q 24 8).toNat) ∨
      ((fld q 15 2 = 2 ∧ fld q 22 2 = 2 ∨ fld q 15 2 = 3 ∧ fld q 22 2 = 3) ∧
        (fld q 17 5).toNat = (fld q 24 8).toNat)
    (x.state ≠ .disabled → exec (.enable r) s = .next (s.answered (ruleAddr r 0) left .active false)) ∧
    (x.state = .disabled → fault → exec (.enable r) s = .next (s.answered (ruleAddr r 0) left .invalid false)) ∧
    (x.state = .disabled → ¬ fault →
      exec (.enable r) s = .next
        ((s.setRule r { x with
          state := if fld q 15 2 = 0 then .live else .dormant
          window := 0
          overQuota := false
          countdown := if fld q 22 2 = 1 then fld q 24 8 else 0 }).answered (ruleAddr r 0) left .accepted false))

/-- DISABLE (R18): the rule goes DISABLED with its window, its mark and its countdown cleared; the hit count and the marker
stay; on a DISABLED rule nothing changes. A DISABLED rule is no candidate, takes its definition words, and is changed by no
notice. -/
def Obligations.DisableClearsTheWindowAndTheCountdown : Prop :=
  (∀ (s : State) (r : Fin 24) (left : Nat), s.AwaitsWord (ruleAddr r 0) left → s.WritesOpen →
    ((s.rule r).state ≠ .disabled → exec (.disable r) s = .next
      ((s.setRule r { s.rule r with state := .disabled, window := 0, overQuota := false, countdown := 0 }).answered
        (ruleAddr r 0) left .accepted false)) ∧
    ((s.rule r).state = .disabled → exec (.disable r) s = .next (s.answered (ruleAddr r 0) left .accepted false))) ∧
  ∀ (s : State) (r : Fin 24), (s.rule r).state = .disabled →
    (∀ (w : RuleWord) (v : Word) (left : Nat), s.AwaitsWord (ruleAddr r (ruleWordOffset w)) left → s.WritesOpen →
      w.wf v = true → ∃ t, exec (.ruleDefinitionWrite r w v) s = .next t ∧ t.link.status = .accepted) ∧
    (∀ kind a, (s.rule r).candidate kind a = false) ∧ (∀ src, (s.armFrom src).rule r = s.rule r) ∧
    (∀ src, (s.disarmFrom src).rule r = s.rule r) ∧
    ∀ c, (s.rule r).window = 0 → ((s.resetWindowsOf c).rule r).window = 0

/-- CLEAR_HITS (R19): in every rule state the hit count becomes zero and the marker is cleared; everything else keeps its
value; while the lock is LOCKED it is refused; and the status word reports the count as it stands. -/
def Obligations.ClearHitsKeepsEverythingElse : Prop :=
  (∀ (s : State) (r : Fin 24) (left : Nat), s.AwaitsWord (ruleAddr r 0) left →
    (s.WritesOpen → exec (.clearHits r) s = .next
      ((s.setRule r { s.rule r with hits := 0, alerted := false }).answered (ruleAddr r 0) left .accepted false)) ∧
    (s.link.locked = true → exec (.clearHits r) s = .next (s.answered (ruleAddr r 0) left .locked false))) ∧
  ∀ (s : State) (r : Fin 24), fld (s.readWord (ruleAddr r 7)) 16 16 = (s.rule r).hits

/-- Arm and disarm notices by the state of the rule (R145, R146), for every source. The hit count, the window count, the mark
and the alerted marker stay, no flag is set, no record is placed, and nothing but the rules changes. -/
def Obligations.ArmAndDisarmNoticesByRuleState : Prop :=
  ∀ s : State,
    (∀ src : ArmSource, (s.armFrom src = { s with rules := (s.armFrom src).rules }) ∧ ∀ r, (s.armFrom src).rule r =
      if (s.rule r).defn.armSource = src ∧ (s.rule r).state ≠ .disabled then
        { s.rule r with state := .live, countdown := match (s.rule r).defn.disarmSource with
          | .hits m => m
          | _ => 0 }
      else s.rule r) ∧
    ∀ src : DisarmSource, (s.disarmFrom src = { s with rules := (s.disarmFrom src).rules }) ∧
      ∀ r, (s.disarmFrom src).rule r =
        if (s.rule r).defn.disarmSource = src ∧ (s.rule r).state = .live then { s.rule r with state := .dormant }
        else s.rule r

/-- The default actions word and the unmatched capture word (R35, R36): a checked write takes the written value, another is
refused with INVALID and the word keeps its value. -/
def Obligations.DefaultActionsAndUnmatchedWrites : Prop :=
  (∀ (s : State) (v : Word) (left : Nat), s.AwaitsWord defaultActionsAddr left → s.WritesOpen →
    (fld v 0 2 ≠ 3 → fld v 4 2 ≠ 3 → exec (.defaultActionsWrite v) s = .next
      ({ s with defaultActions := v &&& 0x00000033 }.answered defaultActionsAddr left .accepted false)) ∧
    (fld v 0 2 = 3 ∨ fld v 4 2 = 3 → exec (.defaultActionsWrite v) s = .next
      (s.answered defaultActionsAddr left .invalid false))) ∧
  ∀ (s : State) (v : Word) (left : Nat), s.AwaitsWord unmatchedAddr left → s.WritesOpen →
    (wbit v 0 = false ∨ fld v 4 2 = 0 ∨ fld v 4 2 = 1 → exec (.unmatchedCaptureWrite v) s = .next
      ({ s with unmatched := v &&& 0x00000037 }.answered unmatchedAddr left .accepted false)) ∧
    (wbit v 0 = true ∧ (fld v 4 2 = 2 ∨ fld v 4 2 = 3) → exec (.unmatchedCaptureWrite v) s = .next
      (s.answered unmatchedAddr left .invalid false))

/-! ### Capture queues (04) -/

/-- The words of a queue (R78, R79, R80, R96): the configuration is written only while the queue is OFF; QUEUE_ON takes a
share of the pool and begins empty, keeping the loss count; QUEUE_OFF is BUSY with a PENDING record and otherwise empties the
queue and zeroes its loss count; FLUSH keeps the PENDING records, in their order. -/
def Obligations.QueueWordsByTheQueueState : Prop :=
  (∀ (s : State) (n : Fin 4) (v : Word) (left : Nat), s.AwaitsWord (queueAddr n 0) left → s.WritesOpen →
    let d := (fld v 0 9).toNat
    let level := (fld v 16 9).toNat
    let ok := (d = 0 ∨ d % 4 = 0 ∧ 4 ≤ d ∧ d ≤ 256) ∧ (fld v 12 2).toNat ≤ 1 ∧ (4 ≤ d → 1 ≤ level ∧ level ≤ d)
    ((s.queue n).on = true → exec (.queueConfigurationWrite n v) s = .next
      (s.answered (queueAddr n 0) left .active false)) ∧
    ((s.queue n).on = false → ok → exec (.queueConfigurationWrite n v) s = .next
      ((s.setQueue n { s.queue n with config := v &&& 0x01FF31FF }).answered (queueAddr n 0) left .accepted false)) ∧
    ((s.queue n).on = false → ¬ ok → exec (.queueConfigurationWrite n v) s = .next
      (s.answered (queueAddr n 0) left .invalid false))) ∧
  ∀ (s : State) (n : Fin 4) (left : Nat), s.AwaitsWord (queueAddr n 1) left → s.WritesOpen →
    ((s.queue n).on = true → exec (.queueOn n) s = .next (s.answered (queueAddr n 1) left .active false)) ∧
    ((s.queue n).on = false → (s.queue n).depth = 0 ∨ 256 < s.poolUsed + (s.queue n).depth →
      exec (.queueOn n) s = .next (s.answered (queueAddr n 1) left .invalid false)) ∧
    ((s.queue n).on = false → (s.queue n).depth ≠ 0 → s.poolUsed + (s.queue n).depth ≤ 256 →
      exec (.queueOn n) s = .next
        ((s.setQueue n { s.queue n with on := true, list := [] }).answered (queueAddr n 1) left .accepted false)) ∧
    ((s.queue n).pendingCount ≠ 0 → exec (.queueOff n) s = .next
      (s.answered (queueAddr n 1) left .busy false)) ∧
    ((s.queue n).pendingCount = 0 → exec (.queueOff n) s = .next
      ((s.setQueue n { s.queue n with on := false, list := [], loss := 0 }).answered (queueAddr n 1) left
        .accepted false)) ∧
    exec (.flush n) s = .next
      ((s.setQueue n { s.queue n with list := (s.queue n).list.filter Record.isPending, loss := 0 }).answered
        (queueAddr n 1) left .accepted false)

/-- An offer meets the queue as it stands (R84, R85, R87 to R90): placed at the end when there is room; refused and counted
lost when the queue is OFF, full under STOP, or full under OVERWRITE with a PENDING oldest record; otherwise it displaces the
oldest record, which is counted lost. Each loss sets QOn, also one that finds the loss count at its maximum; QNn is set exactly
at a rise of the available count to the notify level, and the other queues stay. -/
def Obligations.OfferMeetsTheQueueAsItStands : Prop :=
  ∀ (s : State) (n : Fin 4) (b : RecordBody),
    let q := s.queue n
    let u := s.offer n b
    let x : Record := ⟨s.nextSerial, s.timebase.timestamp, b⟩
    (q.on = false → u.queue n = { q with loss := satInc q.loss }) ∧
    (q.on = true → q.list.length < q.depth → u.queue n = { q with list := q.list ++ [x] }) ∧
    (q.on = true → q.depth ≤ q.list.length → fld q.config 12 2 ≠ 1 → u.queue n = { q with loss := satInc q.loss }) ∧
    (∀ r l, q.on = true → q.depth ≤ q.list.length → fld q.config 12 2 = 1 → q.list = r :: l →
      (r.isPending = true → u.queue n = { q with loss := satInc q.loss }) ∧
      (r.isPending = false → u.queue n = { q with list := l ++ [x], loss := satInc q.loss })) ∧
    ((u.queue n).loss ≠ q.loss → u.alert.flagSet (.qo n) = true) ∧
    (q.on = false → u.alert.flagSet (.qo n) = true) ∧
    (q.on = true → q.depth ≤ q.list.length → u.alert.flagSet (.qo n) = true) ∧
    (s.alert.flagSet (.qn n) = false → (u.alert.flagSet (.qn n) = true ↔
      q.available < q.notify ∧ q.notify ≤ (u.queue n).available)) ∧
    ∀ m, m ≠ n → u.queue m = s.queue m

/-- The first word of a pop or peek window that a READ frame reaches makes the copy (R92, R95): the oldest record if it is
COMPLETE, NONE otherwise. The list and the counts stay. The words of the window then read as the six words of the copied record, in
the layout of its kind, and as zero for a copy of kind NONE (R191, 11.6). -/
def Obligations.WindowReadMakesTheCopy : Prop :=
  (∀ (s : State) (n : Fin 4) (k : Fin 6) (began : Bool),
    (∀ r, s.copy = some ⟨.pop, n, began, some r⟩ → s.readWord (popAddr n k.val) = r.word k) ∧
    (∀ r, s.copy = some ⟨.peek, n, began, some r⟩ → s.readWord (peekAddr n k.val) = r.word k) ∧
    (s.copy = some ⟨.pop, n, began, none⟩ → s.readWord (popAddr n k.val) = 0) ∧
    (s.copy = some ⟨.peek, n, began, none⟩ → s.readWord (peekAddr n k.val) = 0)) ∧
  (∀ (r : Record) (a : AccessRecord), r.body = .access a →
    let flag : Bool → Nat → Word := fun b i => if b then 1#32 <<< i else 0
    let outcome : TxnOutcome → Word := fun o => match o with
      | .completed => 0 | .discarded => 1 | .refused => 2 | .auditRefused => 3 | .memoryError => 4 | .timeout => 5
      | .pathDown => 6 | .gated => 7 | .abandoned => 8
    r.word 0 = 1 ||| BitVec.ofNat 32 a.source.val <<< 8 |||
      (match a.outcome with | some o => outcome o | none => 0 : Word) <<< 16 |||
      flag (a.kind == .write) 20 ||| a.lanes.setWidth 32 <<< 24 ||| flag a.overQuota 28 ||| flag a.data.isSome 29 |||
      flag a.before.isSome 30 ∧
    r.word 1 = r.timestamp ∧ r.word 2 = a.number.setWidth 32 ∧ r.word 3 = a.addr.setWidth 32 ∧
    r.word 4 = a.data.getD 0 ∧ r.word 5 = a.before.getD 0) ∧
  (∀ r : Record,
    let is : Word → Word → Word → Word → Word → Prop := fun kind source number addr auxiliary =>
      r.word 0 = kind ||| source <<< 8 ∧ r.word 1 = r.timestamp ∧ r.word 2 = number ∧ r.word 3 = addr ∧
        r.word 4 = auxiliary ∧ r.word 5 = 0
    (∀ t m, r.body = .timerExpiry t m → is 2 (BitVec.ofNat 32 t.val) 0 0
      (match m with | .oneshot => 0 | .repeating => 1 | .retrigger => 2 | .measure => 3)) ∧
    (∀ t v, r.body = .timerInterval t v → is 3 (BitVec.ofNat 32 t.val) 0 0 (v.setWidth 32)) ∧
    (∀ e count level, r.body = .inputEvent e count level → is 4 (BitVec.ofNat 32 e.val) 0 0
      (count.setWidth 32 ||| if level then 0x100 else 0)) ∧
    (∀ cause, r.body = .gateClosed cause → is 5 0 0 0 (match cause with | .power => 0 | .service => 1)) ∧
    (∀ refused, r.body = .gateOpened refused → is 6 0 0 0 (refused.setWidth 32)) ∧
    (∀ type number addr, r.body = .pathFault type number addr → is 7 0 (number.setWidth 32) (addr.setWidth 32)
      (match type with | .timeout => 0 | .downEntered => 1))) ∧
  ∀ (s : State) (n : Fin 4) (k : Fin 6) (left : Nat), s.powered = true → s.copy = none →
    let oldest : Option Record := match (s.queue n).list with
      | r :: _ => if r.isPending then none else some r
      | [] => none
    (s.link.frame = .data .read (popAddr n k.val) (left + 1) →
      exec (.popWindowRead n) s = .next { s with
        copy := some ⟨.pop, n, k == 0, oldest⟩
        link := { s.link with frame := .data .read (popAddr n k.val + 1) left } }) ∧
    (s.link.frame = .data .read (peekAddr n k.val) (left + 1) →
      exec (.peek n) s = .next { s with
        copy := some ⟨.peek, n, k == 0, oldest⟩
        link := { s.link with frame := .data .read (peekAddr n k.val + 1) left } })

/-- Word 5 of a pop window clocked out whole removes the copied record when the read-out began at word 0 and the record is
still the oldest, and nothing otherwise (R93, R94). It is no loss. That POP_REMOVE stands for word 5 and goes over the words 1 to 4
before it, and that POP_WINDOW_READ of the next window goes over the words between and so removes the record copied earlier, as
word 5 clocked out on the way does, is the model's reading of the table (DEDUCED, log 20). -/
def Obligations.PopRemovesTheCopiedRecord : Prop :=
  (∀ (s : State) (n : Fin 4) (k : Fin 5) (left : Nat) (began : Bool) (c : Option Record), s.powered = true →
    s.copy = some ⟨.pop, n, began, c⟩ → s.link.frame = .data .read (popAddr n k.val + 1) left → 5 ≤ left + k.val →
    exec (.popRemove n) s = .next { s with
      queues := s.queues.set n { s.queue n with list :=
        match began, c, (s.queue n).list with
        | true, some r, x :: l => if x.serial = r.serial then l else x :: l
        | _, _, l => l }
      link := { s.link with frame := .data .read (popAddr n 5 + 1) (left + k.val - 5) } }) ∧
  ∀ (s : State) (n m : Fin 4) (k : Fin 5) (left : Nat) (r x : Record) (l : List Record), s.powered = true →
    m.val = n.val + 1 → s.copy = some ⟨.pop, n, true, some r⟩ →
    s.link.frame = .data .read (popAddr n k.val + 1) left → 8 ≤ left + k.val →
    (s.queue n).list = x :: l →
    exec (.popWindowRead m) s = .next { s with
      queues := s.queues.set n { s.queue n with list := if x.serial = r.serial then l else x :: l }
      copy := some ⟨.pop, m, true, match (s.queue m).list with
        | y :: _ => if y.isPending then none else some y
        | [] => none⟩
      link := { s.link with frame := .data .read (popAddr m 0 + 1) (left + k.val - 8) } }

/-! ### Timebase (05) -/

/-- The words of the timebase (R108, R109, R110): TB_START is ACTIVE while RUNNING and otherwise begins with accumulator 0 (the
period is about to begin, log 11); TB_STOP keeps the counts; the configuration and the timestamp are written only while
STOPPED, the configuration with N from 1 to 256. What the last tick still owes is taken before a preset acts (R106): the records
placed carry the value the counter had after that tick, among them the TIMER_EXPIRY record of an expiry it owes. -/
def Obligations.TimebaseWordsByTheRunState : Prop :=
  (∀ (s : State) (left : Nat), s.AwaitsWord timebaseActionAddr left → s.WritesOpen →
    (s.timebase.running = true →
      exec .tbStart s = .next (s.answered timebaseActionAddr left .active false) ∧
      exec .tbStop s = .next ({ s with timebase := { s.timebase with running := false, period := .none } }.answered
        timebaseActionAddr left .accepted false)) ∧
    (s.timebase.running = false →
      exec .tbStart s = .next ({ s with timebase :=
        { s.timebase with running := true, accumulator := 0, period := .starting } }.answered
        timebaseActionAddr left .accepted false) ∧
      exec .tbStop s = .next (s.answered timebaseActionAddr left .accepted false))) ∧
  (∀ (s : State) (v : Word) (left : Nat), s.AwaitsWord timebaseConfigAddr left → s.WritesOpen →
    (s.timebase.running = true → exec (.timebaseConfigurationWrite v) s = .next
      (s.answered timebaseConfigAddr left .active false)) ∧
    (s.timebase.running = false → 1 ≤ (fld v 0 9).toNat → (fld v 0 9).toNat ≤ 256 →
      exec (.timebaseConfigurationWrite v) s = .next
        ({ s with timebase := { s.timebase with config := v &&& 0x0000F1FF } }.answered timebaseConfigAddr left
          .accepted false)) ∧
    (s.timebase.running = false → fld v 0 9 = 0 ∨ 256 < (fld v 0 9).toNat →
      exec (.timebaseConfigurationWrite v) s = .next (s.answered timebaseConfigAddr left .invalid false))) ∧
  ∀ (s : State) (v : Word) (left : Nat), s.AwaitsWord timestampAddr left → s.WritesOpen →
    (s.timebase.running = true → exec (.timestampPreset v) s = .next (s.answered timestampAddr left .active false)) ∧
    (s.timebase.running = false → s.owedParts = [] → exec (.timestampPreset v) s = .next
      ({ s with timebase := { s.timebase with timestamp := v } }.answered timestampAddr left .accepted false)) ∧
    (s.timebase.running = false → ∃ t, exec (.timestampPreset v) s = .next t ∧
      t.timebase = { s.timebase with timestamp := v } ∧
      t.link = { s.link with
        frame := .data .write (timestampAddr + 1) left, status := .accepted, pendingMark := false } ∧
      t.path = s.path ∧ t.store = s.store ∧ t.pins = s.pins ∧ t.copy = s.copy ∧ t.defaultActions = s.defaultActions ∧
      t.unmatched = s.unmatched ∧ t.alert.tickOwed = false ∧
      (∀ n, ∀ x ∈ (t.queue n).list, x ∈ (s.queue n).list ∨ x.timestamp = s.timebase.timestamp) ∧
      ∀ c n, s.owedParts = [.timer c] → (s.timer c).atExpiry = true → (s.timer c).recordQueue = some n →
        (s.queue n).on = true → (s.queue n).list.length < (s.queue n).depth →
        (t.timer c).tickOwed = false ∧ (t.queue n).list = (s.queue n).list ++
          [⟨s.nextSerial, s.timebase.timestamp, .timerExpiry c (s.timer c).mode⟩])

/-- A tick advances the timestamp and the tap count, wrapping, and begins the next tick period with the addition of K (R104 to
R107). A tick that finds the first period after TB_START not yet begun makes that period's addition as well (log 11). No tick
occurs while the timebase is STOPPED (R111). The memory path, the link and the store do not see it. A tick at the moment of a
decision may fall among the things it hands out (R106; named by the request, log 26): the ACCESS records carry the value standing when
the decision has read it, at their placement or before it, in whatever order TBG takes the reading and the tick, unless a record placed since with another value would
stand ahead of one of them: then they carry the value standing at their placement (R82). Every record placed carries the value before
the tick or after it, so that records of different blocks may be one apart in either order. -/
def Obligations.TickAdvancesTheCounts : Prop :=
  (∀ (s : State) (p : DecisionPart) (l₁ l₂ : List DecisionPart), s.timebase.running = true → p = .read ∨ p = .reserve →
    .read ∉ l₁ → .reserve ∉ l₁ →
    s.decisionStamp (l₁ ++ p :: l₂) = s.timebase.timestamp + BitVec.ofNat 32 (l₁.count (.meet .tick))) ∧
  (∀ (s : State) (l : List DecisionPart), s.timebase.running = false → s.decisionStamp l = s.timebase.timestamp) ∧
  (∀ (s : State) (first : Nat) (read : Word) (vs : List Reservation),
    let w := s.accessStamp first read vs
    (w = read ∨ w = s.timebase.timestamp) ∧
    (w ≠ s.timebase.timestamp → ∀ v ∈ vs, (s.queue v.queue).reception ≠ .refuse →
      ∀ r ∈ (s.queue v.queue).list, first ≤ r.serial → r.timestamp = w) ∧
    ((∀ v ∈ vs, ∀ r ∈ (s.queue v.queue).list, first ≤ r.serial → r.timestamp = read) → w = read)) ∧
  (∀ s : State, s.powered = true → s.timebase.running = true →
    (s.takeMeeting .tick).timebase.timestamp = s.timebase.timestamp + 1) ∧
  (∀ (s : State) (ms : List Meeting) (ts : List (Fin 8)) (order : List DecisionPart),
    order.Perm (s.decisionParts ms ts) → ∃ key, orderParts key 0 (s.decisionParts ms ts) = order) ∧
  (∀ (s : State) (q : Request), q.wf = true → s.NoHold → s.path.held = none → s.NonePending →
    s.timebase.running = true →
    let x := captureRequest (s.path.number + 1) q
    (x.kind = .read → s.gate.state ≠ .draining) → (x.kind = .write → s.gate.state = .opened) →
    s.needsPreread x = false → x.between = [.inside .tick] →
    ∃ t, exec (.upstreamRequest q) s = .next t ∧
      t.timebase.timestamp = (if (s.scan x x.data 0 allRules).1 = [] then s.timebase.timestamp
        else s.timebase.timestamp + 1) ∧
      ∀ n, ∀ r ∈ (t.queue n).list,
        r ∈ (s.queue n).list ∨ r.timestamp = s.timebase.timestamp ∨ r.timestamp = s.timebase.timestamp + 1) ∧
  (∀ s : State, s.powered = true → s.timebase.running = true → s.timebase.period = .starting →
    let n := (fld s.timebase.config 0 9).toNat
    let k := (fld s.timebase.config 12 4).toNat
    let sum := (s.timebase.accumulator.toNat + k) % 16 + k
    ∃ t, exec .tick s = .next t ∧
      t.timebase = { s.timebase with
        timestamp := s.timebase.timestamp + 1, tapCount := s.timebase.tapCount + 1
        accumulator := BitVec.ofNat 4 sum, period := .running (if 16 ≤ sum then n + 1 else n) }) ∧
  (∀ (s : State) (len : Nat), s.powered = true → s.timebase.running = true → s.timebase.period = .running len →
    let n := (fld s.timebase.config 0 9).toNat
    let sum := s.timebase.accumulator.toNat + (fld s.timebase.config 12 4).toNat
    ∃ t, exec .tick s = .next t ∧
      t.timebase = { s.timebase with
        timestamp := s.timebase.timestamp + 1, tapCount := s.timebase.tapCount + 1
        accumulator := BitVec.ofNat 4 sum, period := .running (if 16 ≤ sum then n + 1 else n) } ∧
      t.path = s.path ∧ t.link = s.link ∧ t.store = s.store ∧ t.pins = s.pins ∧ t.copy = s.copy ∧
      t.defaultActions = s.defaultActions ∧ t.unmatched = s.unmatched) ∧
  ∀ s : State, s.timebase.running = false → exec .tick s = .next s

/-- Any 16 consecutive tick periods last 16 N + K REFCLK periods and bring the accumulator back (R104). -/
def Obligations.SixteenPeriodsLastSixteenNPlusK : Prop :=
  ∀ b : Timebase,
    let len : Timebase → Nat := fun x => match x.period with | .running l => l | _ => 0
    (((List.range 16).map fun i => len (Timebase.beginPeriod^[i + 1] b)).sum =
      16 * (fld b.config 0 9).toNat + (fld b.config 12 4).toNat) ∧
    (Timebase.beginPeriod^[16] b).accumulator = b.accumulator

/-- At a tick with no input sampling and nothing owed from the last one, every counter whose tap ticks counts (R107, R120, R126,
R158, R170): a RUNNING down-counting channel above 1 goes down by one, a RUNNING MEASURE channel not one below its reload goes up
by one, stopping at 65535; the hold-off of a REOPENING gate and the pulse in progress go down by one; a counter at its last count
is left owing its end (log 4); a channel that is not RUNNING, or whose tap does not tick, stays. The tick is not yet placed among
the pulse starts it causes (log 14). That all of them count it in the step of the TICK, before what an effect of it brings, is the
model's (log 30). An input that samples at a tick with nothing owed takes the majority of its last two samples and the pin (R138), and a change of the seen level in the active
direction is an event, counted, and effective in EVERY mode or with its flag clear, with the new timestamp (R106, R139 to
R141). -/
def Obligations.TickCountsTheChannels : Prop :=
  (∀ s : State, s.powered = true → s.timebase.running = true → s.owedParts = [] →
    (∀ e, (s.input e).samplesAt (s.timebase.tapCount + 1) = false) →
    let ticks : BitVec 3 → Prop := fun tap => (s.timebase.tapCount + 1).toNat % 16 ^ tap.toNat = 0
    ∃ u, exec .tick s = .next u ∧ u.rules = s.rules ∧ u.inputs = s.inputs ∧ u.queues = s.queues ∧
      (s.gate.state ≠ .reopening ∨ ¬ ticks s.gate.holdOffTap → u.gate = s.gate) ∧
      (s.gate.state = .reopening → ticks s.gate.holdOffTap →
        (s.gate.holdOff.toNat ≤ 1 → u.gate = { s.gate with tickOwed := true }) ∧
        (2 ≤ s.gate.holdOff.toNat → u.gate = { s.gate with holdOff := s.gate.holdOff - 1 })) ∧
      (s.alert.pulse = 0 ∨ ¬ ticks s.alert.pulseTap → u.alert = { s.alert with lastTick := .unplaced }) ∧
      (s.alert.pulse ≠ 0 → ticks s.alert.pulseTap →
        (s.alert.pulse = 1 → u.alert = { s.alert with tickOwed := true, lastTick := .unplaced }) ∧
        (s.alert.pulse ≠ 1 → u.alert = { s.alert with pulse := s.alert.pulse - 1, lastTick := .unplaced })) ∧ ∀ t,
      let ch := s.timer t
      (ch.state ≠ .running ∨ ¬ ticks (fld ch.config 4 3) → u.timer t = ch) ∧
      (ch.state = .running → ticks (fld ch.config 4 3) →
        fld ch.config 0 3 = 0 ∨ fld ch.config 0 3 = 1 ∨ fld ch.config 0 3 = 2 →
        (ch.counter = 1 → u.timer t = { ch with tickOwed := true }) ∧
        (ch.counter ≠ 1 → u.timer t = { ch with counter := ch.counter - 1, tickOwed := false })) ∧
      (ch.state = .running → ticks (fld ch.config 4 3) → fld ch.config 0 3 = 3 →
        (ch.counter.toNat + 1 = ch.reload.toNat → u.timer t = { ch with tickOwed := true }) ∧
        (ch.counter.toNat + 1 ≠ ch.reload.toNat → u.timer t = { ch with
          counter := if ch.counter = 65535 then 65535 else ch.counter + 1, tickOwed := false }))) ∧
  ∀ (s : State) (e : Fin 2) (seen a b c : Bool), s.powered = true → s.timebase.running = true → s.owedParts = [] →
    (s.input e).sampler = some ⟨seen, a, b, c⟩ → wbit (s.input e).config 0 = true →
    1 ≤ (fld (s.input e).config 2 3).toNat →
    (s.timebase.tapCount + 1).toNat % 16 ^ ((fld (s.input e).config 2 3).toNat - 1) = 0 →
    let i := s.input e
    let now := decide (2 ≤ b.toNat + c.toNat + (s.evPin e).toNat)
    let event := now ≠ seen ∧ now ≠ wbit i.config 1
    ∃ u, exec .tick s = .next u ∧
      (u.input e).sampler = some ⟨now, b, c, s.evPin e⟩ ∧ (u.input e).config = i.config ∧
      (u.input e).count = (if event then satInc i.count else i.count) ∧
      (event → wbit i.config 5 = false ∨ s.alert.flagSet (.input e) = false →
        (u.input e).lastEvent = s.timebase.timestamp + 1 ∧ u.alert.flagSet (.input e) = true) ∧
      (¬ event ∨ (wbit i.config 5 = true ∧ s.alert.flagSet (.input e) = true) → (u.input e).lastEvent = i.lastEvent)

/-! ### Watch timers (06) -/

/-- The words of a channel (R114, R116, R117, R118): configuration, reload and PRESET need a STOPPED channel, and so does START,
which sets a down-counting channel RUNNING, loading a zero counter, and a MEASURE channel WAITING with its results cleared;
STOP is taken in every state and leaves the counter. -/
def Obligations.TimerWordsByTheChannelState : Prop :=
  (∀ (s : State) (t : Fin 8) (v : Word) (left : Nat), s.WritesOpen →
    (s.AwaitsWord (timerAddr t 0) left →
      let ok := (fld v 0 3).toNat ≤ 3 ∧ (fld v 4 3).toNat ≤ 4 ∧ fld v 8 2 ≠ 3 ∧
        (fld v 8 2 = 1 → (fld v 10 5).toNat ≤ 23) ∧ (fld v 8 2 = 2 → (fld v 10 5).toNat ≤ 1)
      ((s.timer t).state ≠ .stopped → exec (.timerConfigurationWrite t .configuration v) s = .next
        (s.answered (timerAddr t 0) left .active false)) ∧
      ((s.timer t).state = .stopped → ok → exec (.timerConfigurationWrite t .configuration v) s = .next
        ((s.setTimer t { s.timer t with config := v &&& 0x000F7F77 }).answered (timerAddr t 0) left .accepted false)) ∧
      ((s.timer t).state = .stopped → ¬ ok → exec (.timerConfigurationWrite t .configuration v) s = .next
        (s.answered (timerAddr t 0) left .invalid false))) ∧
    (s.AwaitsWord (timerAddr t 1) left →
      ((s.timer t).state ≠ .stopped → exec (.timerConfigurationWrite t .reload v) s = .next
        (s.answered (timerAddr t 1) left .active false)) ∧
      ((s.timer t).state = .stopped → fld v 0 16 ≠ 0 → exec (.timerConfigurationWrite t .reload v) s = .next
        ((s.setTimer t { s.timer t with reload := fld v 0 16 }).answered (timerAddr t 1) left .accepted false)) ∧
      ((s.timer t).state = .stopped → fld v 0 16 = 0 → exec (.timerConfigurationWrite t .reload v) s = .next
        (s.answered (timerAddr t 1) left .invalid false)))) ∧
  ∀ (s : State) (t : Fin 8) (left : Nat), s.AwaitsWord (timerAddr t 2) left → s.WritesOpen →
    let ch := s.timer t
    (ch.state ≠ .stopped →
      exec (.start t) s = .next (s.answered (timerAddr t 2) left .active false) ∧
      exec (.preset t) s = .next (s.answered (timerAddr t 2) left .active false)) ∧
    (ch.state = .stopped → fld ch.config 0 3 = 0 ∨ fld ch.config 0 3 = 1 ∨ fld ch.config 0 3 = 2 →
      exec (.start t) s = .next ((s.setTimer t { ch with
        state := .running, counter := if ch.counter = 0 then ch.reload else ch.counter }).answered
        (timerAddr t 2) left .accepted false)) ∧
    (ch.state = .stopped → fld ch.config 0 3 = 3 →
      exec (.start t) s = .next ((s.setTimer t { ch with
        state := .waiting, last := 0, minimum := 65535, maximum := 0 }).answered
        (timerAddr t 2) left .accepted false)) ∧
    (ch.state = .stopped →
      exec (.preset t) s = .next ((s.setTimer t { ch with counter := ch.reload }).answered
        (timerAddr t 2) left .accepted false)) ∧
    exec (.stop t) s = .next ((s.setTimer t { ch with state := .stopped, tickOwed := false }).answered
      (timerAddr t 2) left .accepted false)

/-- An expiry (R120, R126, R129 to R131): the tap tick owed to a channel at its last count loads the counter and leaves the
state its mode gives, or is the overdue report of a MEASURE channel, which goes on counting; either hands out the flag, the
record, the notices and the window resets. -/
def Obligations.ExpiryHandsOutItsEffects : Prop :=
  ∀ (s : State) (t : Fin 8), s.powered = true → (s.timer t).state = .running → (s.timer t).tickOwed = true →
    let ch := s.timer t
    (fld ch.config 0 3 = 0 ∨ fld ch.config 0 3 = 1 ∨ fld ch.config 0 3 = 2 → ch.counter = 1 →
      ∃ u, exec (.timerExpiry t) s = .next u ∧ s.ExpiryHandedOut t u ∧
        u.timer t = { ch with
          counter := ch.reload, tickOwed := false
          state := if fld ch.config 0 3 = 0 then .stopped else if fld ch.config 0 3 = 1 then .running
            else .lapsed }) ∧
    (fld ch.config 0 3 = 3 → ch.counter.toNat + 1 = ch.reload.toNat →
      ∃ u, exec (.measureOverdue t) s = .next u ∧ s.ExpiryHandedOut t u ∧
        u.timer t = { ch with counter := ch.reload, tickOwed := false })

/-- What a trigger does to a channel that is owed no tick, by mode and state (R115, R121, R123, R125, R127). -/
def Obligations.TriggerActsByModeAndState : Prop :=
  ∀ (s : State) (t : Fin 8), (s.timer t).tickOwed = false →
    let ch := s.timer t
    let y := (s.triggerTimer t).timer t
    (ch.mode = .oneshot → ch.state = .stopped →
      y = { ch with state := .running, counter := if ch.counter = 0 then ch.reload else ch.counter }) ∧
    (ch.mode = .oneshot → ch.state ≠ .stopped → y = ch) ∧ (ch.mode = .repeating → y = ch) ∧
    (ch.mode = .retrigger → ch.state = .stopped → y = ch) ∧
    (ch.mode = .retrigger → ch.state = .running ∨ ch.state = .lapsed →
      y = { ch with state := .running, counter := ch.reload }) ∧
    (ch.mode = .measure → ch.state = .stopped → y = ch) ∧
    (ch.mode = .measure → ch.state = .waiting → y = { ch with state := .running, counter := 0 }) ∧
    (ch.mode = .measure → ch.state = .running →
      y = { ch with
        last := ch.counter, counter := 0
        minimum := if ch.counter < ch.minimum then ch.counter else ch.minimum
        maximum := if ch.counter > ch.maximum then ch.counter else ch.maximum } ∧
      (ch.recordIntervals = true → ∀ n, ch.recordQueue = some n → (s.queue n).on = true →
        (s.queue n).list.length < (s.queue n).depth →
        ((s.triggerTimer t).queue n).list = (s.queue n).list ++
          [⟨s.nextSerial, s.timebase.timestamp, .timerInterval t ch.counter⟩])) ∧
    ∀ x, x ≠ t → (s.triggerTimer t).timer x = s.timer x

/-! ### Event inputs (07) -/

/-- A change of the pin of an input (R136, R137, R139 to R142). A disabled or a filtered input does not take it; an enabled
unfiltered one sees the new level. An edge in the other direction does nothing more; an event is counted; with HOLD_FIRST and
the flag set it does nothing more; otherwise it takes the timestamp and sets the flag, and its record goes to the end of a
record queue that is ON with room when no channel is triggered by the input; each channel that names the input is triggered
(R115), and the rules that name it as their arm or disarm source are armed and disarmed (R145, R146). When a tick falls among these
(named by the command, log 26), each record carries the value before it or after it, and the INPUT_EVENT record the last-event
timestamp (R106, R142). -/
def Obligations.PinChangeOfAnInput : Prop :=
  ∀ (s : State) (e : Fin 2) (level : Bool) (ms : List Meeting), s.powered = true → s.evPin e = !level →
    let i := s.input e
    let pins := { s.pins with ev := s.pins.ev.set e level }
    (i.sampler = none ∨ fld i.config 2 3 ≠ 0 →
      exec (.evPinChange e ⟨level, ms⟩) s = .next { s with pins := pins }) ∧
    ∀ m, i.sampler = some m → m.seen = !level → fld i.config 2 3 = 0 →
      (level = wbit i.config 1 →
        exec (.evPinChange e ⟨level, ms⟩) s = .next
          ({ s with pins := pins }.setInput e { i with sampler := some ⟨level, level, level, level⟩ })) ∧
      (level ≠ wbit i.config 1 → wbit i.config 5 = true → s.alert.flagSet (.input e) = true →
        exec (.evPinChange e ⟨level, ms⟩) s = .next ({ s with pins := pins }.setInput e { i with
          sampler := some ⟨level, level, level, level⟩, count := satInc i.count })) ∧
      (level ≠ wbit i.config 1 → wbit i.config 5 = false ∨ s.alert.flagSet (.input e) = false → ms = [.tick] →
        s.timebase.running = true →
        ∃ t, exec (.evPinChange e ⟨level, ms⟩) s = .next t ∧ t.timebase.timestamp = s.timebase.timestamp + 1 ∧
          (t.input e).count = satInc i.count ∧ t.alert.flagSet (.input e) = true ∧ t.pins = pins ∧
          ((t.input e).lastEvent = s.timebase.timestamp ∨ (t.input e).lastEvent = s.timebase.timestamp + 1) ∧
          ∀ n, ∀ r ∈ (t.queue n).list, r ∈ (s.queue n).list ∨
            ((r.timestamp = s.timebase.timestamp ∨ r.timestamp = s.timebase.timestamp + 1) ∧
              (r.body = .inputEvent e (satInc i.count) level → r.timestamp = (t.input e).lastEvent))) ∧
      (level ≠ wbit i.config 1 → wbit i.config 5 = false ∨ s.alert.flagSet (.input e) = false → ms = [] →
        ∃ t, exec (.evPinChange e ⟨level, ms⟩) s = .next t ∧
          t.input e = { i with
            sampler := some ⟨level, level, level, level⟩, count := satInc i.count
            lastEvent := s.timebase.timestamp } ∧
          t.alert.flagSet (.input e) = true ∧ t.pins = pins ∧ (∀ x, x ≠ e → t.input x = s.input x) ∧
          (∀ n, i.recordQueue = some n → (∀ c, (s.timer c).trigger ≠ .input e.val) → (s.queue n).on = true →
            (s.queue n).list.length < (s.queue n).depth →
            (t.queue n).list = (s.queue n).list ++
              [⟨s.nextSerial, s.timebase.timestamp, .inputEvent e (satInc i.count) level⟩]) ∧
          (∀ c, (s.timer c).trigger = .input e.val → t.timer c = (s.triggerTimer c).timer c) ∧
          (∀ c, (s.timer c).trigger ≠ .input e.val → t.timer c = s.timer c) ∧
          (∀ r, t.rule r =
            let x := s.rule r
            let y := if x.defn.armSource = .input e.val ∧ x.state ≠ .disabled then
              { x with state := .live, countdown := x.defn.countdownLoad } else x
            if x.defn.disarmSource = .input e.val ∧ y.state = .live then { y with state := .dormant } else y) ∧
          t.path = s.path ∧ t.gate = s.gate ∧ t.link = s.link ∧ t.store = s.store ∧ t.timebase = s.timebase)

/-- The input configuration word, refused with ACTIVE when it would enable an enabled input, checked, and taken with the seeding
of the sampler (R135, R136); and the majority of three at a sample (R138). -/
def Obligations.InputWordAndSampler : Prop :=
  (∀ (s : State) (e : Fin 2) (v : Word) (left : Nat), s.AwaitsWord (inputAddr e 0) left → s.WritesOpen →
    let i := s.input e
    let ok := (fld v 2 3).toNat ≤ 3 ∧ (wbit v 6 = true → (fld v 7 3).toNat ≤ 3)
    let p := s.evPin e
    (wbit i.config 0 = true → wbit v 0 = true → exec (.inputConfigurationWrite e v) s = .next
      (s.answered (inputAddr e 0) left .active false)) ∧
    (wbit i.config 0 = false ∨ wbit v 0 = false → ¬ ok → exec (.inputConfigurationWrite e v) s = .next
      (s.answered (inputAddr e 0) left .invalid false)) ∧
    (wbit v 0 = false → ok → exec (.inputConfigurationWrite e v) s = .next
      ((s.setInput e { i with config := v &&& 0x000003FF, sampler := none }).answered (inputAddr e 0) left
        .accepted false)) ∧
    (wbit i.config 0 = false → wbit v 0 = true → ok → exec (.inputConfigurationWrite e v) s = .next
      ((s.setInput e { i with config := v &&& 0x000003FF, sampler := some ⟨p, p, p, p⟩ }).answered (inputAddr e 0) left
        .accepted false))) ∧
  ∀ (s : State) (e : Fin 2) (seen a b c : Bool), (s.input e).sampler = some ⟨seen, a, b, c⟩ →
    ((s.sampleInput e).input e).sampler =
      some ⟨if (b.toNat + c.toNat + (s.evPin e).toNat) ≥ 2 then true else false, b, c, s.evPin e⟩

/-! ### Write gate (08) -/

/-- PFAIL (R151, R154, R157, R158). An assertion closes an OPEN gate with no write in flight, drains one with a write in
flight, returns a REOPENING gate to CLOSED, and is recorded in DRAINING and CLOSED; each sets the power-seen mark. A
deassertion as the last cause starts the hold-off. While the store is LOADING neither is taken. An assertion while the store is
SAVING acts on the gate as in IDLE, and the save is abandoned: its result is ABANDONED and no check value is stored (R161,
R186). -/
def Obligations.PfailClosesAndReleasesTheGate : Prop :=
  (∀ s : State, s.powered = true → s.pins.pfail = false → s.store.state = .idle →
    let pins := { s.pins with pfail := true }
    (s.gate.state = .opened → s.gate.inFlight = false →
      ∃ t, exec .pfailAssert s = .next t ∧
        t.gate = { s.gate with pfail := true, powerSeen := true, state := .closed, refused := 0 } ∧
        t.alert.flagSet .gate = true ∧ t.pins = pins ∧ (s.gate.recordQueue = none → t.queues = s.queues) ∧
        (∀ n, s.gate.recordQueue = some n → (s.queue n).on = true → (s.queue n).list.length < (s.queue n).depth →
          (t.queue n).list = (s.queue n).list ++ [⟨s.nextSerial, s.timebase.timestamp, .gateClosed .power⟩]) ∧
        t.path = s.path ∧ t.rules = s.rules ∧ t.timers = s.timers ∧ t.inputs = s.inputs ∧ t.store = s.store) ∧
    (s.gate.state = .opened → s.gate.inFlight = true → exec .pfailAssert s = .next { s with
      pins := pins, gate := { s.gate with pfail := true, powerSeen := true, state := .draining } }) ∧
    (s.gate.state = .reopening → exec .pfailAssert s = .next { s with
      pins := pins
      gate := { s.gate with pfail := true, powerSeen := true, state := .closed, holdOff := 0, tickOwed := false } }) ∧
    (s.gate.state = .draining ∨ s.gate.state = .closed → exec .pfailAssert s = .next { s with
      pins := pins, gate := { s.gate with pfail := true, powerSeen := true } })) ∧
  (∀ s : State, s.powered = true → s.pins.pfail = true → s.store.state ≠ .loading →
    let pins := { s.pins with pfail := false }
    (s.gate.state = .closed → s.gate.hold = false → s.gate.powerSeen = true → exec .pfailDeassert s = .next { s with
      pins := pins
      gate := { s.gate with
        pfail := false, state := .reopening, holdOff := fld s.gate.config 8 8, holdOffTap := fld s.gate.config 16 3,
        tickOwed := false } }) ∧
    (s.gate.state ≠ .closed ∨ s.gate.hold = true → exec .pfailDeassert s = .next { s with
      pins := pins, gate := { s.gate with pfail := false } })) ∧
  (∀ (s : State) (c : Image), s.powered = true → s.pins.pfail = false → s.store.state = .saving →
    s.store.copy = some c →
    ∃ t u, exec .pfailAssert s = .next t ∧
      exec .pfailAssert { s with store := { s.store with state := .idle } } = .next u ∧
      t.store.state = .idle ∧ t.store.saveResult = .abandoned ∧ t.store.check = none ∧ t.store.copy = none ∧
      t.store.loadDefaults = s.store.loadDefaults ∧ t.gate = u.gate ∧ t.queues = u.queues ∧ t.alert = u.alert ∧
      t.pins = u.pins ∧ t.path = s.path ∧ t.rules = s.rules ∧ t.timers = s.timers ∧ t.inputs = s.inputs ∧
      t.link = s.link) ∧
  ∀ s : State, s.powered = true → s.store.state = .loading →
    exec .pfailAssert s = .next { s with pins := { s.pins with pfail := true } } ∧
    exec .pfailDeassert s = .next { s with pins := { s.pins with pfail := false } }

/-- The end of a drain and of a hold-off. A drain that ends sets the refused-write count to 0 and the GATE flag and offers a
GATE_CLOSED record to the record queue, with cause POWER when the power-seen mark is set and SERVICE otherwise (R155, R156); it stays
CLOSED while a cause stands, goes on to REOPENING with the mark set, and otherwise to OPEN with a GATE_OPENED record behind the other
(R157, R159). That the two stand side by side is the model's (log 28). A hold-off that ends goes to OPEN with its record and the mark
clear (R158, R159). A record queue that is OFF counts each record lost with its flag, and with no record queue no queue changes. -/
def Obligations.DrainAndHoldOffEnd : Prop :=
  (∀ s : State, s.powered = true → s.gate.state = .draining → s.gate.inFlight = false →
    ∃ t, exec .gateDrainEnd s = .next t ∧ t.alert.flagSet .gate = true ∧
      (s.gate.pfail = true ∨ s.gate.hold = true → t.gate = { s.gate with state := .closed, refused := 0 }) ∧
      (s.gate.pfail = false → s.gate.hold = false → s.gate.powerSeen = true →
        t.gate = { s.gate with
          state := .reopening, refused := 0, holdOff := fld s.gate.config 8 8, holdOffTap := fld s.gate.config 16 3,
          tickOwed := false }) ∧
      (s.gate.pfail = false → s.gate.hold = false → s.gate.powerSeen = false →
        t.gate = { s.gate with state := .opened, refused := 0, holdOff := 0, tickOwed := false }) ∧
      (s.gate.recordQueue = none → t.queues = s.queues) ∧
      (∀ n, s.gate.recordQueue = some n →
        let q := s.queue n
        let stays := s.gate.pfail = true ∨ s.gate.hold = true ∨ s.gate.powerSeen = true
        let closed : Record := ⟨s.nextSerial, s.timebase.timestamp,
          .gateClosed (if s.gate.powerSeen then .power else .service)⟩
        (∀ m, m ≠ n → t.queue m = s.queue m) ∧
        (stays → q.on = true → q.list.length < q.depth → t.queue n = { q with list := q.list ++ [closed] }) ∧
        (¬ stays → q.on = true → q.list.length + 2 ≤ q.depth → t.queue n = { q with
          list := q.list ++ [closed, ⟨s.nextSerial + 1, s.timebase.timestamp, .gateOpened 0⟩] }) ∧
        (q.on = false → t.alert.flagSet (.qo n) = true ∧
          t.queue n = { q with loss := if stays then satInc q.loss else satInc (satInc q.loss) })) ∧
      t.path = s.path ∧ t.rules = s.rules ∧ t.timers = s.timers ∧ t.inputs = s.inputs ∧ t.link = s.link ∧
      t.store = s.store) ∧
  ∀ s : State, s.powered = true → s.gate.state = .reopening → s.gate.tickOwed = true →
    ∃ t, exec .gateHoldOffEnd s = .next t ∧
      t.gate = { s.gate with state := .opened, powerSeen := false, holdOff := 0, tickOwed := false } ∧
      (s.gate.recordQueue = none → t.queues = s.queues) ∧
      (∀ n, s.gate.recordQueue = some n →
        let q := s.queue n
        (∀ m, m ≠ n → t.queue m = s.queue m) ∧
        (q.on = true → q.list.length < q.depth → t.queue n = { q with
          list := q.list ++ [⟨s.nextSerial, s.timebase.timestamp, .gateOpened s.gate.refused⟩] }) ∧
        (q.on = false → t.alert.flagSet (.qo n) = true ∧ t.queue n = { q with loss := satInc q.loss })) ∧
      t.path = s.path ∧ t.rules = s.rules ∧ t.timers = s.timers ∧ t.inputs = s.inputs ∧ t.link = s.link ∧
      t.store = s.store

/-- The words of the gate (R152, R153). GATE_HOLD closes an OPEN gate with no write in flight as a SERVICE closure, drains one
with a write in flight, returns a REOPENING gate to CLOSED and is recorded in DRAINING and CLOSED. GATE_RELEASE of the last
cause opens the gate, or starts the hold-off when the power-seen mark is set; while PFAIL stands or the gate is not CLOSED only
the cause is cleared (R155). A request that finds the hold as it asks changes nothing. The configuration word is checked. -/
def Obligations.GateWordsAreTakenInEveryState : Prop :=
  (∀ (s : State) (left : Nat), s.AwaitsWord gateActionAddr left → s.WritesOpen →
    (s.gate.hold = true → exec .gateHold s = .next (s.answered gateActionAddr left .accepted false)) ∧
    (s.gate.hold = false → exec .gateRelease s = .next (s.answered gateActionAddr left .accepted false)) ∧
    (s.gate.hold = false → s.gate.state = .opened → s.gate.inFlight = true →
      exec .gateHold s = .next ({ s with gate := { s.gate with hold := true, state := .draining } }.answered
        gateActionAddr left .accepted false)) ∧
    (s.gate.hold = false → s.gate.state = .opened → s.gate.inFlight = false → s.gate.powerSeen = false →
      ∃ t, exec .gateHold s = .next t ∧ t.gate = { s.gate with hold := true, state := .closed, refused := 0 } ∧
        t.alert.flagSet .gate = true ∧ t.link = (s.answered gateActionAddr left .accepted false).link ∧
        (s.gate.recordQueue = none → t.queues = s.queues) ∧
        (∀ n, s.gate.recordQueue = some n → (s.queue n).on = true → (s.queue n).list.length < (s.queue n).depth →
          (t.queue n).list = (s.queue n).list ++ [⟨s.nextSerial, s.timebase.timestamp, .gateClosed .service⟩]) ∧
        t.path = s.path ∧ t.rules = s.rules ∧ t.timers = s.timers ∧ t.inputs = s.inputs ∧ t.store = s.store) ∧
    (s.gate.hold = false → s.gate.state = .reopening → exec .gateHold s = .next ({ s with gate := { s.gate with
      hold := true, state := .closed, holdOff := 0, tickOwed := false } }.answered gateActionAddr left
      .accepted false)) ∧
    (s.gate.hold = false → s.gate.state = .closed ∨ s.gate.state = .draining →
      exec .gateHold s = .next ({ s with gate := { s.gate with hold := true } }.answered gateActionAddr left
        .accepted false)) ∧
    (s.gate.hold = true → s.gate.state = .closed → s.gate.pfail = false → s.gate.powerSeen = false →
      ∃ t, exec .gateRelease s = .next t ∧ t.gate = { s.gate with
          hold := false, state := .opened, holdOff := 0, tickOwed := false } ∧
        t.link = (s.answered gateActionAddr left .accepted false).link ∧
        (s.gate.recordQueue = none → t.queues = s.queues) ∧
        (∀ n, s.gate.recordQueue = some n → (s.queue n).on = true → (s.queue n).list.length < (s.queue n).depth →
          (t.queue n).list = (s.queue n).list ++
            [⟨s.nextSerial, s.timebase.timestamp, .gateOpened s.gate.refused⟩]) ∧
        t.path = s.path ∧ t.rules = s.rules ∧ t.timers = s.timers ∧ t.inputs = s.inputs ∧ t.store = s.store) ∧
    (s.gate.hold = true → s.gate.state = .closed → s.gate.pfail = false → s.gate.powerSeen = true →
      exec .gateRelease s = .next ({ s with gate := { s.gate with
        hold := false, state := .reopening, holdOff := fld s.gate.config 8 8, holdOffTap := fld s.gate.config 16 3,
        tickOwed := false } }.answered gateActionAddr left .accepted false)) ∧
    (s.gate.hold = true → s.gate.state ≠ .closed ∨ s.gate.pfail = true →
      exec .gateRelease s = .next ({ s with gate := { s.gate with hold := false } }.answered gateActionAddr left
        .accepted false))) ∧
  ∀ (s : State) (v : Word) (left : Nat), s.AwaitsWord gateConfigAddr left → s.WritesOpen →
    let ok := fld v 8 8 ≠ 0 ∧ (fld v 16 3).toNat ≤ 3 ∧ (fld v 0 2).toNat ≤ 1 ∧
      (wbit v 20 = true → (fld v 21 3).toNat ≤ 3)
    (ok → exec (.gateConfigurationWrite v) s = .next
      ({ s with gate := { s.gate with config := v &&& 0x00F7FF03 } }.answered gateConfigAddr left .accepted false)) ∧
    (¬ ok → exec (.gateConfigurationWrite v) s = .next (s.answered gateConfigAddr left .invalid false))

/-! ### Alert output (09) -/

/-- A clear-flags write (R165): accepted in either lock state and refused with BUSY while the store is SAVING; it clears exactly
the flags of the mask, ignores the bits that name no flag, touches nothing behind the flags, moves the line only in LEVEL mode,
and never ends a pulse. -/
def Obligations.ClearFlagsClearsTheMask : Prop :=
  ∀ (s : State) (v : Word) (left : Nat), s.AwaitsWord alertFlagsAddr left →
    (s.store.state = .idle →
      let flags := s.alert.flags &&& ~~~(v.setWidth 23)
      exec (.clearFlags v) s = .next ({ s with alert := { s.alert with
        flags := flags
        line := if fld s.alert.config 0 2 = 1 then s.alert.line else flags &&& s.alert.enables != 0 } }.answered
        alertFlagsAddr left .accepted false)) ∧
    (s.store.state = .saving →
      exec (.clearFlags v) s = .next (s.answered alertFlagsAddr left .busy false))

/-- The other words of the alert controller and the end of a pulse (R166 to R170). In LEVEL mode an enable write moves the line
at once; in PULSE mode a newly enabled set flag starts a pulse, a write that leaves no flag set and enabled cuts one off, and one
that newly enables no set flag and leaves one set and enabled leaves the pulse and the line as they are (R166).
A change of mode acts at the write. A pulse start loads the width and asserts the line, and the owed tap tick ends it; a start
that comes before a tap tick leaves the width less one, however many starts of one command come before it (R170; log 14). A tick
that the starts of a command have counted, or that has ended a pulse, is taken: a later start has the full width (log 14). -/
def Obligations.AlertWordsAndPulse : Prop :=
  (∀ (s : State) (v : Word) (left : Nat), s.AwaitsWord alertEnableAddr left → s.WritesOpen →
    let en := v.setWidth 23
    (fld s.alert.config 0 2 ≠ 1 → exec (.alertEnableWrite v) s = .next
      ({ s with alert := { s.alert with enables := en, line := s.alert.flags &&& en != 0 } }.answered
        alertEnableAddr left .accepted false)) ∧
    (fld s.alert.config 0 2 = 1 → s.alert.flags &&& en = 0 → exec (.alertEnableWrite v) s = .next
      ({ s with alert := { s.alert with enables := en, pulse := 0, line := false, tickOwed := false } }.answered
        alertEnableAddr left .accepted false)) ∧
    (fld s.alert.config 0 2 = 1 → s.alert.flags &&& ~~~s.alert.enables &&& en = 0 → s.alert.flags &&& en ≠ 0 →
      exec (.alertEnableWrite v) s = .next
        ({ s with alert := { s.alert with enables := en } }.answered alertEnableAddr left .accepted false)) ∧
    (fld s.alert.config 0 2 = 1 → s.alert.flags &&& ~~~s.alert.enables &&& en ≠ 0 → s.alert.tickOwed = false →
      s.alert.lastTick ≠ .after → s.alert.lastTick ≠ .counted →
      exec (.alertEnableWrite v) s = .next ({ s with alert := { s.alert with
        enables := en, pulse := fld s.alert.config 8 8, pulseTap := fld s.alert.config 16 3, line := true } }.answered
        alertEnableAddr left .accepted false))) ∧
  (∀ (s : State) (v : Word) (left : Nat), s.AwaitsWord alertConfigAddr left → s.WritesOpen →
    let ok := (fld v 0 2).toNat ≤ 1 ∧ fld v 8 8 ≠ 0 ∧ (fld v 16 3).toNat ≤ 2
    (¬ ok → exec (.alertConfigurationWrite v) s = .next (s.answered alertConfigAddr left .invalid false)) ∧
    (ok → (fld s.alert.config 0 2 = 1 ↔ fld v 0 2 = 1) → exec (.alertConfigurationWrite v) s = .next
      ({ s with alert := { s.alert with config := v &&& 0x0007FF03 } }.answered alertConfigAddr left .accepted false)) ∧
    (ok → fld s.alert.config 0 2 ≠ 1 → fld v 0 2 = 1 → exec (.alertConfigurationWrite v) s = .next
      ({ s with alert := { s.alert with
        config := v &&& 0x0007FF03, pulse := 0, line := false, tickOwed := false } }.answered alertConfigAddr left
        .accepted false)) ∧
    (ok → fld s.alert.config 0 2 = 1 → fld v 0 2 ≠ 1 → exec (.alertConfigurationWrite v) s = .next
      ({ s with alert := { s.alert with
        config := v &&& 0x0007FF03, pulse := 0, tickOwed := false
        line := s.alert.flags &&& s.alert.enables != 0 } }.answered alertConfigAddr left .accepted false))) ∧
  (∀ (a : Alert) (tapCount : BitVec 16) (f : Flag), fld a.config 0 2 = 1 → a.enables.getLsbD f.pos = true →
    let b := { a with
      flags := a.flags ||| 1#23 <<< f.pos, pulse := fld a.config 8 8, pulseTap := fld a.config 16 3, line := true }
    let follows := a.lastTick = .after ∨ a.lastTick = .counted ∨ (a.lastTick = .unplaced ∧ a.tickOwed = true)
    (¬ follows → a.setFlag tapCount f = { b with tickOwed := false }) ∧
    (follows →
      (tapCount.toNat % 16 ^ (fld a.config 16 3).toNat = 0 → 2 ≤ (fld a.config 8 8).toNat →
        a.setFlag tapCount f = { b with pulse := fld a.config 8 8 - 1, tickOwed := false, lastTick := .counted }) ∧
      (tapCount.toNat % 16 ^ (fld a.config 16 3).toNat = 0 → fld a.config 8 8 = 1 →
        a.setFlag tapCount f = { b with tickOwed := true, lastTick := .counted }) ∧
      (tapCount.toNat % 16 ^ (fld a.config 16 3).toNat ≠ 0 →
        a.setFlag tapCount f = { b with tickOwed := false, lastTick := .counted }))) ∧
  (∀ (a : Alert) (start : LastTick), start = .unplaced ∨ start = .taken →
    (a.lastTick = .unplaced ∨ a.lastTick = .taken → a.commandEnds start = a) ∧
    (a.lastTick = .before ∨ a.lastTick = .after → a.commandEnds start = { a with lastTick := start }) ∧
    (a.lastTick = .counted → a.tickOwed = false → a.commandEnds start = { a with lastTick := .taken }) ∧
    (a.lastTick = .counted → a.tickOwed = true → a.commandEnds start = { a with lastTick := .unplaced })) ∧
  ∀ s : State, s.powered = true → s.alert.tickOwed = true →
    exec .alertPulseEnd s = .next { s with
      alert := { s.alert with pulse := 0, line := false, tickOwed := false, lastTick := .taken } }

/-! ### Service link and configuration store (10, 11) -/

/-- Frames and what a READ frame sends. A fall of SCS_N with a header of a known kind and a count of 1 to 64 begins that frame; any other header is
void and sets the status INVALID; a rise ends the frame and its copy (R92). SDO is not driven while SCS_N is high or RST is
asserted (R174, R183), nor without power (log 9); it is low in a WRITE or void frame and once the words are served; in a READ
frame it sends the word at the frame's address, most significant bit first (R174, R175). Every word of the device, the rules, the
queues, the channels, the inputs, the gate, the alert controller and the timebase reads as its layout gives (R189, R190, 11.2 to
11.5), and an unmapped address as zero. -/
def Obligations.FrameHeaderAndRise : Prop :=
  (∀ s : State,
    let flag : Bool → Nat → Word := fun b i => if b then 1#32 <<< i else 0
    s.readWord 0x000 = 0x4B470124 ∧
    s.readWord 0x001 = (flag s.link.locked 0 |||
      (match s.store.state with | .idle => 0 | .loading => 1 | .saving => 2 : Word) <<< 1 ||| flag s.store.loadDefaults 3 |||
      (match s.store.saveResult with | .none => 0 | .complete => 1 | .abandoned => 2 : Word) <<< 4 |||
      flag s.path.restartHold 6) ∧
    s.readWord 0x002 = 0 ∧
    s.readWord 0x003 = ((match s.link.status with
      | .accepted => 0 | .locked => 1 | .busy => 2 | .active => 3 | .invalid => 4 | .address => 5 : Word) |||
      flag s.link.pendingMark 7) ∧
    s.readWord 0x004 = flag s.link.locked 0 ∧ s.readWord 0x005 = 0 ∧ s.readWord 0x006 = s.defaultActions ∧
    s.readWord 0x007 = s.unmatched ∧ s.readWord 0x008 = s.path.limitWord ∧
    s.readWord 0x009 = ((match s.path.phase with | .idle => 0 | .preread => 1 | .forward => 2 : Word) |||
      flag s.path.abandoned 2 ||| flag s.path.held.isSome 3 ||| flag (s.store.state == .loading) 4 |||
      flag (s.path.port == .late) 5 ||| flag s.path.restartHold 6 ||| flag s.pins.urst 7 |||
      (match s.path.port with | .ready => 0 | .busy => 1 | .late => 2 | .down => 3 : Word) <<< 8) ∧
    s.readWord 0x00A = s.path.number.setWidth 32 ∧
    s.readWord 0x1B0 = s.gate.config ∧ s.readWord 0x1B1 = 0 ∧
    s.readWord 0x1B2 = ((match s.gate.state with | .opened => 0 | .draining => 1 | .closed => 2 | .reopening => 3 : Word) |||
      flag s.gate.pfail 2 ||| flag s.gate.hold 3 ||| flag s.gate.powerSeen 4 ||| flag s.gate.inFlight 5 |||
      s.gate.holdOff.setWidth 32 <<< 8 ||| s.gate.refused.setWidth 32 <<< 16) ∧
    s.readWord 0x1B8 = s.alert.flags.setWidth 32 ∧ s.readWord 0x1B9 = s.alert.enables.setWidth 32 ∧
    s.readWord 0x1BA = s.alert.config ∧
    s.readWord 0x1BB = (flag s.alert.line 0 ||| flag (fld s.alert.config 0 2 == 1) 1 |||
      s.alert.pulse.setWidth 32 <<< 8) ∧
    s.readWord 0x1C0 = s.timebase.config ∧ s.readWord 0x1C1 = 0 ∧ s.readWord 0x1C2 = s.timebase.timestamp ∧
    s.readWord 0x1C3 = (flag s.timebase.running 0 ||| s.timebase.accumulator.setWidth 32 <<< 4 |||
      s.timebase.tapCount.setWidth 32 <<< 16)) ∧
  (∀ s : State,
    let flag : Bool → Nat → Word := fun b i => if b then 1#32 <<< i else 0
    (∀ r : Fin 24,
      let x := s.rule r
      let word : Nat → Word := fun k => s.readWord (BitVec.ofNat 16 (0x040 + 8 * r.val + k))
      word 0 = (x.defn.control ||| x.countdown.setWidth 32 <<< 24) ∧ word 1 = x.defn.base ∧ word 2 = x.defn.limit ∧
      word 3 = x.defn.dataMask ∧ word 4 = x.defn.reference ∧ word 5 = x.defn.fill ∧ word 6 = x.defn.quotaArming ∧
      word 7 = ((match x.state with | .disabled => 0 | .dormant => 1 | .live => 2 : Word) ||| flag x.overQuota 2 |||
        flag x.alerted 3 ||| x.window.setWidth 32 <<< 4 ||| x.hits.setWidth 32 <<< 16)) ∧
    (∀ n : Fin 4,
      let q := s.queue n
      let word : Nat → Word := fun k => s.readWord (BitVec.ofNat 16 (0x100 + 8 * n.val + k))
      word 0 = q.config ∧ word 1 = 0 ∧
      word 2 = (BitVec.ofNat 32 q.list.length |||
        BitVec.ofNat 32 (q.list.takeWhile fun r => !r.isPending).length <<< 16 ||| flag q.on 31) ∧
      word 3 = (q.loss.setWidth 32 ||| BitVec.ofNat 32 (q.list.filter Record.isPending).length <<< 16)) ∧
    (∀ t : Fin 8,
      let ch := s.timer t
      let word : Nat → Word := fun k => s.readWord (BitVec.ofNat 16 (0x160 + 8 * t.val + k))
      word 0 = ch.config ∧ word 1 = ch.reload.setWidth 32 ∧ word 2 = 0 ∧
      word 3 = ((match ch.state with | .stopped => 0 | .running => 1 | .lapsed => 2 | .waiting => 3 : Word) |||
        ch.counter.setWidth 32 <<< 16) ∧
      word 4 = ch.last.setWidth 32 ∧ word 5 = (ch.minimum.setWidth 32 ||| ch.maximum.setWidth 32 <<< 16)) ∧
    (∀ e : Fin 2,
      let i := s.input e
      let p := s.evPin e
      let word : Nat → Word := fun k => s.readWord (BitVec.ofNat 16 (0x1A0 + 8 * e.val + k))
      let status : Sampler → Word := fun m => flag (wbit i.config 0) 0 ||| flag p 1 ||| flag m.seen 2 |||
        flag m.newest 3 ||| flag m.middle 4 ||| flag m.oldest 5 ||| i.count.setWidth 32 <<< 8
      word 0 = i.config ∧ (i.sampler = none → word 1 = status ⟨p, p, p, p⟩) ∧
      (∀ m, i.sampler = some m → word 1 = status m) ∧ word 2 = i.lastEvent) ∧
    ∀ a : ServiceAddr, (0x00B ≤ a.toNat ∧ a.toNat < 0x040) ∨ (0x100 ≤ a.toNat ∧ a.toNat < 0x120 ∧ 4 ≤ a.toNat % 8) ∨
      (0x120 ≤ a.toNat ∧ a.toNat < 0x1A0 ∧ 6 ≤ a.toNat % 8) ∨ (0x1A0 ≤ a.toNat ∧ a.toNat < 0x1B8 ∧ 3 ≤ a.toNat % 8) ∨
      (0x1B8 ≤ a.toNat ∧ a.toNat < 0x1C8 ∧ 4 ≤ a.toNat % 8) ∨ 0x1C8 ≤ a.toNat →
      targetOf a = .unmapped ∧ s.readWord a = 0) ∧
  (∀ (s : State) (addr : ServiceAddr) (count : BitVec 8), s.powered = true → s.pins.scsLow = false →
    s.pins.rst = false →
    let low := { s.pins with scsLow := true }
    (1 ≤ count.toNat → count.toNat ≤ 64 →
      exec (.serviceFrameHeader .read addr count) s = .next { s with
        pins := low, link := { s.link with frame := .data .read addr count.toNat } } ∧
      exec (.serviceFrameHeader .write addr count) s = .next { s with
        pins := low, link := { s.link with frame := .data .write addr count.toNat } }) ∧
    ∀ kind, kind = .unnamed ∨ count = 0 ∨ 64 < count.toNat →
      exec (.serviceFrameHeader kind addr count) s = .next { s with
        pins := low, link := { s.link with frame := .void, status := .invalid, pendingMark := false } }) ∧
  (∀ s : State, exec .scsNRise s = .next { s with
    pins := { s.pins with scsLow := false }, copy := none, link := { s.link with frame := .idle } }) ∧
  (∀ (w : Word) (i : Fin 32), (Sdo.word w).bit i = some (wbit w (31 - i.val))) ∧
  ∀ s : State,
    (s.pins.scsLow = false ∨ s.pins.rst = true ∨ s.powered = false → s.sdo = .notDriven) ∧
    (s.pins.scsLow = true → s.pins.rst = false → s.powered = true →
      (s.link.frame = .header ∨ s.link.frame = .void → s.sdo = .low) ∧
      (∀ a left, s.link.frame = .data .write a left → s.sdo = .low) ∧
      (∀ a, s.link.frame = .data .read a 0 → s.sdo = .low) ∧
      ∀ a left, s.link.frame = .data .read a (left + 1) → s.sdo = .word (s.readWord a))

/-- A complete write word meets the checks in their order (R177): ADDRESS for an unmapped address, then LOCKED but for the lock
word and the flags word, then BUSY while the store is LOADING, or SAVING but for the lock word; each leaves everything but the
frame and the status. Past them a read-only word answers INVALID (R189). -/
def Obligations.RegisterWriteChecksInOrder : Prop :=
  ∀ (s : State) (v : Word) (a : ServiceAddr) (left : Nat), s.AwaitsWord a left →
    (targetOf a = .unmapped → exec (.registerWrite v) s = .next (s.answered a left .address false)) ∧
    (targetOf a ≠ .unmapped → s.link.locked = true → a ≠ 0x004 → a ≠ 0x1B8 →
      exec (.registerWrite v) s = .next (s.answered a left .locked false)) ∧
    (targetOf a ≠ .unmapped → s.link.locked = false ∨ a = 0x004 ∨ a = 0x1B8 →
      s.store.state = .loading ∨ (s.store.state = .saving ∧ a ≠ 0x004) →
      exec (.registerWrite v) s = .next (s.answered a left .busy false)) ∧
    (s.WritesOpen → a = 0x000 ∨ a = 0x001 ∨ a = 0x003 ∨ a = 0x009 ∨ a = 0x00A ∨ a = 0x1B2 ∨ a = 0x1BB ∨ a = 0x1C3 ∨
        (∃ r, a = ruleAddr r 7) ∨ (∃ n, a = queueAddr n 2 ∨ a = queueAddr n 3) ∨
        (∃ n, ∃ k : Fin 6, a = popAddr n k.val ∨ a = peekAddr n k.val) ∨
        (∃ t, a = timerAddr t 3 ∨ a = timerAddr t 4 ∨ a = timerAddr t 5) ∨
        (∃ e, a = inputAddr e 1 ∨ a = inputAddr e 2) →
      exec (.registerWrite v) s = .next (s.answered a left .invalid false))

/-- A complete write word at the address of a row of the table that stands for it is that row (log 24). At an action word request
code 0 is accepted and changes nothing, and a code that names no request is INVALID: 4 to 7, and 3 at the gate and timebase action
words (R108, R152, R177). -/
def Obligations.RegisterWriteIsTheRowOfItsWord : Prop :=
  ∀ (s : State) (v : Word) (a : ServiceAddr) (left : Nat), s.AwaitsWord a left →
    (∀ r, a = ruleAddr r 0 →
      (fld v 20 2 = 1 → exec (.registerWrite v) s = exec (.enable r) s) ∧
      (fld v 20 2 = 2 → exec (.registerWrite v) s = exec (.disable r) s) ∧
      (fld v 20 2 = 3 → exec (.registerWrite v) s = exec (.clearHits r) s)) ∧
    (∀ r w, a = ruleAddr r (ruleWordOffset w) → w.wf v = true →
      exec (.registerWrite v) s = exec (.ruleDefinitionWrite r w v) s) ∧
    (∀ n, a = queueAddr n 0 → exec (.registerWrite v) s = exec (.queueConfigurationWrite n v) s) ∧
    (∀ n, a = queueAddr n 1 →
      (fld v 0 3 = 1 → exec (.registerWrite v) s = exec (.queueOn n) s) ∧
      (fld v 0 3 = 2 → exec (.registerWrite v) s = exec (.queueOff n) s) ∧
      (fld v 0 3 = 3 → exec (.registerWrite v) s = exec (.flush n) s)) ∧
    (∀ t w, a = timerAddr t (timerWordOffset w) →
      exec (.registerWrite v) s = exec (.timerConfigurationWrite t w v) s) ∧
    (∀ t, a = timerAddr t 2 →
      (fld v 0 3 = 1 → exec (.registerWrite v) s = exec (.start t) s) ∧
      (fld v 0 3 = 2 → exec (.registerWrite v) s = exec (.stop t) s) ∧
      (fld v 0 3 = 3 → exec (.registerWrite v) s = exec (.preset t) s)) ∧
    (∀ e, a = inputAddr e 0 → exec (.registerWrite v) s = exec (.inputConfigurationWrite e v) s) ∧
    (a = actionAddr →
      (fld v 0 3 = 1 → exec (.registerWrite v) s = exec .save s) ∧
      (fld v 0 3 = 2 → exec (.registerWrite v) s = exec .restart s) ∧
      (fld v 0 3 = 3 → exec (.registerWrite v) s = exec .pathReset s)) ∧
    (a = lockAddr → exec (.registerWrite v) s = exec (.lockWordWrite v) s) ∧
    (a = accessCodeAddr → exec (.registerWrite v) s = exec (.accessCodeWrite v) s) ∧
    (a = alertFlagsAddr → exec (.registerWrite v) s = exec (.clearFlags v) s) ∧
    (a = alertEnableAddr → exec (.registerWrite v) s = exec (.alertEnableWrite v) s) ∧
    (a = alertConfigAddr → exec (.registerWrite v) s = exec (.alertConfigurationWrite v) s) ∧
    (a = defaultActionsAddr → exec (.registerWrite v) s = exec (.defaultActionsWrite v) s) ∧
    (a = unmatchedAddr → exec (.registerWrite v) s = exec (.unmatchedCaptureWrite v) s) ∧
    (a = responseLimitAddr → exec (.registerWrite v) s = exec (.responseLimitWrite v) s) ∧
    (a = gateConfigAddr → exec (.registerWrite v) s = exec (.gateConfigurationWrite v) s) ∧
    (a = timebaseConfigAddr → exec (.registerWrite v) s = exec (.timebaseConfigurationWrite v) s) ∧
    (a = timestampAddr → exec (.registerWrite v) s = exec (.timestampPreset v) s) ∧
    (a = gateActionAddr →
      (fld v 0 3 = 1 → exec (.registerWrite v) s = exec .gateHold s) ∧
      (fld v 0 3 = 2 → exec (.registerWrite v) s = exec .gateRelease s)) ∧
    (a = timebaseActionAddr →
      (fld v 0 3 = 1 → exec (.registerWrite v) s = exec .tbStart s) ∧
      (fld v 0 3 = 2 → exec (.registerWrite v) s = exec .tbStop s)) ∧
    (s.WritesOpen → a = actionAddr ∨ a = gateActionAddr ∨ a = timebaseActionAddr ∨ (∃ n, a = queueAddr n 1) ∨
        (∃ t, a = timerAddr t 2) →
      (fld v 0 3 = 0 → exec (.registerWrite v) s = .next (s.answered a left .accepted false)) ∧
      (4 ≤ (fld v 0 3).toNat ∨ (fld v 0 3 = 3 ∧ (a = gateActionAddr ∨ a = timebaseActionAddr)) →
        exec (.registerWrite v) s = .next (s.answered a left .invalid false)))

/-- The lock word and the access code word (R179, R180): the code unlocks, any other value locks and answers LOCKED, in either
lock state and while SAVING; a new code is taken while UNLOCKED and the lock state stays. -/
def Obligations.LockWordAndAccessCode : Prop :=
  (∀ (s : State) (v : Word) (left : Nat), s.AwaitsWord lockAddr left →
    (s.store.state ≠ .loading → v = s.link.code → exec (.lockWordWrite v) s = .next
      ({ s with link := { s.link with locked := false } }.answered lockAddr left .accepted false)) ∧
    (s.store.state ≠ .loading → v ≠ s.link.code → exec (.lockWordWrite v) s = .next
      ({ s with link := { s.link with locked := true } }.answered lockAddr left .locked false)) ∧
    (s.store.state = .loading → exec (.lockWordWrite v) s = .next (s.answered lockAddr left .busy false))) ∧
  ∀ (s : State) (v : Word) (left : Nat), s.AwaitsWord accessCodeAddr left →
    (s.WritesOpen → exec (.accessCodeWrite v) s = .next
      ({ s with link := { s.link with code := v } }.answered accessCodeAddr left .accepted false)) ∧
    (s.link.locked = true → exec (.accessCodeWrite v) s = .next (s.answered accessCodeAddr left .locked false))

/-- SAVE and its end (R161, R185): BUSY unless the gate is OPEN; otherwise the copy is taken, the stored check value is voided
and the store is SAVING; at the end the copy is the image, with its check value, and the result is COMPLETE. The copy holds the configuration as it stands
(R182): every rule's definition and whether it is enabled, every queue's word and whether it is ON, every channel's word, reload
and whether it is started, the input, gate, alert and timebase words with the run state, the default actions, the unmatched capture,
the response limit word and the access code. -/
def Obligations.SaveWritesTheImage : Prop :=
  (∀ s : State,
    let i := s.capturedImage
    (∀ r : Fin 24, i.rules[r] = ⟨(s.rule r).defn, decide ((s.rule r).state ≠ .disabled)⟩) ∧
    (∀ n : Fin 4, i.queues[n] = ⟨(s.queue n).config, (s.queue n).on⟩) ∧
    (∀ t : Fin 8, i.timers[t] = ⟨(s.timer t).config, (s.timer t).reload, decide ((s.timer t).state ≠ .stopped)⟩) ∧
    (∀ e : Fin 2, i.inputs[e] = (s.input e).config) ∧
    i.gate = s.gate.config ∧ i.alertEnables = s.alert.enables ∧ i.alert = s.alert.config ∧
    i.timebase = s.timebase.config ∧ i.timebaseRunning = s.timebase.running ∧
    i.defaultActions = s.defaultActions ∧ i.unmatched = s.unmatched ∧ i.limitWord = s.path.limitWord ∧
    i.code = s.link.code) ∧
  (∀ (s : State) (left : Nat), s.AwaitsWord actionAddr left → s.WritesOpen →
    (s.gate.state ≠ .opened → exec .save s = .next (s.answered actionAddr left .busy false)) ∧
    (s.gate.state = .opened → exec .save s = .next ({ s with store := { s.store with
      state := .saving, copy := some s.capturedImage, saveResult := .none, check := none } }.answered actionAddr left
      .accepted false))) ∧
  ∀ (s : State) (c : Image), s.powered = true → s.store.state = .saving → s.store.copy = some c →
    exec .saveEnd s = .next { s with store := { s.store with
      state := .idle, image := c, check := some (Config.checkValue c.words), copy := none, saveResult := .complete } }

/-- The end of loading (R180, R184). A mismatch applies the factory defaults: the part comes up UNLOCKED with the null code,
CONFIG set and every block at its default. A match applies the image: each block takes its configuration from it, and a field
group that fails its checks keeps its default (R35, R36, R65, R102, R112, R133, R144, R153, R162, R167, R172); a rule stored
enabled that passes the checks of ENABLE goes LIVE or DORMANT by its arm source, every other rule is DISABLED (R21); a channel
stored started, a queue stored ON and a timebase stored RUNNING start (R102, R112, R133); an enabled input is seeded (R144); its
code is in force and decides the lock. That a queue's word is checked as a written one is log 15. In either case the store becomes
IDLE. -/
def Obligations.LoadingAppliesTheImageOrTheDefaults : Prop :=
  (∀ s : State, s.powered = true → s.store.state = .loading → s.LoadingOk →
    s.store.check ≠ some (Config.checkValue s.store.image.words) →
      ∃ t, exec .loadingEnd s = .next t ∧ t.store = { s.store with state := .idle, loadDefaults := true } ∧
        t.alert.flagSet .config = true ∧ t.alert.line = false ∧ t.link.locked = false ∧ t.link.code = 0 ∧
        (∀ r, t.rule r = Rule.reset) ∧ (∀ n, (t.queue n).on = false ∧ (t.queue n).config = 0x00010000) ∧
        t.timebase = Timebase.reset ∧ (∀ c, t.timer c = Timer.reset) ∧ (∀ e, t.input e = EventInput.reset) ∧
        t.defaultActions = 0 ∧ t.unmatched = 0 ∧ t.path.limitWord = 0x00000400 ∧ t.alert.enables = 0 ∧
        t.alert.config = 0x00000100 ∧ t.gate.config = 0x00000100 ∧
        (s.pins.pfail = true → t.gate.state = .closed ∧ t.gate.powerSeen = true ∧ t.alert.flagSet .gate = true) ∧
        (s.pins.pfail = false → t.gate = Gate.reset)) ∧
  ∀ s : State, s.powered = true → s.store.state = .loading → s.LoadingOk →
    s.store.check = some (Config.checkValue s.store.image.words) →
    let i := s.store.image
    let choose : (p : Bool) → Word → Word → Word := fun p v default => if p then v else default
    let limitOk : Bool := decide (16 ≤ (fld i.limitWord 0 12).toNat) &&
      (!wbit i.limitWord 16 || decide ((fld i.limitWord 17 3).toNat ≤ 3))
    let gateOk : Bool := fld i.gate 8 8 != 0 && decide ((fld i.gate 16 3).toNat ≤ 3) &&
      decide ((fld i.gate 0 2).toNat ≤ 1) && (!wbit i.gate 20 || decide ((fld i.gate 21 3).toNat ≤ 3))
    let alertOk : Bool := decide ((fld i.alert 0 2).toNat ≤ 1) && fld i.alert 8 8 != 0 &&
      decide ((fld i.alert 16 3).toNat ≤ 2)
    let timebaseOk : Bool := decide (1 ≤ (fld i.timebase 0 9).toNat) && decide ((fld i.timebase 0 9).toNat ≤ 256)
    let queueOk : Word → Bool := fun v =>
      (fld v 0 9 == 0 || (decide ((fld v 0 9).toNat % 4 = 0) && decide ((fld v 0 9).toNat ≤ 256) &&
        decide (1 ≤ (fld v 16 9).toNat) && decide ((fld v 16 9).toNat ≤ (fld v 0 9).toNat))) &&
      decide ((fld v 12 2).toNat ≤ 1)
    let timerOk : TimerImage → Bool := fun w =>
      decide ((fld w.config 0 3).toNat ≤ 3) && decide ((fld w.config 4 3).toNat ≤ 4) && fld w.config 8 2 != 3 &&
        (fld w.config 8 2 != 1 || decide ((fld w.config 10 5).toNat ≤ 23)) &&
        (fld w.config 8 2 != 2 || decide ((fld w.config 10 5).toNat ≤ 1)) && w.reload != 0
    let inputOk : Word → Bool := fun v => decide ((fld v 2 3).toNat ≤ 3) &&
      (!wbit v 6 || decide ((fld v 7 3).toNat ≤ 3))
    ∃ t, exec .loadingEnd s = .next t ∧ t.store = { s.store with state := .idle, loadDefaults := false } ∧
      t.link.code = i.code ∧ t.link.locked = (i.code != 0) ∧
      t.defaultActions = choose (fld i.defaultActions 0 2 != 3 && fld i.defaultActions 4 2 != 3)
        (i.defaultActions &&& 0x00000033) 0 ∧
      t.unmatched = choose (!wbit i.unmatched 0 || decide ((fld i.unmatched 4 2).toNat ≤ 1))
        (i.unmatched &&& 0x00000037) 0 ∧
      t.path.limitWord = choose limitOk (i.limitWord &&& 0x000F0FFF) 0x00000400 ∧
      t.gate.config = choose gateOk (i.gate &&& 0x00F7FF03) 0x00000100 ∧
      t.alert.enables = i.alertEnables ∧
      t.alert.config = choose alertOk (i.alert &&& 0x0007FF03) 0x00000100 ∧
      t.timebase = { Timebase.reset with
        config := choose timebaseOk (i.timebase &&& 0x0000F1FF) 1
        running := i.timebaseRunning, period := if i.timebaseRunning then .starting else .none } ∧
      (∀ r : Fin 24,
        let d := i.rules[r].defn
        let x : Rule := { Rule.reset with defn := { d with
          control := d.control &&& 0x0007FFFF, base := d.base &&& 0x03FFFFFC, limit := d.limit &&& 0x03FFFFFC } }
        (i.rules[r].enabled = true ∧ x.defn.enableOk r = true → t.rule r = { x with
          state := if fld d.quotaArming 15 2 = 0 then .live else .dormant
          countdown := if fld d.quotaArming 22 2 = 1 then fld d.quotaArming 24 8 else 0 }) ∧
        (i.rules[r].enabled = false ∨ x.defn.enableOk r = false → t.rule r = x)) ∧
      (∀ c : Fin 8, t.timer c =
        if timerOk i.timers[c] then { Timer.reset with
          config := i.timers[c].config &&& 0x000F7F77, reload := i.timers[c].reload, counter := i.timers[c].reload
          maximum := 0
          state := if i.timers[c].started = false then .stopped
            else if fld i.timers[c].config 0 3 = 3 then .waiting else .running }
        else Timer.reset) ∧
      (∀ e : Fin 2, t.input e =
        let p := s.evPin e
        if inputOk i.inputs[e] then { EventInput.reset with
          config := i.inputs[e] &&& 0x000003FF, sampler := if wbit i.inputs[e] 0 then some ⟨p, p, p, p⟩ else none }
        else EventInput.reset) ∧
      (∀ n : Fin 4, (t.queue n).config = choose (queueOk i.queues[n].config) (i.queues[n].config &&& 0x01FF31FF)
        0x00010000) ∧
      (∀ n : Fin 4, (t.queue n).on = true → i.queues[n].on = true ∧ (t.queue n).depth ≠ 0) ∧
      (((List.finRange 4).map fun n => if i.queues[n].on then (t.queue n).depth else 0).sum ≤ 256 →
        ∀ n : Fin 4, (t.queue n).on = (i.queues[n].on && decide ((t.queue n).depth ≠ 0))) ∧
      (s.pins.pfail = true → t.gate.state = .closed) ∧
      (s.pins.pfail = false → t.gate.state = .opened ∧ t.alert.flags = 0 ∧
        ∀ n, (t.queue n).list = [] ∧ (t.queue n).loss = 0)

/-- RESTART (R54, R187): with a transaction in flight it sets the hold and answers BUSY-pending; otherwise, and when the
transaction has ended, it takes effect in every block (R22, R76, R103, R134, R144, R173), with the hold clear in the gate
leaving the gate as it is and the hold set taken as a release, its GATE_OPENED record standing in the emptied queue (R163),
each enabled input seeded afresh (R144), and a standing BUSY-pending becomes ACCEPTED (R178). Every queue is emptied with its loss
count 0, and every flag is clear with no pulse and the line deasserted, but for what the offer of that record does afterwards
(R103, R173): with the record queue ON at notify level 1 it sets QNn, with the queue OFF it counts one loss and sets QOn, and the
line answers the flag by its enable. -/
def Obligations.RestartTakesEffectInEveryBlock : Prop :=
  (∀ (s : State) (left : Nat), s.AwaitsWord actionAddr left → s.WritesOpen → s.path.phase ≠ .idle →
    exec .restart s = .next ({ s with path := { s.path with restartHold := true } }.answered actionAddr left
      .busy true)) ∧
  let blocks : State → State → Prop := fun s t =>
    t.path = { s.path with number := 0, port := .ready, limitTimer := none, expired := none, restartHold := false } ∧
    (∀ r, (t.rule r).hits = 0 ∧ (t.rule r).alerted = false ∧ (t.rule r).defn = (s.rule r).defn ∧
      ((s.rule r).state = .disabled → (t.rule r).state = .disabled) ∧
      ((s.rule r).state ≠ .disabled → (t.rule r).window = 0 ∧ (t.rule r).overQuota = false ∧
        (t.rule r).countdown = (s.rule r).defn.countdownLoad ∧
        (t.rule r).state = if (s.rule r).defn.armSource = .none then .live else .dormant)) ∧
    (∀ c, t.timer c = { s.timer c with
      state := .stopped, counter := (s.timer c).reload, last := 0, minimum := 65535, maximum := 0, tickOwed := false }) ∧
    (∀ e, t.input e = { s.input e with
      count := 0, lastEvent := 0
      sampler := if wbit (s.input e).config 0 then
        some ⟨s.evPin e, s.evPin e, s.evPin e, s.evPin e⟩ else none }) ∧
    t.timebase = s.timebase ∧ t.store = s.store ∧ t.link.locked = s.link.locked ∧ t.link.code = s.link.code ∧
    t.defaultActions = s.defaultActions ∧ t.unmatched = s.unmatched
  let quiet : State → Alert := fun s => { s.alert with flags := 0, pulse := 0, line := false, tickOwed := false }
  let emptied : State → State → Prop := fun s t =>
    (∀ n, t.queue n = { s.queue n with list := [], loss := 0 }) ∧ t.alert = quiet s
  let rung : Nat → State → State → Prop := fun k s t =>
    (fld s.alert.config 0 2 ≠ 1 ∨ s.alert.enables.getLsbD k = false →
      t.alert = { quiet s with flags := 1#23 <<< k, line := s.alert.enables.getLsbD k }) ∧
    (fld s.alert.config 0 2 = 1 → s.alert.enables.getLsbD k = true →
      s.alert.lastTick = .unplaced ∨ s.alert.lastTick = .taken → t.alert = { quiet s with
        flags := 1#23 <<< k, pulse := fld s.alert.config 8 8, pulseTap := fld s.alert.config 16 3, line := true })
  let after : State → State → Prop := fun s t => blocks s t ∧ emptied s t ∧ t.gate = s.gate
  let released : State → State → Prop := fun s t => blocks s t ∧
    (s.gate.state = .reopening ∨ s.gate.state = .opened ∨ s.gate.pfail = true →
      t.gate = { s.gate with hold := false } ∧ emptied s t) ∧
    (s.gate.state = .closed → s.gate.pfail = false → s.gate.powerSeen = true → t.gate = { s.gate with
      hold := false, state := .reopening, holdOff := fld s.gate.config 8 8, holdOffTap := fld s.gate.config 16 3,
      tickOwed := false } ∧ emptied s t) ∧
    (s.gate.state = .closed → s.gate.pfail = false → s.gate.powerSeen = false →
      t.gate = { s.gate with hold := false, state := .opened, holdOff := 0, tickOwed := false } ∧
      (s.gate.recordQueue = none → emptied s t) ∧
      ∀ n, s.gate.recordQueue = some n →
        let q := s.queue n
        (∀ m, m ≠ n → t.queue m = { s.queue m with list := [], loss := 0 }) ∧
        (q.on = true → 1 ≤ q.depth →
          t.queue n = { q with
            loss := 0, list := [⟨s.nextSerial, s.timebase.timestamp, .gateOpened s.gate.refused⟩] } ∧
          (q.notify ≠ 1 → t.alert = quiet s) ∧ (q.notify = 1 → rung n.val s t)) ∧
        (q.on = false → t.queue n = { q with loss := 1, list := [] } ∧ rung (4 + n.val) s t))
  (∀ (s : State) (left : Nat), s.AwaitsWord actionAddr left → s.WritesOpen → s.path.phase = .idle →
    s.gate.state ≠ .draining →
    ∃ t, exec .restart s = .next t ∧ (s.gate.hold = false → after s t) ∧ (s.gate.hold = true → released s t) ∧
      t.link.status = .accepted ∧ t.link.pendingMark = false) ∧
  ∀ s : State, s.powered = true → s.path.restartHold = true → s.path.phase = .idle → s.gate.state ≠ .draining →
    ∃ t, exec .restartTakesEffect s = .next t ∧ (s.gate.hold = false → after s t) ∧
      (s.gate.hold = true → released s t) ∧ t.link.pendingMark = false ∧
      t.link.status = if s.link.pendingMark then .accepted else s.link.status

/-- Resets and power (R75, R102, R112, R133, R144, R162, R172, R180, R183, R186). POWER_ON_RESET and PART_RESET put every block
at its reset value and the store in LOADING, keeping the image; a save they cut off, like one cut off by a loss of power,
leaves no check value. The end of RST changes the pin alone. That a waiting request and the pins keep their levels is log 17 and
log 23, that a loss of power leaves the registers as they were is the model's choice (log 9), and that RST acts while it is
already asserted is log 25. -/
def Obligations.ResetsPutEveryBlockAtItsValue : Prop :=
  let reset : State → State → Prop := fun s t =>
    t.store.state = .loading ∧ t.LoadingOk ∧ t.store.loadDefaults = true ∧ t.store.saveResult = .none ∧
    t.link = Link.reset ∧ t.copy = none ∧ t.path = { Path.reset with held := s.path.held } ∧
    (s.store.state ≠ .saving → t.store.image = s.store.image ∧ t.store.check = s.store.check) ∧
    (s.store.Ok → s.store.state = .saving → t.store.check = none)
  (∀ s : State, ∃ t, exec .powerOnReset s = .next t ∧ reset s t ∧ t.powered = true ∧ t.pins = s.pins) ∧
  (∀ s : State, s.powered = true →
    ∃ t, exec .partReset s = .next t ∧ reset s t ∧ t.powered = true ∧ t.pins = { s.pins with rst := true }) ∧
  (∀ s : State, exec .rstDeassert s = .next { s with pins := { s.pins with rst := false } }) ∧
  ∀ s : State, ∃ t, exec .lossOfPower s = .next t ∧ t.powered = false ∧ t.pins = s.pins ∧
    (s.store.state ≠ .saving → t = { s with powered := false }) ∧
    (s.store.Ok → s.store.state = .saving → t.store.check = none ∧ t.store.state = .idle)

/-! ### Invariants -/

/-- While the store is LOADING every block keeps its reset value: every step keeps this. -/
def Obligations.BlocksKeepResetValuesWhileLoading : Prop :=
  ∀ s t : State, s.LoadingOk → step s = .next t → t.LoadingOk

/-- The depths of the queues that are ON never sum to more than 256 and no queue holds more than its share (R77), and the
records of a queue stand in the order of their placement (R82): every step keeps this. -/
def Obligations.PoolIsNeverExceeded : Prop :=
  ∀ s t : State, s.LoadingOk → s.PoolOk → s.SerialsOk → step s = .next t → t.PoolOk ∧ t.SerialsOk

/-- The port, the phase, the limit timer and the abandoned marker agree (R57, R65): every step keeps this. -/
def Obligations.PhasePortAndTimerAgree : Prop :=
  ∀ s t : State, s.path.PhaseOk → s.path.TimerOk → s.path.MarkerOk → step s = .next t →
    t.path.PhaseOk ∧ t.path.TimerOk ∧ t.path.MarkerOk

/-- Records are PENDING only while a transaction is in FORWARD (R82), and the write-in-flight marker stands exactly during the
forward of a write (R160): every step keeps this. -/
def Obligations.PendingOnlyDuringAForward : Prop :=
  ∀ s t : State, s.LoadingOk → s.path.PhaseOk → s.PendingOk → s.MarkerInFlight → step s = .next t →
    t.PendingOk ∧ t.MarkerInFlight

/-- An enabled rule has passed its checks, its window stays within its quota and its countdown within its load (R11, R13,
R16, R147): every step keeps this. -/
def Obligations.RulesKeepTheirBounds : Prop :=
  ∀ s t : State, s.RulesOk → step s = .next t → t.RulesOk

/-- The gate's state agrees with its causes (section 8.2), and no write is in flight while the gate is CLOSED or REOPENING (R62,
R154, R155, R160): every step keeps this. -/
def Obligations.GateAgreesWithItsCauses : Prop :=
  ∀ s t : State, s.gate.Ok → step s = .next t → t.gate.Ok

/-- ALERT is asserted exactly when LEVEL mode or a pulse asserts it (R168 to R170): every step keeps this. -/
def Obligations.LineFollowsFlagsOrPulse : Prop :=
  ∀ s t : State, s.LoadingOk → s.alert.LineOk → step s = .next t → t.alert.LineOk

/-- Timers, inputs, timebase, store and link keep their forms (R113, R136, R108, R185, R178, R174), and no stored word holds a
bit that no layout names or an unchecked value (R189, R192): every step keeps this. -/
def Obligations.BlocksAndWordsKeepTheirForm : Prop :=
  ∀ s t : State, step s = .next t →
    (s.TimersOk → t.TimersOk) ∧ (s.InputsOk → t.InputsOk) ∧ (s.timebase.Ok → t.timebase.Ok) ∧
    (s.store.Ok → t.store.Ok) ∧ (s.link.MarkOk → t.link.MarkOk) ∧ (s.FrameOk → t.FrameOk) ∧ (s.WordsOk → t.WordsOk)
end

