-- ==== Sys2Proof/Laws/State.lean ====
section
/-! SUPPORT. What each named update of State does to each field, and what is read back after an update of one entry. -/

namespace Sys2Proof.Machine.State

variable (s : State)

/-! ### setRule -/

@[simp] theorem setRule_powered (r : Fin 24) (x : Rule) : (s.setRule r x).powered = s.powered := rfl
@[simp] theorem setRule_pins (r : Fin 24) (x : Rule) : (s.setRule r x).pins = s.pins := rfl
@[simp] theorem setRule_path (r : Fin 24) (x : Rule) : (s.setRule r x).path = s.path := rfl
@[simp] theorem setRule_defaultActions (r : Fin 24) (x : Rule) : (s.setRule r x).defaultActions = s.defaultActions := rfl
@[simp] theorem setRule_unmatched (r : Fin 24) (x : Rule) : (s.setRule r x).unmatched = s.unmatched := rfl
@[simp] theorem setRule_queues (r : Fin 24) (x : Rule) : (s.setRule r x).queues = s.queues := rfl
@[simp] theorem setRule_copy (r : Fin 24) (x : Rule) : (s.setRule r x).copy = s.copy := rfl
@[simp] theorem setRule_nextSerial (r : Fin 24) (x : Rule) : (s.setRule r x).nextSerial = s.nextSerial := rfl
@[simp] theorem setRule_timebase (r : Fin 24) (x : Rule) : (s.setRule r x).timebase = s.timebase := rfl
@[simp] theorem setRule_timers (r : Fin 24) (x : Rule) : (s.setRule r x).timers = s.timers := rfl
@[simp] theorem setRule_inputs (r : Fin 24) (x : Rule) : (s.setRule r x).inputs = s.inputs := rfl
@[simp] theorem setRule_gate (r : Fin 24) (x : Rule) : (s.setRule r x).gate = s.gate := rfl
@[simp] theorem setRule_alert (r : Fin 24) (x : Rule) : (s.setRule r x).alert = s.alert := rfl
@[simp] theorem setRule_link (r : Fin 24) (x : Rule) : (s.setRule r x).link = s.link := rfl
@[simp] theorem setRule_store (r : Fin 24) (x : Rule) : (s.setRule r x).store = s.store := rfl
@[simp] theorem setRule_draw (r : Fin 24) (x : Rule) : (s.setRule r x).draw = s.draw := rfl
@[simp] theorem setRule_pending (r : Fin 24) (x : Rule) : (s.setRule r x).pending = s.pending := rfl

/-! ### setQueue -/

@[simp] theorem setQueue_powered (n : Fin 4) (x : Queue) : (s.setQueue n x).powered = s.powered := rfl
@[simp] theorem setQueue_pins (n : Fin 4) (x : Queue) : (s.setQueue n x).pins = s.pins := rfl
@[simp] theorem setQueue_path (n : Fin 4) (x : Queue) : (s.setQueue n x).path = s.path := rfl
@[simp] theorem setQueue_defaultActions (n : Fin 4) (x : Queue) : (s.setQueue n x).defaultActions = s.defaultActions := rfl
@[simp] theorem setQueue_unmatched (n : Fin 4) (x : Queue) : (s.setQueue n x).unmatched = s.unmatched := rfl
@[simp] theorem setQueue_rules (n : Fin 4) (x : Queue) : (s.setQueue n x).rules = s.rules := rfl
@[simp] theorem setQueue_copy (n : Fin 4) (x : Queue) : (s.setQueue n x).copy = s.copy := rfl
@[simp] theorem setQueue_nextSerial (n : Fin 4) (x : Queue) : (s.setQueue n x).nextSerial = s.nextSerial := rfl
@[simp] theorem setQueue_timebase (n : Fin 4) (x : Queue) : (s.setQueue n x).timebase = s.timebase := rfl
@[simp] theorem setQueue_timers (n : Fin 4) (x : Queue) : (s.setQueue n x).timers = s.timers := rfl
@[simp] theorem setQueue_inputs (n : Fin 4) (x : Queue) : (s.setQueue n x).inputs = s.inputs := rfl
@[simp] theorem setQueue_gate (n : Fin 4) (x : Queue) : (s.setQueue n x).gate = s.gate := rfl
@[simp] theorem setQueue_alert (n : Fin 4) (x : Queue) : (s.setQueue n x).alert = s.alert := rfl
@[simp] theorem setQueue_link (n : Fin 4) (x : Queue) : (s.setQueue n x).link = s.link := rfl
@[simp] theorem setQueue_store (n : Fin 4) (x : Queue) : (s.setQueue n x).store = s.store := rfl
@[simp] theorem setQueue_draw (n : Fin 4) (x : Queue) : (s.setQueue n x).draw = s.draw := rfl
@[simp] theorem setQueue_pending (n : Fin 4) (x : Queue) : (s.setQueue n x).pending = s.pending := rfl

/-! ### setTimer -/

@[simp] theorem setTimer_powered (t : Fin 8) (x : Timer) : (s.setTimer t x).powered = s.powered := rfl
@[simp] theorem setTimer_pins (t : Fin 8) (x : Timer) : (s.setTimer t x).pins = s.pins := rfl
@[simp] theorem setTimer_path (t : Fin 8) (x : Timer) : (s.setTimer t x).path = s.path := rfl
@[simp] theorem setTimer_defaultActions (t : Fin 8) (x : Timer) : (s.setTimer t x).defaultActions = s.defaultActions := rfl
@[simp] theorem setTimer_unmatched (t : Fin 8) (x : Timer) : (s.setTimer t x).unmatched = s.unmatched := rfl
@[simp] theorem setTimer_rules (t : Fin 8) (x : Timer) : (s.setTimer t x).rules = s.rules := rfl
@[simp] theorem setTimer_queues (t : Fin 8) (x : Timer) : (s.setTimer t x).queues = s.queues := rfl
@[simp] theorem setTimer_copy (t : Fin 8) (x : Timer) : (s.setTimer t x).copy = s.copy := rfl
@[simp] theorem setTimer_nextSerial (t : Fin 8) (x : Timer) : (s.setTimer t x).nextSerial = s.nextSerial := rfl
@[simp] theorem setTimer_timebase (t : Fin 8) (x : Timer) : (s.setTimer t x).timebase = s.timebase := rfl
@[simp] theorem setTimer_inputs (t : Fin 8) (x : Timer) : (s.setTimer t x).inputs = s.inputs := rfl
@[simp] theorem setTimer_gate (t : Fin 8) (x : Timer) : (s.setTimer t x).gate = s.gate := rfl
@[simp] theorem setTimer_alert (t : Fin 8) (x : Timer) : (s.setTimer t x).alert = s.alert := rfl
@[simp] theorem setTimer_link (t : Fin 8) (x : Timer) : (s.setTimer t x).link = s.link := rfl
@[simp] theorem setTimer_store (t : Fin 8) (x : Timer) : (s.setTimer t x).store = s.store := rfl
@[simp] theorem setTimer_draw (t : Fin 8) (x : Timer) : (s.setTimer t x).draw = s.draw := rfl
@[simp] theorem setTimer_pending (t : Fin 8) (x : Timer) : (s.setTimer t x).pending = s.pending := rfl

/-! ### setInput -/

@[simp] theorem setInput_powered (e : Fin 2) (x : EventInput) : (s.setInput e x).powered = s.powered := rfl
@[simp] theorem setInput_pins (e : Fin 2) (x : EventInput) : (s.setInput e x).pins = s.pins := rfl
@[simp] theorem setInput_path (e : Fin 2) (x : EventInput) : (s.setInput e x).path = s.path := rfl
@[simp] theorem setInput_defaultActions (e : Fin 2) (x : EventInput) : (s.setInput e x).defaultActions = s.defaultActions := rfl
@[simp] theorem setInput_unmatched (e : Fin 2) (x : EventInput) : (s.setInput e x).unmatched = s.unmatched := rfl
@[simp] theorem setInput_rules (e : Fin 2) (x : EventInput) : (s.setInput e x).rules = s.rules := rfl
@[simp] theorem setInput_queues (e : Fin 2) (x : EventInput) : (s.setInput e x).queues = s.queues := rfl
@[simp] theorem setInput_copy (e : Fin 2) (x : EventInput) : (s.setInput e x).copy = s.copy := rfl
@[simp] theorem setInput_nextSerial (e : Fin 2) (x : EventInput) : (s.setInput e x).nextSerial = s.nextSerial := rfl
@[simp] theorem setInput_timebase (e : Fin 2) (x : EventInput) : (s.setInput e x).timebase = s.timebase := rfl
@[simp] theorem setInput_timers (e : Fin 2) (x : EventInput) : (s.setInput e x).timers = s.timers := rfl
@[simp] theorem setInput_gate (e : Fin 2) (x : EventInput) : (s.setInput e x).gate = s.gate := rfl
@[simp] theorem setInput_alert (e : Fin 2) (x : EventInput) : (s.setInput e x).alert = s.alert := rfl
@[simp] theorem setInput_link (e : Fin 2) (x : EventInput) : (s.setInput e x).link = s.link := rfl
@[simp] theorem setInput_store (e : Fin 2) (x : EventInput) : (s.setInput e x).store = s.store := rfl
@[simp] theorem setInput_draw (e : Fin 2) (x : EventInput) : (s.setInput e x).draw = s.draw := rfl
@[simp] theorem setInput_pending (e : Fin 2) (x : EventInput) : (s.setInput e x).pending = s.pending := rfl

/-! ### mapRules -/

@[simp] theorem mapRules_powered (f : Fin 24 → Rule → Rule) : (s.mapRules f).powered = s.powered := by simp only [mapRules]
@[simp] theorem mapRules_pins (f : Fin 24 → Rule → Rule) : (s.mapRules f).pins = s.pins := by simp only [mapRules]
@[simp] theorem mapRules_path (f : Fin 24 → Rule → Rule) : (s.mapRules f).path = s.path := by simp only [mapRules]
@[simp] theorem mapRules_defaultActions (f : Fin 24 → Rule → Rule) : (s.mapRules f).defaultActions = s.defaultActions := by simp only [mapRules]
@[simp] theorem mapRules_unmatched (f : Fin 24 → Rule → Rule) : (s.mapRules f).unmatched = s.unmatched := by simp only [mapRules]
@[simp] theorem mapRules_queues (f : Fin 24 → Rule → Rule) : (s.mapRules f).queues = s.queues := by simp only [mapRules]
@[simp] theorem mapRules_copy (f : Fin 24 → Rule → Rule) : (s.mapRules f).copy = s.copy := by simp only [mapRules]
@[simp] theorem mapRules_nextSerial (f : Fin 24 → Rule → Rule) : (s.mapRules f).nextSerial = s.nextSerial := by simp only [mapRules]
@[simp] theorem mapRules_timebase (f : Fin 24 → Rule → Rule) : (s.mapRules f).timebase = s.timebase := by simp only [mapRules]
@[simp] theorem mapRules_timers (f : Fin 24 → Rule → Rule) : (s.mapRules f).timers = s.timers := by simp only [mapRules]
@[simp] theorem mapRules_inputs (f : Fin 24 → Rule → Rule) : (s.mapRules f).inputs = s.inputs := by simp only [mapRules]
@[simp] theorem mapRules_gate (f : Fin 24 → Rule → Rule) : (s.mapRules f).gate = s.gate := by simp only [mapRules]
@[simp] theorem mapRules_alert (f : Fin 24 → Rule → Rule) : (s.mapRules f).alert = s.alert := by simp only [mapRules]
@[simp] theorem mapRules_link (f : Fin 24 → Rule → Rule) : (s.mapRules f).link = s.link := by simp only [mapRules]
@[simp] theorem mapRules_store (f : Fin 24 → Rule → Rule) : (s.mapRules f).store = s.store := by simp only [mapRules]
@[simp] theorem mapRules_draw (f : Fin 24 → Rule → Rule) : (s.mapRules f).draw = s.draw := by simp only [mapRules]
@[simp] theorem mapRules_pending (f : Fin 24 → Rule → Rule) : (s.mapRules f).pending = s.pending := by simp only [mapRules]

/-! ### mapQueues -/

@[simp] theorem mapQueues_powered (f : Fin 4 → Queue → Queue) : (s.mapQueues f).powered = s.powered := by simp only [mapQueues]
@[simp] theorem mapQueues_pins (f : Fin 4 → Queue → Queue) : (s.mapQueues f).pins = s.pins := by simp only [mapQueues]
@[simp] theorem mapQueues_path (f : Fin 4 → Queue → Queue) : (s.mapQueues f).path = s.path := by simp only [mapQueues]
@[simp] theorem mapQueues_defaultActions (f : Fin 4 → Queue → Queue) : (s.mapQueues f).defaultActions = s.defaultActions := by simp only [mapQueues]
@[simp] theorem mapQueues_unmatched (f : Fin 4 → Queue → Queue) : (s.mapQueues f).unmatched = s.unmatched := by simp only [mapQueues]
@[simp] theorem mapQueues_rules (f : Fin 4 → Queue → Queue) : (s.mapQueues f).rules = s.rules := by simp only [mapQueues]
@[simp] theorem mapQueues_copy (f : Fin 4 → Queue → Queue) : (s.mapQueues f).copy = s.copy := by simp only [mapQueues]
@[simp] theorem mapQueues_nextSerial (f : Fin 4 → Queue → Queue) : (s.mapQueues f).nextSerial = s.nextSerial := by simp only [mapQueues]
@[simp] theorem mapQueues_timebase (f : Fin 4 → Queue → Queue) : (s.mapQueues f).timebase = s.timebase := by simp only [mapQueues]
@[simp] theorem mapQueues_timers (f : Fin 4 → Queue → Queue) : (s.mapQueues f).timers = s.timers := by simp only [mapQueues]
@[simp] theorem mapQueues_inputs (f : Fin 4 → Queue → Queue) : (s.mapQueues f).inputs = s.inputs := by simp only [mapQueues]
@[simp] theorem mapQueues_gate (f : Fin 4 → Queue → Queue) : (s.mapQueues f).gate = s.gate := by simp only [mapQueues]
@[simp] theorem mapQueues_alert (f : Fin 4 → Queue → Queue) : (s.mapQueues f).alert = s.alert := by simp only [mapQueues]
@[simp] theorem mapQueues_link (f : Fin 4 → Queue → Queue) : (s.mapQueues f).link = s.link := by simp only [mapQueues]
@[simp] theorem mapQueues_store (f : Fin 4 → Queue → Queue) : (s.mapQueues f).store = s.store := by simp only [mapQueues]
@[simp] theorem mapQueues_draw (f : Fin 4 → Queue → Queue) : (s.mapQueues f).draw = s.draw := by simp only [mapQueues]
@[simp] theorem mapQueues_pending (f : Fin 4 → Queue → Queue) : (s.mapQueues f).pending = s.pending := by simp only [mapQueues]

/-! ### mapTimers -/

@[simp] theorem mapTimers_powered (f : Fin 8 → Timer → Timer) : (s.mapTimers f).powered = s.powered := by simp only [mapTimers]
@[simp] theorem mapTimers_pins (f : Fin 8 → Timer → Timer) : (s.mapTimers f).pins = s.pins := by simp only [mapTimers]
@[simp] theorem mapTimers_path (f : Fin 8 → Timer → Timer) : (s.mapTimers f).path = s.path := by simp only [mapTimers]
@[simp] theorem mapTimers_defaultActions (f : Fin 8 → Timer → Timer) : (s.mapTimers f).defaultActions = s.defaultActions := by simp only [mapTimers]
@[simp] theorem mapTimers_unmatched (f : Fin 8 → Timer → Timer) : (s.mapTimers f).unmatched = s.unmatched := by simp only [mapTimers]
@[simp] theorem mapTimers_rules (f : Fin 8 → Timer → Timer) : (s.mapTimers f).rules = s.rules := by simp only [mapTimers]
@[simp] theorem mapTimers_queues (f : Fin 8 → Timer → Timer) : (s.mapTimers f).queues = s.queues := by simp only [mapTimers]
@[simp] theorem mapTimers_copy (f : Fin 8 → Timer → Timer) : (s.mapTimers f).copy = s.copy := by simp only [mapTimers]
@[simp] theorem mapTimers_nextSerial (f : Fin 8 → Timer → Timer) : (s.mapTimers f).nextSerial = s.nextSerial := by simp only [mapTimers]
@[simp] theorem mapTimers_timebase (f : Fin 8 → Timer → Timer) : (s.mapTimers f).timebase = s.timebase := by simp only [mapTimers]
@[simp] theorem mapTimers_inputs (f : Fin 8 → Timer → Timer) : (s.mapTimers f).inputs = s.inputs := by simp only [mapTimers]
@[simp] theorem mapTimers_gate (f : Fin 8 → Timer → Timer) : (s.mapTimers f).gate = s.gate := by simp only [mapTimers]
@[simp] theorem mapTimers_alert (f : Fin 8 → Timer → Timer) : (s.mapTimers f).alert = s.alert := by simp only [mapTimers]
@[simp] theorem mapTimers_link (f : Fin 8 → Timer → Timer) : (s.mapTimers f).link = s.link := by simp only [mapTimers]
@[simp] theorem mapTimers_store (f : Fin 8 → Timer → Timer) : (s.mapTimers f).store = s.store := by simp only [mapTimers]
@[simp] theorem mapTimers_draw (f : Fin 8 → Timer → Timer) : (s.mapTimers f).draw = s.draw := by simp only [mapTimers]
@[simp] theorem mapTimers_pending (f : Fin 8 → Timer → Timer) : (s.mapTimers f).pending = s.pending := by simp only [mapTimers]

/-! ### mapInputs -/

@[simp] theorem mapInputs_powered (f : Fin 2 → EventInput → EventInput) : (s.mapInputs f).powered = s.powered := by simp only [mapInputs]
@[simp] theorem mapInputs_pins (f : Fin 2 → EventInput → EventInput) : (s.mapInputs f).pins = s.pins := by simp only [mapInputs]
@[simp] theorem mapInputs_path (f : Fin 2 → EventInput → EventInput) : (s.mapInputs f).path = s.path := by simp only [mapInputs]
@[simp] theorem mapInputs_defaultActions (f : Fin 2 → EventInput → EventInput) : (s.mapInputs f).defaultActions = s.defaultActions := by simp only [mapInputs]
@[simp] theorem mapInputs_unmatched (f : Fin 2 → EventInput → EventInput) : (s.mapInputs f).unmatched = s.unmatched := by simp only [mapInputs]
@[simp] theorem mapInputs_rules (f : Fin 2 → EventInput → EventInput) : (s.mapInputs f).rules = s.rules := by simp only [mapInputs]
@[simp] theorem mapInputs_queues (f : Fin 2 → EventInput → EventInput) : (s.mapInputs f).queues = s.queues := by simp only [mapInputs]
@[simp] theorem mapInputs_copy (f : Fin 2 → EventInput → EventInput) : (s.mapInputs f).copy = s.copy := by simp only [mapInputs]
@[simp] theorem mapInputs_nextSerial (f : Fin 2 → EventInput → EventInput) : (s.mapInputs f).nextSerial = s.nextSerial := by simp only [mapInputs]
@[simp] theorem mapInputs_timebase (f : Fin 2 → EventInput → EventInput) : (s.mapInputs f).timebase = s.timebase := by simp only [mapInputs]
@[simp] theorem mapInputs_timers (f : Fin 2 → EventInput → EventInput) : (s.mapInputs f).timers = s.timers := by simp only [mapInputs]
@[simp] theorem mapInputs_gate (f : Fin 2 → EventInput → EventInput) : (s.mapInputs f).gate = s.gate := by simp only [mapInputs]
@[simp] theorem mapInputs_alert (f : Fin 2 → EventInput → EventInput) : (s.mapInputs f).alert = s.alert := by simp only [mapInputs]
@[simp] theorem mapInputs_link (f : Fin 2 → EventInput → EventInput) : (s.mapInputs f).link = s.link := by simp only [mapInputs]
@[simp] theorem mapInputs_store (f : Fin 2 → EventInput → EventInput) : (s.mapInputs f).store = s.store := by simp only [mapInputs]
@[simp] theorem mapInputs_draw (f : Fin 2 → EventInput → EventInput) : (s.mapInputs f).draw = s.draw := by simp only [mapInputs]
@[simp] theorem mapInputs_pending (f : Fin 2 → EventInput → EventInput) : (s.mapInputs f).pending = s.pending := by simp only [mapInputs]

/-! ### setFlag -/

@[simp] theorem setFlag_powered (g : Flag) : (s.setFlag g).powered = s.powered := rfl
@[simp] theorem setFlag_pins (g : Flag) : (s.setFlag g).pins = s.pins := rfl
@[simp] theorem setFlag_path (g : Flag) : (s.setFlag g).path = s.path := rfl
@[simp] theorem setFlag_defaultActions (g : Flag) : (s.setFlag g).defaultActions = s.defaultActions := rfl
@[simp] theorem setFlag_unmatched (g : Flag) : (s.setFlag g).unmatched = s.unmatched := rfl
@[simp] theorem setFlag_rules (g : Flag) : (s.setFlag g).rules = s.rules := rfl
@[simp] theorem setFlag_queues (g : Flag) : (s.setFlag g).queues = s.queues := rfl
@[simp] theorem setFlag_copy (g : Flag) : (s.setFlag g).copy = s.copy := rfl
@[simp] theorem setFlag_nextSerial (g : Flag) : (s.setFlag g).nextSerial = s.nextSerial := rfl
@[simp] theorem setFlag_timebase (g : Flag) : (s.setFlag g).timebase = s.timebase := rfl
@[simp] theorem setFlag_timers (g : Flag) : (s.setFlag g).timers = s.timers := rfl
@[simp] theorem setFlag_inputs (g : Flag) : (s.setFlag g).inputs = s.inputs := rfl
@[simp] theorem setFlag_gate (g : Flag) : (s.setFlag g).gate = s.gate := rfl
@[simp] theorem setFlag_link (g : Flag) : (s.setFlag g).link = s.link := rfl
@[simp] theorem setFlag_store (g : Flag) : (s.setFlag g).store = s.store := rfl
@[simp] theorem setFlag_draw (g : Flag) : (s.setFlag g).draw = s.draw := rfl
@[simp] theorem setFlag_pending (g : Flag) : (s.setFlag g).pending = s.pending := rfl

/-! ### setEvPin -/

@[simp] theorem setEvPin_powered (e : Fin 2) (b : Bool) : (s.setEvPin e b).powered = s.powered := rfl
@[simp] theorem setEvPin_path (e : Fin 2) (b : Bool) : (s.setEvPin e b).path = s.path := rfl
@[simp] theorem setEvPin_defaultActions (e : Fin 2) (b : Bool) : (s.setEvPin e b).defaultActions = s.defaultActions := rfl
@[simp] theorem setEvPin_unmatched (e : Fin 2) (b : Bool) : (s.setEvPin e b).unmatched = s.unmatched := rfl
@[simp] theorem setEvPin_rules (e : Fin 2) (b : Bool) : (s.setEvPin e b).rules = s.rules := rfl
@[simp] theorem setEvPin_queues (e : Fin 2) (b : Bool) : (s.setEvPin e b).queues = s.queues := rfl
@[simp] theorem setEvPin_copy (e : Fin 2) (b : Bool) : (s.setEvPin e b).copy = s.copy := rfl
@[simp] theorem setEvPin_nextSerial (e : Fin 2) (b : Bool) : (s.setEvPin e b).nextSerial = s.nextSerial := rfl
@[simp] theorem setEvPin_timebase (e : Fin 2) (b : Bool) : (s.setEvPin e b).timebase = s.timebase := rfl
@[simp] theorem setEvPin_timers (e : Fin 2) (b : Bool) : (s.setEvPin e b).timers = s.timers := rfl
@[simp] theorem setEvPin_inputs (e : Fin 2) (b : Bool) : (s.setEvPin e b).inputs = s.inputs := rfl
@[simp] theorem setEvPin_gate (e : Fin 2) (b : Bool) : (s.setEvPin e b).gate = s.gate := rfl
@[simp] theorem setEvPin_alert (e : Fin 2) (b : Bool) : (s.setEvPin e b).alert = s.alert := rfl
@[simp] theorem setEvPin_link (e : Fin 2) (b : Bool) : (s.setEvPin e b).link = s.link := rfl
@[simp] theorem setEvPin_store (e : Fin 2) (b : Bool) : (s.setEvPin e b).store = s.store := rfl
@[simp] theorem setEvPin_draw (e : Fin 2) (b : Bool) : (s.setEvPin e b).draw = s.draw := rfl
@[simp] theorem setEvPin_pending (e : Fin 2) (b : Bool) : (s.setEvPin e b).pending = s.pending := rfl

/-! ### setFrame -/

@[simp] theorem setFrame_powered (f : Frame) : (s.setFrame f).powered = s.powered := rfl
@[simp] theorem setFrame_pins (f : Frame) : (s.setFrame f).pins = s.pins := rfl
@[simp] theorem setFrame_path (f : Frame) : (s.setFrame f).path = s.path := rfl
@[simp] theorem setFrame_defaultActions (f : Frame) : (s.setFrame f).defaultActions = s.defaultActions := rfl
@[simp] theorem setFrame_unmatched (f : Frame) : (s.setFrame f).unmatched = s.unmatched := rfl
@[simp] theorem setFrame_rules (f : Frame) : (s.setFrame f).rules = s.rules := rfl
@[simp] theorem setFrame_queues (f : Frame) : (s.setFrame f).queues = s.queues := rfl
@[simp] theorem setFrame_copy (f : Frame) : (s.setFrame f).copy = s.copy := rfl
@[simp] theorem setFrame_nextSerial (f : Frame) : (s.setFrame f).nextSerial = s.nextSerial := rfl
@[simp] theorem setFrame_timebase (f : Frame) : (s.setFrame f).timebase = s.timebase := rfl
@[simp] theorem setFrame_timers (f : Frame) : (s.setFrame f).timers = s.timers := rfl
@[simp] theorem setFrame_inputs (f : Frame) : (s.setFrame f).inputs = s.inputs := rfl
@[simp] theorem setFrame_gate (f : Frame) : (s.setFrame f).gate = s.gate := rfl
@[simp] theorem setFrame_alert (f : Frame) : (s.setFrame f).alert = s.alert := rfl
@[simp] theorem setFrame_store (f : Frame) : (s.setFrame f).store = s.store := rfl
@[simp] theorem setFrame_draw (f : Frame) : (s.setFrame f).draw = s.draw := rfl
@[simp] theorem setFrame_pending (f : Frame) : (s.setFrame f).pending = s.pending := rfl

/-! ### setStatus -/

@[simp] theorem setStatus_powered (st : Status) (b : Bool) : (s.setStatus st b).powered = s.powered := rfl
@[simp] theorem setStatus_pins (st : Status) (b : Bool) : (s.setStatus st b).pins = s.pins := rfl
@[simp] theorem setStatus_path (st : Status) (b : Bool) : (s.setStatus st b).path = s.path := rfl
@[simp] theorem setStatus_defaultActions (st : Status) (b : Bool) : (s.setStatus st b).defaultActions = s.defaultActions := rfl
@[simp] theorem setStatus_unmatched (st : Status) (b : Bool) : (s.setStatus st b).unmatched = s.unmatched := rfl
@[simp] theorem setStatus_rules (st : Status) (b : Bool) : (s.setStatus st b).rules = s.rules := rfl
@[simp] theorem setStatus_queues (st : Status) (b : Bool) : (s.setStatus st b).queues = s.queues := rfl
@[simp] theorem setStatus_copy (st : Status) (b : Bool) : (s.setStatus st b).copy = s.copy := rfl
@[simp] theorem setStatus_nextSerial (st : Status) (b : Bool) : (s.setStatus st b).nextSerial = s.nextSerial := rfl
@[simp] theorem setStatus_timebase (st : Status) (b : Bool) : (s.setStatus st b).timebase = s.timebase := rfl
@[simp] theorem setStatus_timers (st : Status) (b : Bool) : (s.setStatus st b).timers = s.timers := rfl
@[simp] theorem setStatus_inputs (st : Status) (b : Bool) : (s.setStatus st b).inputs = s.inputs := rfl
@[simp] theorem setStatus_gate (st : Status) (b : Bool) : (s.setStatus st b).gate = s.gate := rfl
@[simp] theorem setStatus_alert (st : Status) (b : Bool) : (s.setStatus st b).alert = s.alert := rfl
@[simp] theorem setStatus_store (st : Status) (b : Bool) : (s.setStatus st b).store = s.store := rfl
@[simp] theorem setStatus_draw (st : Status) (b : Bool) : (s.setStatus st b).draw = s.draw := rfl
@[simp] theorem setStatus_pending (st : Status) (b : Bool) : (s.setStatus st b).pending = s.pending := rfl

/-! ### finishTxn -/

@[simp] theorem finishTxn_powered (a : Option Answer) : (s.finishTxn a).powered = s.powered := rfl
@[simp] theorem finishTxn_pins (a : Option Answer) : (s.finishTxn a).pins = s.pins := rfl
@[simp] theorem finishTxn_defaultActions (a : Option Answer) : (s.finishTxn a).defaultActions = s.defaultActions := rfl
@[simp] theorem finishTxn_unmatched (a : Option Answer) : (s.finishTxn a).unmatched = s.unmatched := rfl
@[simp] theorem finishTxn_rules (a : Option Answer) : (s.finishTxn a).rules = s.rules := rfl
@[simp] theorem finishTxn_queues (a : Option Answer) : (s.finishTxn a).queues = s.queues := rfl
@[simp] theorem finishTxn_copy (a : Option Answer) : (s.finishTxn a).copy = s.copy := rfl
@[simp] theorem finishTxn_nextSerial (a : Option Answer) : (s.finishTxn a).nextSerial = s.nextSerial := rfl
@[simp] theorem finishTxn_timebase (a : Option Answer) : (s.finishTxn a).timebase = s.timebase := rfl
@[simp] theorem finishTxn_timers (a : Option Answer) : (s.finishTxn a).timers = s.timers := rfl
@[simp] theorem finishTxn_inputs (a : Option Answer) : (s.finishTxn a).inputs = s.inputs := rfl
@[simp] theorem finishTxn_gate (a : Option Answer) : (s.finishTxn a).gate = s.gate := rfl
@[simp] theorem finishTxn_alert (a : Option Answer) : (s.finishTxn a).alert = s.alert := rfl
@[simp] theorem finishTxn_link (a : Option Answer) : (s.finishTxn a).link = s.link := rfl
@[simp] theorem finishTxn_store (a : Option Answer) : (s.finishTxn a).store = s.store := rfl
@[simp] theorem finishTxn_draw (a : Option Answer) : (s.finishTxn a).draw = s.draw := rfl
@[simp] theorem finishTxn_pending (a : Option Answer) : (s.finishTxn a).pending = s.pending := rfl

/-! ### countRefused -/

@[simp] theorem countRefused_powered : (s.countRefused).powered = s.powered := rfl
@[simp] theorem countRefused_pins : (s.countRefused).pins = s.pins := rfl
@[simp] theorem countRefused_path : (s.countRefused).path = s.path := rfl
@[simp] theorem countRefused_defaultActions : (s.countRefused).defaultActions = s.defaultActions := rfl
@[simp] theorem countRefused_unmatched : (s.countRefused).unmatched = s.unmatched := rfl
@[simp] theorem countRefused_rules : (s.countRefused).rules = s.rules := rfl
@[simp] theorem countRefused_queues : (s.countRefused).queues = s.queues := rfl
@[simp] theorem countRefused_copy : (s.countRefused).copy = s.copy := rfl
@[simp] theorem countRefused_nextSerial : (s.countRefused).nextSerial = s.nextSerial := rfl
@[simp] theorem countRefused_timebase : (s.countRefused).timebase = s.timebase := rfl
@[simp] theorem countRefused_timers : (s.countRefused).timers = s.timers := rfl
@[simp] theorem countRefused_inputs : (s.countRefused).inputs = s.inputs := rfl
@[simp] theorem countRefused_alert : (s.countRefused).alert = s.alert := rfl
@[simp] theorem countRefused_link : (s.countRefused).link = s.link := rfl
@[simp] theorem countRefused_store : (s.countRefused).store = s.store := rfl
@[simp] theorem countRefused_draw : (s.countRefused).draw = s.draw := rfl
@[simp] theorem countRefused_pending : (s.countRefused).pending = s.pending := rfl

/-! ### Changed fields -/

@[simp] theorem setRule_rules (r : Fin 24) (x : Rule) : (s.setRule r x).rules = s.rules.set r x := rfl
@[simp] theorem setQueue_queues (n : Fin 4) (x : Queue) : (s.setQueue n x).queues = s.queues.set n x := rfl
@[simp] theorem setTimer_timers (t : Fin 8) (x : Timer) : (s.setTimer t x).timers = s.timers.set t x := rfl
@[simp] theorem setInput_inputs (e : Fin 2) (x : EventInput) : (s.setInput e x).inputs = s.inputs.set e x := rfl
@[simp] theorem setFlag_alert (g : Flag) : (s.setFlag g).alert = s.alert.setFlag s.timebase.tapCount g := rfl
@[simp] theorem setFrame_link (f : Frame) : (s.setFrame f).link = { s.link with frame := f } := rfl
@[simp] theorem setStatus_link (st : Status) (b : Bool) :
    (s.setStatus st b).link = { s.link with status := st, pendingMark := b } := rfl
@[simp] theorem finishTxn_path (a : Option Answer) : (s.finishTxn a).path = s.path.finish a := rfl
@[simp] theorem countRefused_gate : s.countRefused.gate = s.gate.refuseWrite := rfl
@[simp] theorem setEvPin_pins (e : Fin 2) (b : Bool) :
    (s.setEvPin e b).pins = { s.pins with ev := s.pins.ev.set e b } := rfl

/-! ### Reading entries back -/

@[simp] theorem rule_setRule (i j : Fin 24) (x : Rule) :
    (s.setRule i x).rule j = if i = j then x else s.rule j := by
  simp [rule, setRule, Vector.getElem_set, Fin.ext_iff]

@[simp] theorem rule_mapRules (f : Fin 24 → Rule → Rule) (i : Fin 24) : (s.mapRules f).rule i = f i (s.rule i) := by
  simp [rule, mapRules]

/-- The entry depends on the table alone. -/
theorem rule_congr {s t : State} (h : s.rules = t.rules) (i : Fin 24) : s.rule i = t.rule i := by
  simp [rule, h]

@[simp] theorem queue_setQueue (i j : Fin 4) (x : Queue) :
    (s.setQueue i x).queue j = if i = j then x else s.queue j := by
  simp [queue, setQueue, Vector.getElem_set, Fin.ext_iff]

@[simp] theorem queue_mapQueues (f : Fin 4 → Queue → Queue) (i : Fin 4) : (s.mapQueues f).queue i = f i (s.queue i) := by
  simp [queue, mapQueues]

/-- The entry depends on the table alone. -/
theorem queue_congr {s t : State} (h : s.queues = t.queues) (i : Fin 4) : s.queue i = t.queue i := by
  simp [queue, h]

@[simp] theorem timer_setTimer (i j : Fin 8) (x : Timer) :
    (s.setTimer i x).timer j = if i = j then x else s.timer j := by
  simp [timer, setTimer, Vector.getElem_set, Fin.ext_iff]

@[simp] theorem timer_mapTimers (f : Fin 8 → Timer → Timer) (i : Fin 8) : (s.mapTimers f).timer i = f i (s.timer i) := by
  simp [timer, mapTimers]

/-- The entry depends on the table alone. -/
theorem timer_congr {s t : State} (h : s.timers = t.timers) (i : Fin 8) : s.timer i = t.timer i := by
  simp [timer, h]

@[simp] theorem input_setInput (i j : Fin 2) (x : EventInput) :
    (s.setInput i x).input j = if i = j then x else s.input j := by
  simp [input, setInput, Vector.getElem_set, Fin.ext_iff]

@[simp] theorem input_mapInputs (f : Fin 2 → EventInput → EventInput) (i : Fin 2) : (s.mapInputs f).input i = f i (s.input i) := by
  simp [input, mapInputs]

/-- The entry depends on the table alone. -/
theorem input_congr {s t : State} (h : s.inputs = t.inputs) (i : Fin 2) : s.input i = t.input i := by
  simp [input, h]

end Sys2Proof.Machine.State
end

