-- ==== Sys2Proof/Laws/Checks.lean ====
section
/-! SUPPORT. The checks of the written words, as propositions on their fields, and the codes of short fields. -/

namespace Sys2Proof.Machine

/-- A two-bit field has one of four values. -/
theorem fld2_cases : ∀ x : BitVec 2, x = 0 ∨ x = 1 ∨ x = 2 ∨ x = 3 := by decide

/-- A three-bit field has one of eight values. -/
theorem fld3_cases : ∀ x : BitVec 3, x = 0 ∨ x = 1 ∨ x = 2 ∨ x = 3 ∨ x = 4 ∨ x = 5 ∨ x = 6 ∨ x = 7 := by decide

/-- R78. -/
theorem Queue.configOk_iff (v : Word) : Queue.configOk v = true ↔
    ((fld v 0 9).toNat = 0 ∨ (fld v 0 9).toNat % 4 = 0 ∧ 4 ≤ (fld v 0 9).toNat ∧ (fld v 0 9).toNat ≤ 256) ∧
      (fld v 12 2).toNat ≤ 1 ∧
      (4 ≤ (fld v 0 9).toNat → 1 ≤ (fld v 16 9).toNat ∧ (fld v 16 9).toNat ≤ (fld v 0 9).toNat) := by
  simp only [configOk, Bool.and_eq_true, Bool.or_eq_true, decide_eq_true_eq, beq_iff_eq]
  simp only [depthOf, policyCode, notifyOf]
  omega

/-- R110. -/
theorem Timebase.configOk_iff (v : Word) :
    Timebase.configOk v = true ↔ 1 ≤ (fld v 0 9).toNat ∧ (fld v 0 9).toNat ≤ 256 := by
  simp only [configOk, Bool.and_eq_true, decide_eq_true_eq]
  rfl

/-- R114. -/
theorem Timer.configOk_iff (v : Word) : Timer.configOk v = true ↔
    (fld v 0 3).toNat ≤ 3 ∧ (fld v 4 3).toNat ≤ 4 ∧ fld v 8 2 ≠ 3 ∧
      (fld v 8 2 = 1 → (fld v 10 5).toNat ≤ 23) ∧ (fld v 8 2 = 2 → (fld v 10 5).toNat ≤ 1) := by
  simp only [configOk, Bool.and_eq_true, decide_eq_true_eq, and_assoc]
  refine and_congr Iff.rfl (and_congr Iff.rfl ?_)
  simp only [triggerKind]
  rcases fld2_cases (fld v 8 2) with h | h | h | h <;> simp [h]
  · exact Nat.lt_succ_iff
  · exact Iff.rfl

/-- R135. -/
theorem EventInput.configOk_iff (v : Word) : EventInput.configOk v = true ↔
    (fld v 2 3).toNat ≤ 3 ∧ (wbit v 6 = true → (fld v 7 3).toNat ≤ 3) := by
  simp only [configOk, Bool.and_eq_true, Bool.or_eq_true, Bool.not_eq_true', decide_eq_true_eq]
  simp only [filterCode, queueCode]
  cases wbit v 6 <;> simp

/-- R153. -/
theorem Gate.configOk_iff (v : Word) : Gate.configOk v = true ↔
    fld v 8 8 ≠ 0 ∧ (fld v 16 3).toNat ≤ 3 ∧ (fld v 0 2).toNat ≤ 1 ∧
      (wbit v 20 = true → (fld v 21 3).toNat ≤ 3) := by
  simp only [configOk, Bool.and_eq_true, Bool.or_eq_true, Bool.not_eq_true', decide_eq_true_eq, bne_iff_ne, and_assoc]
  simp only [holdOffCount, tapCode, policyCode, queueCode]
  cases wbit v 20 <;> simp

/-- R167. -/
theorem Alert.configOk_iff (v : Word) : Alert.configOk v = true ↔
    (fld v 0 2).toNat ≤ 1 ∧ fld v 8 8 ≠ 0 ∧ (fld v 16 3).toNat ≤ 2 := by
  simp only [configOk, Bool.and_eq_true, decide_eq_true_eq, bne_iff_ne, and_assoc]
  rfl

/-- R65. -/
theorem Path.limitOk_iff (v : Word) : Path.limitOk v = true ↔
    16 ≤ (fld v 0 12).toNat ∧ (wbit v 16 = true → (fld v 17 3).toNat ≤ 3) := by
  simp only [limitOk, Bool.and_eq_true, Bool.or_eq_true, Bool.not_eq_true', decide_eq_true_eq]
  simp only [limitOf, queueCode]
  cases wbit v 16 <;> simp

/-- R35. -/
theorem defaultActionsOk_iff (v : Word) : defaultActionsOk v = true ↔ fld v 0 2 ≠ 3 ∧ fld v 4 2 ≠ 3 := by
  have h : ∀ x : BitVec 2, (defaultOf x).isSome = true ↔ x ≠ 3 := by decide
  simp only [defaultActionsOk, Bool.and_eq_true, h]

/-- R36. -/
theorem unmatchedOk_iff (v : Word) :
    unmatchedOk v = true ↔ (wbit v 0 = true → fld v 4 2 = 0 ∨ fld v 4 2 = 1) := by
  have h : ∀ x : BitVec 2, x.toNat ≤ 1 ↔ x = 0 ∨ x = 1 := by decide
  simp only [unmatchedOk, Bool.or_eq_true, Bool.not_eq_true', decide_eq_true_eq, h, unmatchedPresent]
  cases wbit v 0 <;> simp

end Sys2Proof.Machine
end

