-- ==== Sys2Proof/Laws/Ops.lean ====
section
/-! SUPPORT. Laws of the shared operations of Ops: the free order of parts, and the form of an outcome. -/

namespace Sys2Proof.Machine

theorem insertAt_perm {α : Type} (x : α) (l : List α) (k : Nat) : (insertAt x l k).Perm (x :: l) := by
  induction l generalizing k with
  | nil => simp [insertAt]
  | cons y ys ih =>
    cases k with
    | zero => simp [insertAt]
    | succ k => exact ((ih k).cons y).trans (List.Perm.swap x y ys)

/-- A free order takes every part once. -/
theorem orderParts_perm {α : Type} (key : Nat → Nat) (n : Nat) (l : List α) : (orderParts key n l).Perm l := by
  induction l generalizing n with
  | nil => simp [orderParts]
  | cons x xs ih => exact (insertAt_perm x _ _).trans ((ih (n + 1)).cons x)

@[simp] theorem mem_orderParts {α : Type} (key : Nat → Nat) (n : Nat) (l : List α) (x : α) :
    x ∈ orderParts key n l ↔ x ∈ l := (orderParts_perm key n l).mem_iff

theorem insertAt_append {α : Type} (x : α) (l₁ l₂ : List α) : insertAt x (l₁ ++ l₂) l₁.length = l₁ ++ x :: l₂ := by
  induction l₁ with
  | nil => cases l₂ <;> simp [insertAt]
  | cons y ys ih => simp [insertAt, ih]

theorem orderParts_congr {α : Type} {key key' : Nat → Nat} (l : List α) (n : Nat)
    (h : ∀ m, n ≤ m → key m = key' m) : orderParts key n l = orderParts key' n l := by
  induction l generalizing n with
  | nil => rfl
  | cons x xs ih =>
    simp only [orderParts]
    rw [h n (Nat.le_refl n), ih (n + 1) fun m hm => h m (by omega)]

/-- Every order of the parts is given by some key: the free order leaves none out. -/
theorem exists_key_of_perm {α : Type} (l l' : List α) (n : Nat) (h : l'.Perm l) :
    ∃ key, orderParts key n l = l' := by
  induction l generalizing l' n with
  | nil => exact ⟨fun _ => 0, by simp [orderParts, h.eq_nil]⟩
  | cons x xs ih =>
    obtain ⟨l₁, l₂, rfl⟩ := List.append_of_mem (h.mem_iff.mpr List.mem_cons_self)
    have hp : (l₁ ++ l₂).Perm xs := (List.perm_middle.symm.trans h).cons_inv
    obtain ⟨key, hk⟩ := ih (l₁ ++ l₂) (n + 1) hp
    refine ⟨fun m => if m = n then l₁.length else key m, ?_⟩
    have hlen : l₁.length < xs.length + 1 := by
      have := hp.length_eq
      simp only [List.length_append] at this
      omega
    simp only [orderParts, if_true]
    rw [orderParts_congr (key' := key) xs (n + 1) fun m hm => by simp; omega, hk, Nat.mod_eq_of_lt hlen,
      insertAt_append]

@[simp] theorem orderParts_single {α : Type} (key : Nat → Nat) (n : Nat) (x : α) : orderParts key n [x] = [x] := rfl

@[simp] theorem inOrder_nil {α σ : Type} (key : Nat → Nat) (f : α → σ → σ) (s : σ) : inOrder key [] f s = s := rfl

@[simp] theorem inOrder_single {α σ : Type} (key : Nat → Nat) (x : α) (f : α → σ → σ) (s : σ) :
    inOrder key [x] f s = f x s := rfl

@[simp] theorem race_nil {α : Type} (f : α → State → State) (s : State) :
    race [] f s = { s with draw := s.draw + 1 } := rfl

@[simp] theorem race_single {α : Type} (x : α) (f : α → State → State) (s : State) :
    race [x] f s = f x { s with draw := s.draw + 1 } := rfl

/-- What every part of a race keeps, the race keeps. -/
theorem race_keeps {α : Type} {P : State → Prop} (hd : ∀ s : State, P s → P { s with draw := s.draw + 1 })
    {f : α → State → State} {parts : List α} (hf : ∀ x ∈ parts, ∀ s, P s → P (f x s)) (s : State) (h : P s) :
    P (race parts f s) := by
  have aux : ∀ l : List α, (∀ x ∈ l, ∀ s, P s → P (f x s)) → ∀ s, P s → P (l.foldl (fun s p => f p s) s) := by
    intro l
    induction l with
    | nil => exact fun _ _ h => h
    | cons x xs ih =>
      exact fun hl s h => ih (fun y hy => hl y (List.mem_cons_of_mem x hy)) _ (hl x List.mem_cons_self s h)
  exact aux _ (fun x hx => hf x ((mem_orderParts _ _ _ _).mp hx)) _ (hd s h)

@[simp] theorem whenPowered_on {f : State → State} {s : State} (h : s.powered = true) :
    whenPowered f s = .next (f s) := by simp [whenPowered, State.onPower, h]

@[simp] theorem whenPowered_off {f : State → State} {s : State} (h : s.powered = false) :
    whenPowered f s = .next s := by simp [whenPowered, State.onPower, h]

@[simp] theorem State.onPower_on {f : State → State} {s : State} (h : s.powered = true) : s.onPower f = f s := by
  simp [State.onPower, h]

@[simp] theorem State.onPower_off {f : State → State} {s : State} (h : s.powered = false) : s.onPower f = s := by
  simp [State.onPower, h]

/-! ### Bits and lanes of words -/

/-- A flag in a word, by cases. -/
theorem placeBit_eq (b : Bool) (i : Nat) : placeBit b i = if b then 1#32 <<< i else 0 := by
  cases b <;> simp [placeBit]

/-- Bit i of a lane mask is the bit of its lane (R28). -/
theorem laneMask_getLsbD (l : Lanes) (i : Fin 32) : (laneMask l).getLsbD i.val = l.getLsbD (i.val / 8) := by
  revert l i
  decide +kernel

end Sys2Proof.Machine
end

