-- ==== Sys2Proof/Laws/Frames.lean ====
section
/-! SUPPORT. Frames: what the shared operations can touch, said once. A frame says that two states differ at most in the
parts named; each operation has one lemma. -/

namespace Sys2Proof.Machine.State

/-- `t` differs from `s` at most in the queues, the record number and the alert controller. -/
def RecordFrame (s t : State) : Prop :=
  ∃ (q : Vector Queue 4) (k : Nat) (l : Alert),
    t = { s with queues := q, nextSerial := k, alert := l }

namespace RecordFrame

theorem refl (s : State) : RecordFrame s s := ⟨_, _, _, rfl⟩

theorem trans {s t u : State} (h : RecordFrame s t) (h' : RecordFrame t u) : RecordFrame s u := by
  obtain ⟨_, _, _, rfl⟩ := h
  obtain ⟨_, _, _, rfl⟩ := h'
  exact ⟨_, _, _, rfl⟩

variable {s t : State} (h : RecordFrame s t)
include h

theorem powered : t.powered = s.powered := by obtain ⟨_, _, _, rfl⟩ := h; rfl
theorem pins : t.pins = s.pins := by obtain ⟨_, _, _, rfl⟩ := h; rfl
theorem path : t.path = s.path := by obtain ⟨_, _, _, rfl⟩ := h; rfl
theorem defaultActions : t.defaultActions = s.defaultActions := by obtain ⟨_, _, _, rfl⟩ := h; rfl
theorem unmatched : t.unmatched = s.unmatched := by obtain ⟨_, _, _, rfl⟩ := h; rfl
theorem rules : t.rules = s.rules := by obtain ⟨_, _, _, rfl⟩ := h; rfl
theorem copy : t.copy = s.copy := by obtain ⟨_, _, _, rfl⟩ := h; rfl
theorem timebase : t.timebase = s.timebase := by obtain ⟨_, _, _, rfl⟩ := h; rfl
theorem timers : t.timers = s.timers := by obtain ⟨_, _, _, rfl⟩ := h; rfl
theorem inputs : t.inputs = s.inputs := by obtain ⟨_, _, _, rfl⟩ := h; rfl
theorem gate : t.gate = s.gate := by obtain ⟨_, _, _, rfl⟩ := h; rfl
theorem link : t.link = s.link := by obtain ⟨_, _, _, rfl⟩ := h; rfl
theorem store : t.store = s.store := by obtain ⟨_, _, _, rfl⟩ := h; rfl
theorem draw : t.draw = s.draw := by obtain ⟨_, _, _, rfl⟩ := h; rfl
theorem pending : t.pending = s.pending := by obtain ⟨_, _, _, rfl⟩ := h; rfl

end RecordFrame

/-- `t` differs from `s` at most in the rules, the queues, the record number, the timers, the inputs, the alert controller and
the draw. -/
def EventFrame (s t : State) : Prop :=
  ∃ (a : Vector Rule 24) (q : Vector Queue 4) (k : Nat) (b : Vector Timer 8) (c : Vector EventInput 2) (l : Alert) (d : Nat),
    t = { s with rules := a, queues := q, nextSerial := k, timers := b, inputs := c, alert := l, draw := d }

namespace EventFrame

theorem refl (s : State) : EventFrame s s := ⟨_, _, _, _, _, _, _, rfl⟩

theorem trans {s t u : State} (h : EventFrame s t) (h' : EventFrame t u) : EventFrame s u := by
  obtain ⟨_, _, _, _, _, _, _, rfl⟩ := h
  obtain ⟨_, _, _, _, _, _, _, rfl⟩ := h'
  exact ⟨_, _, _, _, _, _, _, rfl⟩

variable {s t : State} (h : EventFrame s t)
include h

theorem powered : t.powered = s.powered := by obtain ⟨_, _, _, _, _, _, _, rfl⟩ := h; rfl
theorem pins : t.pins = s.pins := by obtain ⟨_, _, _, _, _, _, _, rfl⟩ := h; rfl
theorem path : t.path = s.path := by obtain ⟨_, _, _, _, _, _, _, rfl⟩ := h; rfl
theorem defaultActions : t.defaultActions = s.defaultActions := by obtain ⟨_, _, _, _, _, _, _, rfl⟩ := h; rfl
theorem unmatched : t.unmatched = s.unmatched := by obtain ⟨_, _, _, _, _, _, _, rfl⟩ := h; rfl
theorem copy : t.copy = s.copy := by obtain ⟨_, _, _, _, _, _, _, rfl⟩ := h; rfl
theorem timebase : t.timebase = s.timebase := by obtain ⟨_, _, _, _, _, _, _, rfl⟩ := h; rfl
theorem gate : t.gate = s.gate := by obtain ⟨_, _, _, _, _, _, _, rfl⟩ := h; rfl
theorem link : t.link = s.link := by obtain ⟨_, _, _, _, _, _, _, rfl⟩ := h; rfl
theorem store : t.store = s.store := by obtain ⟨_, _, _, _, _, _, _, rfl⟩ := h; rfl
theorem pending : t.pending = s.pending := by obtain ⟨_, _, _, _, _, _, _, rfl⟩ := h; rfl

end EventFrame

/-- `t` differs from `s` at most as an event leaves it, and in the gate. -/
def TickFrame (s t : State) : Prop :=
  ∃ (a : Vector Rule 24) (q : Vector Queue 4) (k : Nat) (b : Vector Timer 8) (c : Vector EventInput 2) (l : Alert) (d : Nat) (g : Gate),
    t = { s with rules := a, queues := q, nextSerial := k, timers := b, inputs := c, alert := l, draw := d, gate := g }

namespace TickFrame

theorem refl (s : State) : TickFrame s s := ⟨_, _, _, _, _, _, _, _, rfl⟩

theorem trans {s t u : State} (h : TickFrame s t) (h' : TickFrame t u) : TickFrame s u := by
  obtain ⟨_, _, _, _, _, _, _, _, rfl⟩ := h
  obtain ⟨_, _, _, _, _, _, _, _, rfl⟩ := h'
  exact ⟨_, _, _, _, _, _, _, _, rfl⟩

variable {s t : State} (h : TickFrame s t)
include h

theorem powered : t.powered = s.powered := by obtain ⟨_, _, _, _, _, _, _, _, rfl⟩ := h; rfl
theorem pins : t.pins = s.pins := by obtain ⟨_, _, _, _, _, _, _, _, rfl⟩ := h; rfl
theorem path : t.path = s.path := by obtain ⟨_, _, _, _, _, _, _, _, rfl⟩ := h; rfl
theorem defaultActions : t.defaultActions = s.defaultActions := by obtain ⟨_, _, _, _, _, _, _, _, rfl⟩ := h; rfl
theorem unmatched : t.unmatched = s.unmatched := by obtain ⟨_, _, _, _, _, _, _, _, rfl⟩ := h; rfl
theorem copy : t.copy = s.copy := by obtain ⟨_, _, _, _, _, _, _, _, rfl⟩ := h; rfl
theorem timebase : t.timebase = s.timebase := by obtain ⟨_, _, _, _, _, _, _, _, rfl⟩ := h; rfl
theorem link : t.link = s.link := by obtain ⟨_, _, _, _, _, _, _, _, rfl⟩ := h; rfl
theorem store : t.store = s.store := by obtain ⟨_, _, _, _, _, _, _, _, rfl⟩ := h; rfl
theorem pending : t.pending = s.pending := by obtain ⟨_, _, _, _, _, _, _, _, rfl⟩ := h; rfl

end TickFrame

/-- `t` differs from `s` at most as a tick leaves it, and in the timebase and the pins. -/
def MomentFrame (s t : State) : Prop :=
  ∃ (a : Vector Rule 24) (q : Vector Queue 4) (k : Nat) (b : Vector Timer 8) (c : Vector EventInput 2) (l : Alert) (d : Nat) (g : Gate)
    (y : Timebase) (p : Pins),
    t = { s with
      rules := a, queues := q, nextSerial := k, timers := b, inputs := c, alert := l, draw := d, gate := g, timebase := y
      pins := p }

namespace MomentFrame

theorem refl (s : State) : MomentFrame s s := ⟨_, _, _, _, _, _, _, _, _, _, rfl⟩

theorem trans {s t u : State} (h : MomentFrame s t) (h' : MomentFrame t u) : MomentFrame s u := by
  obtain ⟨_, _, _, _, _, _, _, _, _, _, rfl⟩ := h
  obtain ⟨_, _, _, _, _, _, _, _, _, _, rfl⟩ := h'
  exact ⟨_, _, _, _, _, _, _, _, _, _, rfl⟩

variable {s t : State} (h : MomentFrame s t)
include h

theorem powered : t.powered = s.powered := by obtain ⟨_, _, _, _, _, _, _, _, _, _, rfl⟩ := h; rfl
theorem path : t.path = s.path := by obtain ⟨_, _, _, _, _, _, _, _, _, _, rfl⟩ := h; rfl
theorem defaultActions : t.defaultActions = s.defaultActions := by obtain ⟨_, _, _, _, _, _, _, _, _, _, rfl⟩ := h; rfl
theorem unmatched : t.unmatched = s.unmatched := by obtain ⟨_, _, _, _, _, _, _, _, _, _, rfl⟩ := h; rfl
theorem copy : t.copy = s.copy := by obtain ⟨_, _, _, _, _, _, _, _, _, _, rfl⟩ := h; rfl
theorem link : t.link = s.link := by obtain ⟨_, _, _, _, _, _, _, _, _, _, rfl⟩ := h; rfl
theorem store : t.store = s.store := by obtain ⟨_, _, _, _, _, _, _, _, _, _, rfl⟩ := h; rfl
theorem pending : t.pending = s.pending := by obtain ⟨_, _, _, _, _, _, _, _, _, _, rfl⟩ := h; rfl

end MomentFrame

theorem TickFrame.moment {s t : State} (h : TickFrame s t) : MomentFrame s t := by
  obtain ⟨_, _, _, _, _, _, _, _, rfl⟩ := h
  exact ⟨_, _, _, _, _, _, _, _, _, _, rfl⟩

theorem RecordFrame.event {s t : State} (h : RecordFrame s t) : EventFrame s t := by
  obtain ⟨_, _, _, rfl⟩ := h
  exact ⟨_, _, _, _, _, _, _, rfl⟩

theorem EventFrame.tick {s t : State} (h : EventFrame s t) : TickFrame s t := by
  obtain ⟨_, _, _, _, _, _, _, rfl⟩ := h
  exact ⟨_, _, _, _, _, _, _, _, rfl⟩

/-- A list of operations that each keep a frame keeps it. -/
theorem foldl_frame {α : Type} {R : State → State → Prop} (refl : ∀ s, R s s)
    (trans : ∀ {s t u}, R s t → R t u → R s u) {f : State → α → State} (hf : ∀ s x, R s (f s x)) (l : List α)
    (s : State) : R s (l.foldl f s) := by
  induction l generalizing s with
  | nil => exact refl s
  | cons x xs ih => exact trans (hf s x) (ih _)

/-- Things raced keep a frame that each of them keeps, if the frame does not fix the draw. -/
theorem race_frame {α : Type} {R : State → State → Prop} (refl : ∀ s, R s s)
    (trans : ∀ {s t u}, R s t → R t u → R s u) (hd : ∀ s : State, R s { s with draw := s.draw + 1 })
    {f : α → State → State} (hf : ∀ x s, R s (f x s)) (parts : List α) (s : State) : R s (race parts f s) :=
  trans (hd s) (foldl_frame refl trans (fun s x => hf x s) _ _)

/-! ### Records -/

theorem setQueue_frame (s : State) (n : Fin 4) (x : Queue) : RecordFrame s (s.setQueue n x) := ⟨_, _, _, rfl⟩
theorem setFlag_frame (s : State) (g : Flag) : RecordFrame s (s.setFlag g) := ⟨_, _, _, rfl⟩
theorem append_frame (s : State) (w : Word) (n : Fin 4) (b : RecordBody) : RecordFrame s (s.append w n b) := ⟨_, _, _, rfl⟩
theorem dropOldest_frame (s : State) (n : Fin 4) : RecordFrame s (s.dropOldest n) := ⟨_, _, _, rfl⟩
theorem loseIn_frame (s : State) (n : Fin 4) : RecordFrame s (s.loseIn n) :=
  (setQueue_frame s n _).trans (setFlag_frame _ _)

theorem placeAt_frame (s : State) (w : Word) (n : Fin 4) (b : RecordBody) : RecordFrame s (s.placeAt w n b).1 := by
  unfold placeAt
  split
  · exact append_frame s w n b
  · exact ((dropOldest_frame s n).trans (loseIn_frame _ n)).trans (append_frame _ w n b)
  · exact loseIn_frame s n

theorem judgeNotify_frame (s : State) (n : Fin 4) (k : Nat) : RecordFrame s (s.judgeNotify n k) := by
  unfold judgeNotify
  dsimp only
  split
  · exact setFlag_frame s _
  · exact .refl s

theorem offer_frame (s : State) (n : Fin 4) (b : RecordBody) : RecordFrame s (s.offer n b) :=
  (placeAt_frame s _ n b).trans (judgeNotify_frame _ n _)

theorem offerTo_frame (s : State) (q : Option (Fin 4)) (b : RecordBody) : RecordFrame s (s.offerTo q b) := by
  cases q with
  | none => exact .refl s
  | some n => exact offer_frame s n b

theorem mapQueues_frame (s : State) (f : Fin 4 → Queue → Queue) : RecordFrame s (s.mapQueues f) := ⟨_, _, _, rfl⟩

theorem completeAll_frame (s : State) (before : Vector Nat 4) (o : TxnOutcome) (d : Option Word) :
    RecordFrame s (s.completeAll before o d) :=
  (mapQueues_frame s _).trans (foldl_frame .refl .trans (fun s n => judgeNotify_frame s n _) _ _)

theorem placeAll_frame (t : Txn) (before : Option Word) (w : Word) (vs : List Reservation) (p : State × Bool) :
    RecordFrame p.1 (placeAll t before w vs p).1 := by
  induction vs generalizing p with
  | nil => exact .refl _
  | cons v vs ih => exact (placeAt_frame p.1 w v.queue _).trans (ih _)

/-- The gate's consultation counts a write that it answers, and touches nothing else. -/
theorem consulted_frame (v : Verdict) (s : State) : TickFrame s (s.consulted v) := by
  unfold consulted
  split
  · exact ⟨_, _, _, _, _, _, _, _, rfl⟩
  · exact .refl s

/-- A placement touches records, and the gate as its consultation leaves it. -/
theorem reserve_consulted (t : Txn) (before : Option Word) (sub : Bool) (a : Action) (d : Word) (vs : List Reservation)
    (k : Nat) (w : Word) (s : State) :
    ∃ u, RecordFrame s u ∧ (s.reserve t before sub a d vs k w).1 = u.consulted (s.reserve t before sub a d vs k w).2 := by
  have h := placeAll_frame t before (s.accessStamp k w vs) vs (s, false)
  unfold reserve
  dsimp only
  split <;> rename_i hv
  · exact ⟨_, h, by rw [hv]; rfl⟩
  · exact ⟨_, h.trans (completeAll_frame _ _ _ _), rfl⟩

theorem reserve_frame (t : Txn) (before : Option Word) (sub : Bool) (a : Action) (d : Word) (vs : List Reservation)
    (k : Nat) (w : Word) (s : State) : TickFrame s (s.reserve t before sub a d vs k w).1 := by
  obtain ⟨u, h, e⟩ := reserve_consulted t before sub a d vs k w s
  rw [e]
  exact h.event.tick.trans (consulted_frame _ u)

/-- The end of a command touches the alert controller at most. -/
theorem endCommand_frame (s t : State) : RecordFrame t (s.endCommand t) := ⟨_, _, _, rfl⟩

/-! ### Events -/

/-- An effect in either order with ALC's tap tick touches what the effect touches, and what events touch. -/
theorem inTickOrder_frame {R : State → State → Prop} (trans : ∀ {s t u}, R s t → R t u → R s u)
    (event : ∀ {s t}, EventFrame s t → R s t) {f : State → State} (hf : ∀ s, R s (f s)) (s : State) :
    R s (s.inTickOrder f) :=
  trans (trans (event ⟨_, _, _, _, _, _, _, rfl⟩) (hf _)) (event (endCommand_frame _ _).event)

theorem setRule_frame (s : State) (r : Fin 24) (x : Rule) : EventFrame s (s.setRule r x) :=
  ⟨_, _, _, _, _, _, _, rfl⟩
theorem setTimer_frame (s : State) (t : Fin 8) (x : Timer) : EventFrame s (s.setTimer t x) :=
  ⟨_, _, _, _, _, _, _, rfl⟩
theorem setInput_frame (s : State) (e : Fin 2) (x : EventInput) : EventFrame s (s.setInput e x) :=
  ⟨_, _, _, _, _, _, _, rfl⟩
theorem mapRules_frame (s : State) (f : Fin 24 → Rule → Rule) : EventFrame s (s.mapRules f) :=
  ⟨_, _, _, _, _, _, _, rfl⟩
theorem draw_frame (s : State) : EventFrame s { s with draw := s.draw + 1 } := ⟨_, _, _, _, _, _, _, rfl⟩

theorem armFrom_frame (src : ArmSource) (s : State) : EventFrame s (s.armFrom src) := mapRules_frame s _
theorem disarmFrom_frame (src : DisarmSource) (s : State) : EventFrame s (s.disarmFrom src) := mapRules_frame s _
theorem resetWindowsOf_frame (t : Fin 8) (s : State) : EventFrame s (s.resetWindowsOf t) := mapRules_frame s _

theorem expire_frame (t : Fin 8) (s : State) : EventFrame s (s.expire t) := by
  unfold expire
  refine .trans ?_ (resetWindowsOf_frame _ _)
  refine .trans ?_ (disarmFrom_frame _ _)
  refine .trans ?_ (armFrom_frame _ _)
  exact ((setTimer_frame s t _).trans (setFlag_frame _ _).event).trans (offerTo_frame _ _ _).event

theorem triggerTimer_frame (t : Fin 8) (s : State) : EventFrame s (s.triggerTimer t) :=
  (setTimer_frame s t _).trans (offerTo_frame _ _ _).event

/-- An event touches what an event frame names, and what the things named to fall among its parts touch. -/
theorem effectiveEvent_keeps {R : State → State → Prop} (refl : ∀ s, R s s) (trans : ∀ {s t u}, R s t → R t u → R s u)
    (event : ∀ {s t}, EventFrame s t → R s t) {k : EventMeetings} (hk : ∀ m s, R s (k.take m s)) (e : Fin 2) (s : State) :
    R s (s.effectiveEvent k e) := by
  have part : ∀ (p : EventPart) (s : State), R s (s.applyEventPart k e p) := fun p s => by
    cases p with
    | record c l => exact event ((setInput_frame s e _).trans (offerTo_frame _ _ _).event)
    | trigger t => exact event (triggerTimer_frame t s)
    | meet m => exact hk m s
  unfold effectiveEvent
  refine trans ?_ (event ((armFrom_frame _ _).trans (disarmFrom_frame _ _)))
  refine trans (event ?_) (race_frame refl trans (fun s => event (draw_frame s)) part _ _)
  exact ((setInput_frame s e _).trans (setFlag_frame _ _).event).trans
    (foldl_frame .refl .trans (fun s t => triggerTimer_frame t s) _ _)

/-- The same of a move of the sampler, whether it brings an event or not. -/
theorem moveSampler_keeps {R : State → State → Prop} (refl : ∀ s, R s s) (trans : ∀ {s t u}, R s t → R t u → R s u)
    (event : ∀ {s t}, EventFrame s t → R s t) {k : EventMeetings} (hk : ∀ m s, R s (k.take m s)) (e : Fin 2)
    (m m' : Sampler) (s : State) : R s (s.moveSampler k e m m') := by
  unfold moveSampler inputEvent
  dsimp only
  split
  · split
    · exact trans (event ((setInput_frame s e _).trans (setInput_frame _ e _))) (effectiveEvent_keeps refl trans event hk e _)
    · exact event ((setInput_frame s e _).trans (setInput_frame _ e _))
  · exact event (setInput_frame s e _)

theorem moveSampler_frame (e : Fin 2) (m m' : Sampler) (s : State) : EventFrame s (s.moveSampler .none e m m') :=
  moveSampler_keeps .refl .trans id (fun _ s => .refl s) e m m' s

theorem sampleInput_frame (e : Fin 2) (s : State) : EventFrame s (s.sampleInput e) := by
  unfold sampleInput
  split
  · exact moveSampler_frame e _ _ s
  · exact .refl s

/-- A change of a pin touches the pin and what its event touches. -/
theorem changePin_frame {k : EventMeetings} (hk : ∀ m s, MomentFrame s (k.take m s)) (e : Fin 2) (b : Bool) (s : State) :
    MomentFrame s (s.changePin k e b) := by
  have pin : MomentFrame s (s.setEvPin e b) := ⟨_, _, _, _, _, _, _, _, _, _, rfl⟩
  have follow : ∀ s : State, MomentFrame s (s.followPin k e b) := fun s => by
    unfold followPin
    split
    · exact moveSampler_keeps .refl .trans (fun h => h.tick.moment) hk e _ _ s
    · exact .refl s
  unfold changePin
  split
  · exact .refl s
  · refine .trans (.trans pin ?_) (endCommand_frame _ _).event.tick.moment
    unfold onPower
    split
    · exact follow _
    · exact .refl _

theorem timerExpires_frame (t : Fin 8) (s : State) : EventFrame s (s.timerExpires t) := by
  unfold timerExpires
  dsimp only
  split
  · exact inTickOrder_frame .trans id (expire_frame t) s
  · exact .refl s

theorem measureOverdue_frame (t : Fin 8) (s : State) : EventFrame s (s.measureOverdue t) := by
  unfold measureOverdue
  dsimp only
  split
  · exact inTickOrder_frame .trans id (expire_frame t) s
  · exact .refl s

/-! ### Decisions -/

theorem hitRule_frame (s : State) (r : Fin 24) : EventFrame s (s.hitRule r) := by
  have h1 := setRule_frame s r (s.rule r).hit
  unfold hitRule
  dsimp only
  split <;> split
  · exact (h1.trans (setFlag_frame _ _).event).trans (setFlag_frame _ _).event
  · exact h1.trans (setFlag_frame _ _).event
  · exact h1.trans (setFlag_frame _ _).event
  · exact h1

theorem afterDecision_frame (c : Changes) (s : State) : EventFrame s (s.afterDecision c) :=
  (foldl_frame .refl .trans (fun s r => setRule_frame s r _) _ _).trans
    (foldl_frame .refl .trans (fun s _ => armFrom_frame _ s) _ _)

/-! ### The gate and ticks -/

theorem gate_frame (s : State) (g : Gate) : TickFrame s { s with gate := g } := ⟨_, _, _, _, _, _, _, _, rfl⟩

theorem gateEnterClosed_frame (s : State) : TickFrame s s.gateEnterClosed :=
  ((gate_frame s _).trans (setFlag_frame _ _).event.tick).trans (offerTo_frame _ _ _).event.tick

theorem gateEnterOpen_frame (s : State) : TickFrame s s.gateEnterOpen :=
  (gate_frame s _).trans (offerTo_frame _ _ _).event.tick

theorem gateLeaveClosed_frame (s : State) : TickFrame s s.gateLeaveClosed := by
  unfold gateLeaveClosed
  split
  · split
    · exact gate_frame s _
    · exact gateEnterOpen_frame s
  · exact .refl s

theorem gateCauseArrival_frame (s : State) : TickFrame s s.gateCauseArrival := by
  unfold gateCauseArrival
  split
  · split
    · exact gate_frame s _
    · exact gateEnterClosed_frame s
  · exact gate_frame s _
  · exact .refl s

theorem gateEndDrain_frame (s : State) : TickFrame s s.gateEndDrain := by
  unfold gateEndDrain
  split
  · exact (gateEnterClosed_frame s).trans (gateLeaveClosed_frame _)
  · exact .refl s

theorem gateEndHoldOff_frame (s : State) : TickFrame s s.gateEndHoldOff := by
  unfold gateEndHoldOff
  split
  · exact inTickOrder_frame .trans EventFrame.tick gateEnterOpen_frame s
  · exact .refl s

theorem alert_frame (s : State) (a : Alert) : RecordFrame s { s with alert := a } := ⟨_, _, _, rfl⟩

theorem takeOwed_frame (p : OwedPart) (s : State) : TickFrame s (s.takeOwed p) := by
  unfold takeOwed
  cases p <;> dsimp only <;> split
  · exact (expire_frame _ s).tick
  · exact .refl s
  · exact gateEnterOpen_frame s
  · exact .refl s
  · exact (alert_frame s _).event.tick
  · exact .refl s

theorem settleOwed_frame (s : State) : TickFrame s s.settleOwed := by
  unfold settleOwed
  split
  · exact .refl s
  · exact ((race_frame .refl .trans (fun s => (draw_frame s).tick)
      (fun p s => inTickOrder_frame .trans EventFrame.tick (takeOwed_frame p) s) _ _).trans (takeOwed_frame _ _)).trans
        (endCommand_frame _ _).event.tick

theorem applyTickPart_frame (b : Bool) (p : TickPart) (s : State) : TickFrame s (s.applyTickPart b p) := by
  unfold applyTickPart
  cases p with
  | sample e => exact (sampleInput_frame e s).tick
  | timer t =>
    dsimp only
    split
    · exact (setTimer_frame s t _).tick.trans (takeOwed_frame _ _)
    · exact (setTimer_frame s t _).tick
  | gate =>
    dsimp only
    split
    · exact (gate_frame s _).trans (takeOwed_frame _ _)
    · exact gate_frame s _
  | alert =>
    dsimp only
    split <;> split
    · exact ((alert_frame s _).event.tick.trans (takeOwed_frame _ _)).trans (alert_frame _ _).event.tick
    · exact (takeOwed_frame _ _).trans (alert_frame _ _).event.tick
    · exact (alert_frame s _).event.tick
    · exact .refl s

theorem takeTickParts_frame (l : List TickPart) (s : State) : TickFrame s (takeTickParts l s) := by
  induction l generalizing s with
  | nil => exact .refl s
  | cons p ps ih => exact (applyTickPart_frame _ p s).trans (ih _)

theorem handOutTick_frame (s : State) : TickFrame s s.handOutTick := by
  unfold handOutTick
  split
  · exact takeTickParts_frame _ s
  · exact (draw_frame s).tick.trans (takeTickParts_frame _ _)

/-! ### What falls among the things of one command -/

theorem timebase_frame (s : State) (b : Timebase) : MomentFrame s { s with timebase := b } :=
  ⟨_, _, _, _, _, _, _, _, _, _, rfl⟩

theorem takeTick_frame (s : State) : MomentFrame s s.takeTick :=
  ((((settleOwed_frame s).moment.trans (timebase_frame _ _)).trans (alert_frame _ _).event.tick.moment).trans
    (handOutTick_frame _).moment).trans (endCommand_frame _ _).event.tick.moment

theorem takeMeeting_frame (m : Meeting) (s : State) : MomentFrame s (s.takeMeeting m) := by
  have power : ∀ {f : State → State}, (∀ s, MomentFrame s (f s)) → ∀ s : State, MomentFrame s (s.onPower f) :=
    fun hf s => by
      unfold onPower
      split
      · exact hf s
      · exact .refl s
  unfold takeMeeting
  refine .trans (alert_frame s (s.alert.commandEnds .unplaced)).event.tick.moment ?_
  cases m with
  | tick =>
    refine power (fun s => ?_) _
    unfold tickIfRunning
    split
    · exact takeTick_frame s
    · exact .refl s
  | expiry t => exact power (fun s => (timerExpires_frame t s).tick.moment) _
  | overdue t => exact power (fun s => (measureOverdue_frame t s).tick.moment) _
  | holdOffEnd => exact power (fun s => (gateEndHoldOff_frame s).moment) _
  | pin e level => exact changePin_frame (fun _ s => .refl s) e level _

/-- The parts of a decision touch what events touch, and what the things named to fall among them touch. -/
theorem takeDecisionParts_keeps {R : State → State → Prop} (refl : ∀ s, R s s)
    (trans : ∀ {s t u}, R s t → R t u → R s u) (event : ∀ {s t}, EventFrame s t → R s t)
    {reserve : State → State × Verdict} (hr : ∀ s, R s (reserve s).1) (l : List DecisionPart)
    (hm : ∀ m, .meet m ∈ l → ∀ s : State, R s (s.takeMeeting m)) (q : State × Verdict) :
    R q.1 (takeDecisionParts reserve l q).1 := by
  induction l generalizing q with
  | nil => exact refl _
  | cons p ps ih =>
    refine trans ?_ (ih (fun m h => hm m (List.mem_cons_of_mem _ h)) _)
    cases p with
    | reserve => exact hr q.1
    | trigger c => exact event (triggerTimer_frame c q.1)
    | read => exact refl _
    | meet m => exact hm m List.mem_cons_self q.1

/-- The parts of a decision that nothing is named to meet hold no meeting. -/
theorem not_mem_decisionParts_nil (s : State) (ts : List (Fin 8)) (m : Meeting) : .meet m ∉ s.decisionParts [] ts := by
  simp [decisionParts]

/-- A decision touches what a tick touches, and what the things that fall inside it touch: no port, no link. -/
theorem decision_keeps {R : State → State → Prop} (refl : ∀ s, R s s) (trans : ∀ {s t u}, R s t → R t u → R s u)
    (tick : ∀ {s t}, TickFrame s t → R s t) (t : Txn) (before : Option Word) (sub : Bool) (s : State)
    (hm : ∀ m, insideOf t.between ≠ [] → ∀ s : State, R s (s.takeMeeting m)) : R s (s.decision t before sub).state := by
  unfold decision
  dsimp only
  refine trans (tick (((foldl_frame .refl .trans hitRule_frame _ s).trans
    (foldl_frame .refl .trans (fun s t => triggerTimer_frame t s) _ _)).trans (draw_frame _)).tick)
    (takeDecisionParts_keeps (q := (_, Verdict.forward)) refl trans (fun h => tick h.tick)
      (fun s => tick (reserve_frame t before sub _ _ _ _ _ s)) _ (fun m h => hm m ?_))
  intro none
  rw [mem_orderParts] at h
  revert h
  rw [none]
  simp [not_mem_decisionParts_nil]

/-- A decision that nothing falls inside touches what a tick touches, and nothing else: no port, no pin, no link. -/
theorem decision_frame (t : Txn) (before : Option Word) (sub : Bool) (s : State) (h : insideOf t.between = []) :
    TickFrame s (s.decision t before sub).state :=
  decision_keeps .refl .trans id t before sub s fun _ h' => absurd h h'

/-- Whatever falls inside it, a decision leaves the path, the link and the store. -/
theorem decision_momentFrame (t : Txn) (before : Option Word) (sub : Bool) (s : State) :
    MomentFrame s (s.decision t before sub).state :=
  decision_keeps .refl .trans TickFrame.moment t before sub s fun m _ => takeMeeting_frame m

/-- Triggers and the reading leave the gate and the verdict. -/
theorem takeDecisionParts_quiet (reserve : State → State × Verdict) (l : List DecisionPart) (hr : .reserve ∉ l)
    (hm : ∀ m, .meet m ∉ l) (q : State × Verdict) :
    (takeDecisionParts reserve l q).1.gate = q.1.gate ∧ (takeDecisionParts reserve l q).2 = q.2 := by
  induction l generalizing q with
  | nil => exact ⟨rfl, rfl⟩
  | cons p ps ih =>
    have rest := ih (fun h => hr (List.mem_cons_of_mem _ h)) (fun m h => hm m (List.mem_cons_of_mem _ h))
    cases p with
    | reserve => exact absurd List.mem_cons_self hr
    | trigger c => exact ⟨(rest _).1.trans (triggerTimer_frame c q.1).gate, (rest _).2⟩
    | read => exact rest q
    | meet m => exact absurd List.mem_cons_self (hm m)

/-- The gate's consultation looks at the gate alone. -/
theorem consulted_gate_congr (v : Verdict) {s u : State} (h : s.gate = u.gate) :
    (s.consulted v).gate = (u.consulted v).gate := by
  unfold consulted
  split
  · rw [countRefused_gate, countRefused_gate, h]
  · exact h

theorem reserve_gate (t : Txn) (before : Option Word) (sub : Bool) (a : Action) (d : Word) (vs : List Reservation)
    (k : Nat) (w : Word) (s : State) :
    (s.reserve t before sub a d vs k w).1.gate = (s.consulted (s.reserve t before sub a d vs k w).2).gate := by
  obtain ⟨u, h, e⟩ := reserve_consulted t before sub a d vs k w s
  rw [e]
  exact consulted_gate_congr _ h.gate

/-- One placement among triggers and the reading: the gate is left as its consultation leaves it. -/
theorem takeDecisionParts_gate {reserve : State → State × Verdict}
    (hr : ∀ s, (reserve s).1.gate = (s.consulted (reserve s).2).gate) {l : List DecisionPart} {ts : List (Fin 8)}
    (hl : l.Perm (.reserve :: ts.map .trigger)) (q : State × Verdict) :
    (takeDecisionParts reserve l q).1.gate = (q.1.consulted (takeDecisionParts reserve l q).2).gate := by
  obtain ⟨l₁, l₂, rfl⟩ := List.append_of_mem (hl.mem_iff.mpr List.mem_cons_self)
  have hp : (l₁ ++ l₂).Perm (ts.map .trigger) := (List.perm_middle.symm.trans hl).cons_inv
  have quiet : ∀ p ∈ l₁ ++ l₂, p ≠ .reserve ∧ ∀ m, p ≠ .meet m := fun p h => by
    obtain ⟨c, -, rfl⟩ := List.mem_map.mp (hp.mem_iff.mp h)
    exact ⟨nofun, nofun⟩
  have h₁ := takeDecisionParts_quiet reserve l₁ (fun h => (quiet _ (List.mem_append_left _ h)).1 rfl)
    (fun m h => (quiet _ (List.mem_append_left _ h)).2 m rfl) q
  have h₂ := takeDecisionParts_quiet reserve l₂ (fun h => (quiet _ (List.mem_append_right _ h)).1 rfl)
    (fun m h => (quiet _ (List.mem_append_right _ h)).2 m rfl) (reserve (takeDecisionParts reserve l₁ q).1)
  have split : takeDecisionParts reserve (l₁ ++ .reserve :: l₂) q =
      takeDecisionParts reserve l₂ (reserve (takeDecisionParts reserve l₁ q).1) := by
    simp only [takeDecisionParts, List.foldl_append, List.foldl_cons]
  rw [split, h₂.1, h₂.2, hr]
  exact consulted_gate_congr _ h₁.1

/-- A decision that nothing falls inside leaves the gate as its consultation does: a write ended GATED is counted (R160). -/
theorem decision_gate (t : Txn) (before : Option Word) (sub : Bool) (s : State) (h : insideOf t.between = []) :
    (s.decision t before sub).state.gate = (s.consulted (s.decision t before sub).verdict).gate := by
  unfold decision
  simp only [h, ite_self, List.isEmpty_nil, if_true]
  refine (takeDecisionParts_gate (reserve_gate t before sub _ _ _ _ _) (orderParts_perm _ _ _) _).trans
    (consulted_gate_congr _ ?_)
  exact (((foldl_frame .refl .trans hitRule_frame _ s).trans
    (foldl_frame .refl .trans (fun s t => triggerTimer_frame t s) _ _)).trans (draw_frame _)).gate

theorem decideTxn_frame (t : Txn) (before : Option Word) (sub : Bool) (s : State) :
    TickFrame s (s.decideTxn t before sub).1 :=
  (decision_frame _ before sub s rfl).trans (afterDecision_frame _ _).tick

end Sys2Proof.Machine.State
end

