-- ==== Sys2Proof/Laws/Deciding.lean ====
section
/-! SUPPORT. Laws of the end of a command, of what falls between a decision and its changes, of the end of a forward, and of the
step on an empty queue. -/

namespace Sys2Proof.Machine.State

/-! ### The end of a command -/

@[simp] theorem endCommand_powered (s t : State) : (s.endCommand t).powered = t.powered := rfl
@[simp] theorem endCommand_pins (s t : State) : (s.endCommand t).pins = t.pins := rfl
@[simp] theorem endCommand_path (s t : State) : (s.endCommand t).path = t.path := rfl
@[simp] theorem endCommand_defaultActions (s t : State) : (s.endCommand t).defaultActions = t.defaultActions := rfl
@[simp] theorem endCommand_unmatched (s t : State) : (s.endCommand t).unmatched = t.unmatched := rfl
@[simp] theorem endCommand_rules (s t : State) : (s.endCommand t).rules = t.rules := rfl
@[simp] theorem endCommand_queues (s t : State) : (s.endCommand t).queues = t.queues := rfl
@[simp] theorem endCommand_copy (s t : State) : (s.endCommand t).copy = t.copy := rfl
@[simp] theorem endCommand_nextSerial (s t : State) : (s.endCommand t).nextSerial = t.nextSerial := rfl
@[simp] theorem endCommand_timebase (s t : State) : (s.endCommand t).timebase = t.timebase := rfl
@[simp] theorem endCommand_timers (s t : State) : (s.endCommand t).timers = t.timers := rfl
@[simp] theorem endCommand_inputs (s t : State) : (s.endCommand t).inputs = t.inputs := rfl
@[simp] theorem endCommand_gate (s t : State) : (s.endCommand t).gate = t.gate := rfl
@[simp] theorem endCommand_link (s t : State) : (s.endCommand t).link = t.link := rfl
@[simp] theorem endCommand_store (s t : State) : (s.endCommand t).store = t.store := rfl
@[simp] theorem endCommand_draw (s t : State) : (s.endCommand t).draw = t.draw := rfl
@[simp] theorem endCommand_pending (s t : State) : (s.endCommand t).pending = t.pending := rfl
@[simp] theorem endCommand_alert (s t : State) :
    (s.endCommand t).alert = t.alert.commandEnds s.alert.lastTick := rfl

/-- The end of a command moves the place of the last tick, and nothing else of the alert controller. -/
theorem commandEnds_frame (start : LastTick) (a : Alert) : ∃ p, a.commandEnds start = { a with lastTick := p } := by
  unfold Alert.commandEnds
  split
  · exact ⟨a.lastTick, rfl⟩
  · split
    · exact ⟨_, rfl⟩
    · exact ⟨_, rfl⟩
    · exact ⟨_, rfl⟩
    · exact ⟨a.lastTick, rfl⟩
    · exact ⟨a.lastTick, rfl⟩

@[simp] theorem endCommand_flagSet (s t : State) (f : Flag) :
    (s.endCommand t).alert.flagSet f = t.alert.flagSet f := by
  obtain ⟨p, h⟩ := commandEnds_frame s.alert.lastTick t.alert
  rw [endCommand_alert, h]
  rfl

/-- Once the last tick has been taken, a pulse start has the full width (R105, R170; log 14). -/
theorem startPulse_of_taken {a : Alert} (tapCount : BitVec 16) (h : a.lastTick = .taken) :
    a.startPulse tapCount = { a with
      pulse := Alert.widthOf a.config, pulseTap := Alert.tapCode a.config, line := true, tickOwed := false } := by
  simp [Alert.startPulse, Alert.tickFollows, h]

/-- No tap tick of the pulse is owed any more when the next tick comes (R105, R170; log 14). -/
theorem settleOwed_alert_tickOwed (s : State) : s.settleOwed.alert.tickOwed = false := by
  have taken : ∀ t : State, (t.takeOwed .alert).alert.tickOwed = false := fun t => by
    dsimp only [State.takeOwed]
    split
    · rfl
    · exact Bool.eq_false_iff.mpr ‹_›
  obtain ⟨p, h⟩ := commandEnds_frame s.alert.lastTick
    ((race s.owedParts (fun p => State.inTickOrder (State.takeOwed p)) s).takeOwed .alert).alert
  rw [State.settleOwed]
  split
  · rename_i none
    by_contra owed
    simp [State.owedParts, owed] at none
  · rw [endCommand_alert, h]
    exact taken _

/-- With nothing owed from the last tick there is nothing to settle. -/
theorem settleOwed_of_none {s : State} (h : s.owedParts = []) : s.settleOwed = s := by
  simp [State.settleOwed, h]

/-- A command begun with the last tick `unplaced` or `taken` leaves it so. -/
theorem endCommand_settled {s : State} (t : State) (h : s.alert.lastTick = .unplaced ∨ s.alert.lastTick = .taken) :
    (s.endCommand t).alert.lastTick = .unplaced ∨ (s.endCommand t).alert.lastTick = .taken := by
  rw [endCommand_alert]
  unfold Alert.commandEnds
  split
  · rename_i e
    rwa [e]
  · split
    · dsimp only
      split
      · exact .inl rfl
      · exact .inr rfl
    · exact h
    · exact h
    · exact .inl ‹_›
    · exact .inr ‹_›

/-- A command that has left the place of the last tick alone ends in the state it has reached. -/
theorem endCommand_of_eq {s t : State} (h : t.alert.lastTick = s.alert.lastTick) : s.endCommand t = t := by
  unfold endCommand
  rw [Alert.commandEnds, if_pos h]

/-! ### Between a decision and its changes (R20, R45, R149) -/

@[simp] theorem meetAll_nil (s : State) : s.meetAll [] = s := rfl
@[simp] theorem meetAll_cons (b : Between) (bs : List Between) (s : State) :
    s.meetAll (b :: bs) = (s.meet b).meetAll bs := rfl

/-- Without a hit there are no changes, and nothing falls before them. -/
theorem thenChanges_of_noHits {p : State × Changes} (s : State) (h : p.2.hits = []) :
    s.thenChanges p = s.endCommand p.1 := by simp [thenChanges, h]

/-- With a hit the changes find the state that what falls before them has left. -/
theorem thenChanges_of_hits {p : State × Changes} (s : State) (h : p.2.hits ≠ []) :
    s.thenChanges p = ((s.endCommand p.1).meetAll p.2.between).afterDecision p.2 := by simp [thenChanges, h]

@[simp] theorem thenChanges_undecided (s u : State) : s.thenChanges u.undecided = s.endCommand u :=
  thenChanges_of_noHits s rfl

/-- The changes after a decision touch the rules alone. -/
theorem afterDecision_rulesOnly (c : Changes) (s : State) :
    s.afterDecision c = { s with rules := (s.afterDecision c).rules } := by
  have step : ∀ {α : Type} (f : State → α → State) (_ : ∀ s x, ∃ v, f s x = { s with rules := v }) (l : List α)
      (s : State), ∃ v, l.foldl f s = { s with rules := v } := by
    intro α f hf l
    induction l with
    | nil => exact fun s => ⟨s.rules, rfl⟩
    | cons x xs ih =>
      intro s
      obtain ⟨v, hv⟩ := hf s x
      obtain ⟨w, hw⟩ := ih { s with rules := v }
      exact ⟨w, by rw [List.foldl_cons, hv, hw]⟩
  obtain ⟨v, hv⟩ := step (fun s r => s.setRule r (s.rule r).disarm) (fun _ _ => ⟨_, rfl⟩) c.zeroed s
  obtain ⟨w, hw⟩ := step (fun s r => s.armFrom (.rule r.val)) (fun _ _ => ⟨_, rfl⟩) c.hits { s with rules := v }
  have h : s.afterDecision c = { s with rules := w } := by
    unfold afterDecision
    rw [hv]
    exact hw
  rw [h]

/-! ### The end of a forward (R86, R91) -/

/-- The parts touch what a tick touches, and what the things named to fall among them touch. -/
theorem takeEndParts_keeps {R : State → State → Prop} (refl : ∀ s, R s s) (trans : ∀ {s t u}, R s t → R t u → R s u)
    (tick : ∀ {s t}, TickFrame s t → R s t) (t : Txn) (o : TxnOutcome) (d : Option Word) (ps : List EndPart)
    (hm : ∀ m, .meet m ∈ ps → ∀ s : State, R s (s.takeMeeting m)) (s : State) : R s (takeEndParts t o d ps s) := by
  induction ps generalizing s with
  | nil => exact refl s
  | cons p ps ih =>
    have rest : R s (s.applyEndPart t o d p) → R s (takeEndParts t o d ps (s.applyEndPart t o d p)) :=
      fun h => trans h (ih (fun m h => hm m (List.mem_cons_of_mem _ h)) _)
    cases p with
    | complete => exact rest (tick (completeAll_frame s _ o d).event.tick)
    | fault => exact rest (tick (offerTo_frame s _ _).event.tick)
    | meet m => exact rest (hm m List.mem_cons_self s)
    | drain =>
      cases ps with
      | nil => exact refl s
      | cons q qs => exact rest (tick (gateEndDrain_frame s))

/-- The end of a forward leaves the path, the link and the store, whatever falls among its parts. -/
theorem raceEndParts_momentFrame (t : Txn) (o : TxnOutcome) (d : Option Word) (ps : List EndPart) (s : State) :
    MomentFrame s (s.raceEndParts t o d ps) :=
  (draw_frame s).tick.moment.trans
    (takeEndParts_keeps .refl .trans TickFrame.moment t o d _ (fun m _ => takeMeeting_frame m) _)

/-- The end of a forward that nothing meets touches what a tick touches. -/
theorem raceEndParts_frame (t : Txn) (o : TxnOutcome) (d : Option Word) (ps : List EndPart) (s : State)
    (h : ∀ m, .meet m ∉ ps) : TickFrame s (s.raceEndParts t o d ps) :=
  (draw_frame s).tick.trans (takeEndParts_keeps .refl .trans id t o d _
    (fun m hm => absurd ((mem_orderParts _ _ _ _).mp hm) (h m)) _)

/-! ### The step on an empty queue (log 3) -/

/-- The clocks move the tick period, the frame and the draw, and nothing else. -/
theorem idle_frame (s : State) : ∃ (b : Timebase) (f : Frame) (d : Nat),
    s.idle = { s with timebase := b, link := { s.link with frame := f }, draw := d } := by
  have clock : ∀ u : State, ∃ f, u.clockOut = { u with link := { u.link with frame := f } } := by
    intro u
    unfold clockOut
    split
    · exact ⟨_, rfl⟩
    · exact ⟨u.link.frame, rfl⟩
  unfold idle
  split
  · split
    · dsimp only
      split
      · exact ⟨_, s.link.frame, _, rfl⟩
      · obtain ⟨f, hf⟩ := clock { s with draw := s.draw + 1 }
        exact ⟨s.timebase, f, s.draw + 1, hf⟩
    · exact ⟨_, s.link.frame, s.draw, rfl⟩
  · obtain ⟨f, hf⟩ := clock s
    exact ⟨s.timebase, f, s.draw, hf⟩

/-- Without power nothing happens on an empty queue. -/
theorem idle_off {s : State} (h : s.powered = false) : s.idle = s := by
  simp [idle, firstPeriodDue, clockOut, plainWord, h]

end Sys2Proof.Machine.State
end

