-- ==== Sys2Proof/Laws/Link.lean ====
section
/-! SUPPORT. Laws of the service link: what each address names, and how a write word is answered. -/

namespace Sys2Proof.Machine

/-! ### The map (R189) -/

@[simp] theorem targetOf_rule : ∀ r : Fin 24, ∀ off : Fin 8, targetOf (ruleAddr r off.val) = .rule r off := by decide +kernel
@[simp] theorem targetOf_ruleControl (r : Fin 24) : targetOf (ruleAddr r 0) = .rule r 0 := targetOf_rule r 0
@[simp] theorem targetOf_queueConfig : ∀ n : Fin 4, targetOf (queueAddr n 0) = .queue n 0 := by decide +kernel
@[simp] theorem targetOf_queueAction : ∀ n : Fin 4, targetOf (queueAddr n 1) = .queue n 1 := by decide +kernel
@[simp] theorem targetOf_pop : ∀ n : Fin 4, ∀ off : Fin 6, targetOf (popAddr n off.val) = .window .pop n off := by
  decide +kernel
@[simp] theorem targetOf_peek : ∀ n : Fin 4, ∀ off : Fin 6, targetOf (peekAddr n off.val) = .window .peek n off := by
  decide +kernel
@[simp] theorem targetOf_timerConfig : ∀ t : Fin 8, targetOf (timerAddr t 0) = .timer t 0 := by decide +kernel
@[simp] theorem targetOf_timerReload : ∀ t : Fin 8, targetOf (timerAddr t 1) = .timer t 1 := by decide +kernel
@[simp] theorem targetOf_timerAction : ∀ t : Fin 8, targetOf (timerAddr t 2) = .timer t 2 := by decide +kernel
@[simp] theorem targetOf_inputConfig : ∀ e : Fin 2, targetOf (inputAddr e 0) = .input e 0 := by decide +kernel
/-- The addresses that carry one word each, checked together. -/
theorem targetOf_fixed :
    targetOf actionAddr = .device .action ∧ targetOf lockAddr = .device .lock ∧
    targetOf accessCodeAddr = .device .accessCode ∧ targetOf defaultActionsAddr = .device .defaultActions ∧
    targetOf unmatchedAddr = .device .unmatched ∧ targetOf responseLimitAddr = .device .responseLimit ∧
    targetOf gateConfigAddr = .gate 0 ∧ targetOf gateActionAddr = .gate 1 ∧
    targetOf alertFlagsAddr = .alert 0 ∧ targetOf alertEnableAddr = .alert 1 ∧
    targetOf alertConfigAddr = .alert 2 ∧ targetOf timebaseConfigAddr = .timebase 0 ∧
    targetOf timebaseActionAddr = .timebase 1 ∧ targetOf timestampAddr = .timebase 2 := by
  decide +kernel
@[simp] theorem targetOf_action : targetOf actionAddr = .device .action := targetOf_fixed.1
@[simp] theorem targetOf_lock : targetOf lockAddr = .device .lock := targetOf_fixed.2.1
@[simp] theorem targetOf_accessCode : targetOf accessCodeAddr = .device .accessCode := targetOf_fixed.2.2.1
@[simp] theorem targetOf_defaultActions : targetOf defaultActionsAddr = .device .defaultActions := targetOf_fixed.2.2.2.1
@[simp] theorem targetOf_unmatched : targetOf unmatchedAddr = .device .unmatched := targetOf_fixed.2.2.2.2.1
@[simp] theorem targetOf_responseLimit : targetOf responseLimitAddr = .device .responseLimit := targetOf_fixed.2.2.2.2.2.1
@[simp] theorem targetOf_gateConfig : targetOf gateConfigAddr = .gate 0 := targetOf_fixed.2.2.2.2.2.2.1
@[simp] theorem targetOf_gateAction : targetOf gateActionAddr = .gate 1 := targetOf_fixed.2.2.2.2.2.2.2.1
@[simp] theorem targetOf_alertFlags : targetOf alertFlagsAddr = .alert 0 := targetOf_fixed.2.2.2.2.2.2.2.2.1
@[simp] theorem targetOf_alertEnable : targetOf alertEnableAddr = .alert 1 := targetOf_fixed.2.2.2.2.2.2.2.2.2.1
@[simp] theorem targetOf_alertConfig : targetOf alertConfigAddr = .alert 2 := targetOf_fixed.2.2.2.2.2.2.2.2.2.2.1
@[simp] theorem targetOf_timebaseConfig : targetOf timebaseConfigAddr = .timebase 0 := targetOf_fixed.2.2.2.2.2.2.2.2.2.2.2.1
@[simp] theorem targetOf_timebaseAction : targetOf timebaseActionAddr = .timebase 1 := targetOf_fixed.2.2.2.2.2.2.2.2.2.2.2.2.1
@[simp] theorem targetOf_timestamp : targetOf timestampAddr = .timebase 2 := targetOf_fixed.2.2.2.2.2.2.2.2.2.2.2.2.2

@[simp] theorem targetOf_ruleWord (r : Fin 24) (w : RuleWord) :
    targetOf (ruleAddr r (ruleWordOffset w)) = .rule r (Fin.ofNat 8 (ruleWordOffset w)) := by
  cases w <;> revert r <;> decide +kernel

@[simp] theorem targetOf_timerWord (t : Fin 8) (w : TimerWord) :
    targetOf (timerAddr t (timerWordOffset w)) = .timer t (Fin.ofNat 6 (timerWordOffset w)) := by
  cases w <;> revert t <;> decide +kernel

/-! ### The checks (R177) -/

namespace State

/-- An open part refuses no mapped word before its object is asked. -/
theorem linkCheck_open {s : State} (h : s.WritesOpen) {t : Target} (ht : t ≠ .unmapped) : s.linkCheck t = none := by
  obtain ⟨h1, h2⟩ := h
  simp [linkCheck, ht, h1, h2]

/-- The clear-flags word passes a LOCKED lock (R179). -/
theorem linkCheck_clearFlags {s : State} (h : s.store.state = .idle) : s.linkCheck (.alert 0) = none := by
  simp [linkCheck, h]

/-- The lock word passes a LOCKED lock and a SAVING store (R179). -/
theorem linkCheck_lock {s : State} (h : s.store.state ≠ .loading) : s.linkCheck (.device .lock) = none := by
  simp [linkCheck, h]

theorem linkCheck_unmapped (s : State) : s.linkCheck .unmapped = some .address := by simp [linkCheck]

@[simp] theorem linkCheck_setFrame (s : State) (f : Frame) (t : Target) :
    (s.setFrame f).linkCheck t = s.linkCheck t := rfl

theorem nextWrite_awaits {s : State} {a : ServiceAddr} {left : Nat} (h : s.AwaitsWord a left) :
    s.nextWrite = some (a, .data .write (a + 1) left) := by
  simp [nextWrite, h.2]

/-- A word that the checks of the link let through: its operation runs, and its answer is the request status. -/
theorem serviceWrite'_passed {s : State} {a : ServiceAddr} {left : Nat} (op : State → (Status × Bool) × State)
    (h : s.AwaitsWord a left) (hc : s.linkCheck (targetOf a) = none) :
    s.serviceWrite' a op =
      (op (s.setFrame (.data .write (a + 1) left))).2.setStatus
        (op (s.setFrame (.data .write (a + 1) left))).1.1 (op (s.setFrame (.data .write (a + 1) left))).1.2 := by
  simp [serviceWrite', nextWrite_awaits h, writeWord, hc]

theorem serviceWrite_passed {s : State} {a : ServiceAddr} {left : Nat} (op : State → Status × State)
    (h : s.AwaitsWord a left) (hc : s.linkCheck (targetOf a) = none) :
    s.serviceWrite a op =
      (op (s.setFrame (.data .write (a + 1) left))).2.setStatus
        (op (s.setFrame (.data .write (a + 1) left))).1 false := serviceWrite'_passed (plain op) h hc

/-- A word that a check of the link refuses: nothing but the frame and the request status changes. -/
theorem serviceWrite'_refused {s : State} {a : ServiceAddr} {left : Nat} (op : State → (Status × Bool) × State)
    (h : s.AwaitsWord a left) {st : Status} (hc : s.linkCheck (targetOf a) = some st) :
    s.serviceWrite' a op = s.answered a left st false := by
  simp only [serviceWrite', nextWrite_awaits h, writeWord, linkCheck_setFrame, hc, if_true]
  rfl

/-- No such word is due: nothing changes (log 2). -/
theorem serviceWrite'_none {s : State} {a : ServiceAddr} (op : State → (Status × Bool) × State)
    (h : ∀ f, s.nextWrite ≠ some (a, f)) : s.serviceWrite' a op = s := by
  unfold serviceWrite'
  split
  · rename_i x f hf
    split
    · rename_i hx
      exact absurd (hx ▸ hf) (h f)
    · rfl
  · rfl

end State

end Sys2Proof.Machine
end

