-- ==== Sys2Proof/Laws/Queues.lean ====
section
/-! SUPPORT. Laws of the capture queues: what an offer, a completion and a judgement do to each queue. -/

namespace Sys2Proof.Machine

namespace Queue

theorem reception_off {q : Queue} (h : q.on = false) : q.reception = .refuse := by simp [reception, h]

theorem reception_room_iff (q : Queue) : q.reception = .room ↔ q.on = true ∧ q.list.length < q.depth := by
  unfold reception full
  by_cases hon : q.on = true <;> by_cases hf : q.depth ≤ q.list.length <;> by_cases ho : q.overwrite = true
  all_goals simp only [hon, hf, ho, decide_true, decide_false, Bool.not_true, Bool.not_false]
  all_goals simp
  all_goals first
    | omega
    | (split <;> first | (simp; done) | (split <;> simp <;> omega) | (simp; omega))

theorem reception_displace {q : Queue} (h : q.reception = .displace) :
    q.on = true ∧ q.depth ≤ q.list.length ∧ q.overwrite = true ∧ ∃ r l, q.list = r :: l ∧ r.isPending = false := by
  unfold reception full at h
  by_cases hon : q.on = true
  · by_cases hf : q.depth ≤ q.list.length
    · by_cases ho : q.overwrite = true
      · refine ⟨hon, hf, ho, ?_⟩
        cases hl : q.list with
        | nil =>
          simp [hon, ho, hl] at h
          split at h <;> simp at h
        | cons r l =>
          refine ⟨r, l, rfl, ?_⟩
          by_contra hp
          rw [hl] at hf
          rw [Bool.not_eq_false] at hp
          simp [hon, ho, hl, hp] at h
          split at h <;> simp at h
      · simp [hon, hf, ho] at h
    · simp [hon, hf] at h
  · simp [hon] at h

@[simp] theorem lose_list (q : Queue) : q.lose.list = q.list := rfl
@[simp] theorem lose_on (q : Queue) : q.lose.on = q.on := rfl
@[simp] theorem lose_config (q : Queue) : q.lose.config = q.config := rfl

/-- The available count never exceeds the number held (R83). -/
theorem available_le (q : Queue) : q.available ≤ q.list.length := (List.takeWhile_prefix _).length_le

/-- With no PENDING record every record is available (R83). -/
theorem available_eq {q : Queue} (h : q.pendingCount = 0) : q.available = q.list.length := by
  have hp : ∀ r ∈ q.list, r.isPending = false := by
    intro r hr
    have := List.filter_eq_nil_iff.mp (List.length_eq_zero_iff.mp h) r hr
    simpa using this
  unfold available
  rw [List.takeWhile_eq_self_iff.mpr (by simpa using hp)]

end Queue

namespace State

@[simp] theorem setFlag_queue (s : State) (g : Flag) (n : Fin 4) : (s.setFlag g).queue n = s.queue n := rfl

@[simp] theorem loseIn_queue (s : State) (n m : Fin 4) :
    (s.loseIn n).queue m = if n = m then (s.queue n).lose else s.queue m := by simp [loseIn]

@[simp] theorem dropOldest_queue (s : State) (n m : Fin 4) :
    (s.dropOldest n).queue m = if n = m then { s.queue n with list := (s.queue n).list.tail } else s.queue m := by
  simp [dropOldest]

@[simp] theorem append_queue (s : State) (w : Word) (n m : Fin 4) (b : RecordBody) :
    (s.append w n b).queue m =
      if n = m then { s.queue n with list := (s.queue n).list ++ [⟨s.nextSerial, w, b⟩] }
      else s.queue m := by
  simp only [append, queue_setQueue]
  rfl

@[simp] theorem judgeNotify_queue (s : State) (n m : Fin 4) (k : Nat) : (s.judgeNotify n k).queue m = s.queue m := by
  unfold judgeNotify
  dsimp only
  split <;> rfl

/-- An offer to queue n leaves every other queue as it is. -/
theorem placeAt_queue_ne (s : State) (w : Word) {n m : Fin 4} (h : n ≠ m) (b : RecordBody) :
    (s.placeAt w n b).1.queue m = s.queue m := by
  unfold placeAt
  split <;> simp [h]

/-- An offer changes neither the configuration nor the state of a queue. -/
theorem placeAt_queue_config (s : State) (w : Word) (n m : Fin 4) (b : RecordBody) :
    ((s.placeAt w n b).1.queue m).config = (s.queue m).config ∧ ((s.placeAt w n b).1.queue m).on = (s.queue m).on := by
  by_cases h : n = m
  · subst h
    unfold placeAt
    split <;> simp
  · rw [placeAt_queue_ne s w h b]
    exact ⟨rfl, rfl⟩

/-- An offer never takes a queue beyond its share (R77, R85 to R89). -/
theorem placeAt_within (s : State) (w : Word) (n m : Fin 4) (b : RecordBody) (h : (s.queue m).Within) :
    ((s.placeAt w n b).1.queue m).Within := by
  by_cases hn : n = m
  · subst hn
    obtain ⟨hc, ho⟩ := placeAt_queue_config s w n n b
    unfold Queue.Within Queue.depth at *
    rw [hc, ho]
    unfold placeAt
    split
    · rename_i hr
      have := (Queue.reception_room_iff _).mp hr
      unfold Queue.depth at this
      simp [this.1]
      omega
    · rename_i hr
      obtain ⟨hon, _, _, r, l, hl, _⟩ := Queue.reception_displace hr
      simp only [hl, List.length_cons] at h
      simp [hl]
      exact h
    · simpa using h
  · rw [placeAt_queue_ne s w hn b]
    exact h

@[simp] theorem offer_queue (s : State) (n m : Fin 4) (b : RecordBody) :
    (s.offer n b).queue m = (s.placeIn n b).1.queue m := by simp [offer]

/-- The end of a transaction completes the PENDING records in their places (R91). -/
theorem completeAll_queue (s : State) (before : Vector Nat 4) (o : TxnOutcome) (d : Option Word) (n : Fin 4) :
    (s.completeAll before o d).queue n = { s.queue n with list := (s.queue n).list.map (completeRecord o d) } := by
  have fold : ∀ (l : List (Fin 4)) (s : State),
      (l.foldl (fun s n => s.judgeNotify n before[n]) s).queue n = s.queue n := by
    intro l
    induction l with
    | nil => exact fun _ => rfl
    | cons m l ih => exact fun s => (ih _).trans (judgeNotify_queue s m n _)
  unfold completeAll
  dsimp only
  rw [fold, queue_mapQueues]

end State

/-- Completion leaves no record PENDING. -/
theorem State.completeRecord_isPending (o : TxnOutcome) (d : Option Word) (r : Record) :
    (State.completeRecord o d r).isPending = false := by
  unfold State.completeRecord
  split
  · split
    · simp [Record.isPending]
    · rename_i h
      cases ho : (‹AccessRecord›).outcome <;> simp_all [Record.isPending]
  · rename_i h
    unfold Record.isPending
    split
    · exact absurd ‹_› (h _)
    · rfl

@[simp] theorem State.completeRecord_serial (o : TxnOutcome) (d : Option Word) (r : Record) :
    (State.completeRecord o d r).serial = r.serial := by
  unfold State.completeRecord
  split
  · split <;> rfl
  · rfl

/-- After the end of a transaction no queue holds a PENDING record (R82). -/
theorem State.completeAll_pendingCount (s : State) (before : Vector Nat 4) (o : TxnOutcome) (d : Option Word)
    (n : Fin 4) : ((s.completeAll before o d).queue n).pendingCount = 0 := by
  simp [Queue.pendingCount, completeAll_queue, completeRecord_isPending]

end Sys2Proof.Machine
end

