-- ==== Sys2Proof/Tests/Slice0.lean ====
section
/-! SUPPORT. Tests: what the well-formedness check refuses, single steps worked by hand from the spec, and for every obligation
with hypotheses a state and operands that meet them, clause by clause. -/

namespace Sys2Proof.Tests

open Sys2Proof Sys2Proof.Machine

/-! ### Small states -/

/-- A part that has loaded the factory defaults: UNLOCKED, everything idle. -/
def base : State := { State.reset with
  store := { Store.reset with state := .idle }, link := { Link.reset with locked := false } }

/-- The next word of a WRITE frame goes to the address, and one more follows it. -/
def writing (a : ServiceAddr) (s : State) : State :=
  { s with pins := { s.pins with scsLow := true }, link := { s.link with frame := .data .write a 2 } }

/-- A READ frame has so many words left from the address. -/
def reading (a : ServiceAddr) (n : Nat) (s : State) : State :=
  { s with pins := { s.pins with scsLow := true }, link := { s.link with frame := .data .read a n } }

/-- A definition over the whole address range. -/
def wholeRange (control quotaArming : Word) : RuleDef := ⟨control, 0, 0x03FFFFFC, 0xFFFFFFFF, 0, 0xABCD, quotaArming⟩

/-- A rule entry with that definition. -/
def entry (control quotaArming : Word) (st : RuleState) : Rule :=
  { Rule.reset with defn := wholeRange control quotaArming, state := st }

/-- A queue that is ON with the depth given and empty. -/
def queueOn (depth : Nat) : Queue := ⟨0x00010000 ||| BitVec.ofNat 32 depth, true, 0, []⟩

/-- A COMPLETE and a PENDING record. -/
def doneRecord : Record := ⟨0, 0, .gateOpened 0⟩
def pendingRecord : Record := ⟨1, 0, .access ⟨0, 1, .read, 15, 0, .withData, false, none, none, none⟩⟩

/-- A transaction in flight, of a write or of a read. -/
def writeTxn : Txn := ⟨1, .write, 0x100, 15, 7, []⟩
def readTxn : Txn := ⟨1, .read, 0x100, 15, 0, []⟩
def flying (ph : Phase) (t : Txn) (s : State) : State :=
  { s with path := { s.path with phase := ph, txn := some t, port := .busy, limitTimer := some 16 } }

/-- The port LATE after an access that expired. -/
def late (s : State) : State :=
  { s with path := { s.path with port := .late, limitTimer := some 16, expired := some (1, 0x100) } }

def withGate (g : GateState) (s : State) : State := { s with gate := { s.gate with state := g } }
def withPort (p : PortState) (s : State) : State := { s with path := { s.path with port := p } }
def withStore (x : StoreState) (s : State) : State := { s with store := { s.store with state := x } }
def withPfail (b : Bool) (s : State) : State := { s with pins := { s.pins with pfail := b } }
def withTicks (s : State) : State :=
  { s with timebase := { s.timebase with running := true, period := .running 1 } }

/-- A channel with the configuration word, state and counter given, reload 5. -/
def channel (config : Word) (st : TimerState) (counter : BitVec 16) : Timer :=
  { Timer.reset with config := config, reload := 5, state := st, counter := counter }

/-! ### The well-formedness check refuses -/

theorem test_wf_refuses_write_without_lane : (Instr.upstreamRequest (.write 0 0 1 [])).wf = false := by decide
theorem test_wf_takes_write_of_one_lane : (Instr.upstreamRequest (.write 0 8 1 [])).wf = true := by decide
theorem test_wf_refuses_definition_write_with_request :
    (Instr.ruleDefinitionWrite 3 .control 0x00100002).wf = false := by decide
theorem test_wf_takes_definition_write_without_request :
    (Instr.ruleDefinitionWrite 3 .control 0x0007FFFF).wf = true := by decide

/-! ### Single steps -/

/-- The result of a command that answers a next state. -/
def after (c : Instr) (s : State) : State :=
  match exec c s with
  | .next t => t
  | _ => s

theorem test_step_takes_the_front_command :
    step { base with pending := [.urstAssert, .tick] } =
      .next { base with pins := { base.pins with urst := true }, pending := [.tick] } := rfl
theorem test_empty_lanes_are_refused :
    exec (.upstreamRequest (.write 0 0 1 [])) base = .refused .emptyLanes := rfl
theorem test_rst_deassert_frees_the_link :
    (after .rstDeassert { base with pins := { base.pins with rst := true } }).pins.rst = false := by decide
theorem test_read_with_no_rule_is_forwarded :
    (after (.upstreamRequest (.read 0x40 [])) base).downstreamAccess = some (.read 0x100) := by decide
theorem test_discarded_read_gets_the_fill :
    (after (.upstreamRequest (.read 0x40 [])) (base.setRule 0 (entry 0x82 0 .live))).path.answer =
      some (.doneData 0xABCD) := by decide
theorem test_faulted_read_gets_error :
    (after (.upstreamRequest (.read 0x40 [])) (base.setRule 0 (entry 0x102 0 .live))).path.answer = some .error := by
  decide
theorem test_changed_needs_a_preread :
    (after (.upstreamRequest (.write 0x40 1 7 [])) (base.setRule 0 (entry 0x2C 0 .live))).downstreamAccess =
      some (.read 0x100) := by decide
theorem test_write_in_flight_marks_the_gate :
    (after (.upstreamRequest (.write 0x40 1 7 [])) base).gate.inFlight = true := by decide
theorem test_captured_read_completes_with_its_data :
    let s := (base.setQueue 0 (queueOn 4)).setRule 0 (entry 0x2402 0 .live)
    let t := after (.forwardComplete (.ok 0x1234)) (after (.upstreamRequest (.read 0x40 [])) s)
    (reading (popAddr 0 0) 6 t).readWord (popAddr 0 0) = 0x2F000001 ∧ t.readWord (popAddr 0 3) = 0x100 ∧
      t.readWord (popAddr 0 4) = 0x1234 := by decide
theorem test_pop_removes_the_record :
    let s := reading (popAddr 0 0) 6 (base.setQueue 0 { queueOn 4 with list := [doneRecord] })
    ((after (.popRemove 0) (after (.popWindowRead 0) s)).queue 0).list = [] := by decide
theorem test_frame_cut_short_removes_nothing :
    let s := reading (popAddr 0 0) 5 (base.setQueue 0 { queueOn 4 with list := [doneRecord] })
    ((after (.popRemove 0) (after (.popWindowRead 0) s)).queue 0).list = [doneRecord] := by decide
/-- R149: an arm that falls between the decision and the zero change leaves the rule DORMANT; one before it would not. -/
theorem test_arm_between_decision_and_zero :
    let s := (base.setTimer 0 { channel 0 .running 1 with tickOwed := true }).setRule 0
      { entry 0x82 0x03410000 .live with countdown := 1 }
    let t := after (.upstreamRequest (.read 0x40 [.expiry 0])) s
    ((t.rule 0).state, (t.rule 0).countdown) = (.dormant, 3) := by decide
/-- A MEASURE channel that rule 0 triggers, RUNNING at 3, with its intervals to queue 0, and ticks running. -/
def measured : State := withTicks ((base.setQueue 0 (queueOn 8)).setTimer 0 (channel 0x90103 .running 3))
/-- The kinds of the records that an order of the parts of a decision leaves in queue 0, each with its timestamp. -/
def stampsOf (order : List DecisionPart) : List (BitVec 8 × Word) :=
  let q := State.takeDecisionParts
    (State.reserve readTxn none false .pass 0 [⟨0, 0, .addressOnly, false, true⟩] measured.nextSerial
      (measured.decisionStamp order)) order
    (measured, .forward)
  (q.1.queue 0).list.map fun r => ((r.word 0).setWidth 8, r.timestamp)
/-- R106: the ACCESS record (kind 1) and the TIMER_INTERVAL record (kind 3) of one decision one apart, in either order, and alike. -/
theorem test_access_before_the_tick_and_interval_after :
    stampsOf [.read, .reserve, .meet .tick, .trigger 0] = [(1, 0), (3, 1)] := by decide
theorem test_interval_before_the_tick_and_access_after :
    stampsOf [.trigger 0, .meet .tick, .read, .reserve] = [(3, 0), (1, 1)] := by decide
/-- A reading before the tick stays when the placement comes after it, unless a newer record would stand ahead (R82). -/
theorem test_access_read_before_the_tick_and_placed_after :
    stampsOf [.read, .meet .tick, .reserve, .trigger 0] = [(1, 0), (3, 1)] := by decide
theorem test_timestamps_do_not_decrease_along_a_list :
    stampsOf [.read, .meet .tick, .trigger 0, .reserve] = [(3, 1), (1, 1)] ∧
      stampsOf [.reserve, .trigger 0, .meet .tick, .read] = [(1, 0), (3, 0)] := by decide
/-- A write answered by the gate is counted at its consultation (R160): GATE_OPENED of the hold-off that ends after it shows it. -/
theorem test_gated_write_is_counted_before_the_hold_off_ends :
    let s : State := { measured with
      gate := { base.gate with state := .reopening, powerSeen := true, holdOff := 1, tickOwed := true, config := 0x100100 } }
    let f := State.reserve writeTxn none false .pass 0 [] s.nextSerial 0
    let q := State.takeDecisionParts f [.reserve, .meet .holdOffEnd] (s, .forward)
    let u := State.takeDecisionParts f [.meet .holdOffEnd, .reserve] (s, .forward)
    (q.2, q.1.gate.refused, (q.1.queue 0).list.map Record.body) = (.ended .gated .error, 1, [.gateOpened 1]) ∧
      (u.2, u.1.gate.refused, (u.1.queue 0).list.map Record.body) = (.forward, 0, [.gateOpened 0]) := by decide
/-- The same of an INPUT_EVENT record (kind 4), whose input takes the same value as its last-event timestamp (R142). -/
theorem test_event_record_after_the_tick :
    let s := measured.setInput 1 { EventInput.reset with config := 0x41 }
    let t := [State.EventPart.trigger 0, .meet .tick, .record 1 true].foldl
      (fun s p => s.applyEventPart ⟨[.tick], State.takeMeeting⟩ 1 p) s
    ((t.queue 0).list.map fun r => ((r.word 0).setWidth 8, r.timestamp)) = [((3 : BitVec 8), (0 : Word)), (4, 1)] ∧
      (t.input 1).lastEvent = 1 := by decide
/-- Without a record queue the input can take its last-event timestamp after the tick and the channel its interval before it (R141). -/
theorem test_last_event_after_the_tick_and_interval_before :
    let s := measured.setInput 1 { EventInput.reset with config := 1 }
    let parts := s.eventParts ⟨[.tick], State.takeMeeting⟩ 1 [0]
    let t := [State.EventPart.trigger 0, .meet .tick, .record 0 true].foldl
      (fun s p => s.applyEventPart ⟨[.tick], State.takeMeeting⟩ 1 p) s
    parts = [.record 0 true, .trigger 0, .meet .tick] ∧ (t.input 1).lastEvent = 1 ∧
      (t.queue 0).list.map Record.timestamp = [0] := by decide
/-- At the end of a forward a tick falls between the GATE_CLOSED record (kind 5) and the TIMEOUT record (kind 7) of a drain. -/
theorem test_drain_before_the_tick_and_timeout_after :
    let s : State := { measured with
      gate := { base.gate with state := .draining, pfail := true, powerSeen := true, config := 0x100100 }
      path := { measured.path with limitWord := 0x10010 } }
    let t := State.takeEndParts writeTxn .timeout none [.drain, .meet .tick, .fault, .complete] s
    ((t.queue 0).list.map fun r => ((r.word 0).setWidth 8, r.timestamp)) = [((5 : BitVec 8), (0 : Word)), (7, 1)] := by
  decide
theorem test_witness_access_timestamp :
    let v : Reservation := ⟨0, 0, .addressOnly, false, true⟩
    let u := (measured.offer 0 (.gateOpened 0)).takeMeeting .tick
    u.accessStamp 0 0 [v] ≠ u.timebase.timestamp ∧ (u.queue v.queue).reception ≠ .refuse ∧
      (u.queue v.queue).list.map Record.timestamp = [0] ∧ u.accessStamp 0 1 [v] = u.timebase.timestamp := by decide
theorem test_witness_tick_inside :
    let s := (measured.setRule 0 (entry 0x202 0 .live))
    let x := captureRequest (s.path.number + 1) (.read 0x40 [.inside .tick])
    s.NoHold ∧ s.path.held = none ∧ s.NonePending ∧ s.timebase.running = true ∧ s.gate.state = .opened ∧
      s.needsPreread x = false ∧ (s.scan x x.data 0 allRules).1 ≠ [] ∧ insideOf x.between = [.tick] ∧
      insideOf [.tick, .atEnd .tick] = [] ∧ afterDeciding [.tick, .atEnd .tick] = [.atEnd .tick] ∧
      DecisionPart.read ∉ [DecisionPart.meet .tick] ∧ DecisionPart.reserve ∉ [DecisionPart.meet .tick] := by decide

theorem test_frame_over_word_five_removes :
    let s := reading (popAddr 0 0) 9 (base.setQueue 0 { queueOn 4 with list := [doneRecord] })
    ((after (.popWindowRead 1) (after (.popWindowRead 0) s)).queue 0).list = [] := by decide
theorem test_first_period_begins_on_an_empty_queue :
    let s : State := { base with timebase :=
      { base.timebase with config := 0x5003, running := true, period := .starting } }
    s.idle.timebase = { s.timebase with accumulator := 5, period := .running 3 } := by decide
theorem test_plain_words_are_clocked_out :
    (reading 0x000 2 base).idle.link.frame = .data .read 0x001 1 := by decide
theorem test_tick_wraps_the_timestamp :
    (after .tick (withTicks { base with timebase := { base.timebase with timestamp := 0xFFFFFFFF } })).timebase.timestamp
      = 0 := by decide
theorem test_oneshot_expires :
    let s := base.setTimer 0 { channel 0 .running 1 with tickOwed := true }
    (after (.timerExpiry 0) s).timer 0 = { channel 0 .stopped 5 with tickOwed := false } := by decide
theorem test_pulse_ends :
    (after .alertPulseEnd { base with alert :=
      { Alert.reset with config := 0x101, pulse := 1, line := true, tickOwed := true } }).alert.line = false := by
  decide
theorem test_power_closure_is_read_back :
    (after .pfailAssert base).readWord 0x1B2 = 0x00000016 := by decide
theorem test_path_reset_from_down :
    (after .pathReset (writing actionAddr (withPort .down base))).path.port = .ready := by decide
theorem test_locked_write_is_refused :
    (after (.enable 0) (writing (ruleAddr 0 0) { base with link := { base.link with locked := true } })).link.status
      = .locked := by decide
theorem test_word_spells_nothing : State.withFetchWord base 16 0 = base := rfl

/-! ### The hypotheses of the obligations are met -/

/-- Nothing to clock; a first period about to begin; a plain word and a window word of a READ frame. -/
theorem test_witness_step :
    let p : State := { base with timebase := { base.timebase with running := true, period := .starting } }
    let w := reading (popAddr 0 0) 6 base
    base.pending = [] ∧ base.timebase.period ≠ .starting ∧ base.link.frame = .idle ∧ p.powered = true ∧ p.pending = [] ∧
      p.timebase.period = .starting ∧ p.link.frame = .idle ∧ (reading 0x000 1 base).link.frame = .data .read 0x000 1 ∧
      targetOf 0x000 = .device .identification ∧ w.copy = none := by decide
theorem test_witness_step_window : targetOf (popAddr 0 0) = .window .pop 0 0 := targetOf_pop 0 0
theorem test_witness_allowed :
    Instr.wf .tick = true ∧ (Instr.upstreamRequest (.write 0 1 0 [])).wf = true := by decide

theorem test_witness_request :
    let r : Request := .write 0xFFFFFF 8 1 []
    r.wf = true ∧ base.path.held = none ∧ (flying .forward readTxn base).path.phase ≠ .idle ∧
      (withStore .loading base).store.state = .loading ∧ (late base).path.port = .late ∧
      (late base).path.held = none ∧ State.NoHold { base with path := { base.path with held := some r } } := by
  decide

theorem test_witness_gate_arrival :
    State.NoHold (withGate .closed base) ∧ (withGate .closed base).path.held = none ∧
      State.NoHold (withGate .reopening base) ∧ (1 : Lanes) ≠ 0 := by decide

theorem test_witness_default :
    let d : Word → State := fun w => { base with defaultActions := w }
    let g : Bool → State := fun b =>
      { base with gate := { base.gate with state := .draining, pfail := true, inFlight := b } }
    base.NoHold ∧ base.path.held = none ∧ base.gate.state = .opened ∧ base.NonePending ∧
      wbit base.unmatched 0 = false ∧ base.NoCandidate .read (byteAddr 0) ∧ base.NoCandidate .write (byteAddr 0) ∧
      fld base.defaultActions 4 2 = 0 ∧ fld base.defaultActions 0 2 = 0 ∧ base.path.port = .ready ∧
      (withPort .down base).NoHold ∧ (withPort .down base).NonePending ∧ (withPort .down base).gate.state = .opened ∧
      fld (d 0x10).defaultActions 4 2 = 1 ∧ fld (d 0x20).defaultActions 4 2 = 2 ∧
      fld (d 0x01).defaultActions 0 2 = 1 ∧ fld (d 0x02).defaultActions 0 2 = 2 ∧ (d 0x22).NoHold ∧
      (withGate .closed base).gate.state ≠ .draining ∧ (g true).NoHold ∧ (g true).gate.inFlight = true ∧
      (g false).NonePending ∧ (g false).gate.inFlight = false ∧ (g false).NoCandidate .read (byteAddr 0) := by
  decide

theorem test_witness_scan :
    let s := (base.setRule 3 (entry 0x202 0 .live)).setRule 23 (entry 0x102 0 .live)
    s.scan readTxn 0 0 allRules = ([3, 23], some 23) := by decide
/-- The ends of a range, a masked extent, and an address just outside each. -/
theorem test_witness_extent :
    let x : Rule := { Rule.reset with state := .live, defn := ⟨0x6, 0x100, 0x104, 0, 0, 0, 0⟩ }
    let m : Rule := { x with defn := ⟨0x3, 0x100, 0x1F0, 0, 0, 0, 0⟩ }
    x.candidate .read 0x100 = true ∧ x.candidate .write 0x104 = true ∧ x.candidate .read 0x108 = false ∧
      x.candidate .read 0x0FC = false ∧ m.candidate .read 0x10C = true ∧ m.candidate .read 0x300 = true ∧
      m.candidate .read 0x110 = false ∧ m.candidate .write 0x100 = false := by decide
/-- Each operator at a word that just satisfies it and one that just does not, with and without ENTERING. -/
theorem test_witness_operators :
    let d : Word → RuleDef := fun op => ⟨0x4 ||| (op <<< 3), 0, 0, 0xFF, 0x105, 0, 0⟩
    let e : Word → RuleDef := fun op => ⟨0x44 ||| (op <<< 3), 0, 0, 0xFF, 0x105, 0, 0⟩
    (d 0).matchesWords 9 9 = true ∧ (d 1).matchesWords 0x305 0 = true ∧ (d 1).matchesWords 6 0 = false ∧
      (d 2).matchesWords 6 0 = true ∧ (d 2).matchesWords 5 0 = false ∧ (d 3).matchesWords 6 0 = true ∧
      (d 3).matchesWords 5 0 = false ∧ (d 4).matchesWords 4 0 = true ∧ (d 4).matchesWords 5 0 = false ∧
      (d 5).matchesWords 0x105 0x205 = false ∧ (d 5).matchesWords 5 4 = true ∧ (e 3).matchesWords 6 5 = true ∧
      (e 3).matchesWords 7 6 = false := by decide

/-- A transaction that rule 23 decides at its taking. -/
def decidedBy23 (s : State) (x : Txn) : Bool :=
  decide (s.NoHold ∧ s.path.held = none ∧ s.gate.state = .opened ∧ s.needsPreread x = false ∧
    (s.scan x x.data 0 allRules).2 = some 23)
/-- Every decided action, by the rule and by its over-quota action, of a read and of a write, with the port READY and DOWN. -/
theorem test_witness_rule_decides :
    let one : Word → Word → BitVec 12 → State := fun c q w => base.setRule 23 { entry c q .live with window := w }
    let n := captureRequest 1 (.read 0 [])
    let w := captureRequest 1 (.write 0 8 0xFFFFFFFF [])
    (Request.write 0 8 0xFFFFFFFF []).wf = true ∧ decidedBy23 (one 0x06 0 0) n = true ∧
      decidedBy23 (one 0x06 0 0) w = true ∧ decidedBy23 (one 0x86 0 0) n = true ∧
      decidedBy23 (one 0x86 0 0) w = true ∧ decidedBy23 (one 0x106 0 0) w = true ∧
      decidedBy23 (withPort .down (one 0x06 0 0)) w = true ∧ (fld 0x06 7 3).toNat = 0 ∧ (fld 0x86 7 3).toNat = 1 ∧
      (fld 0x106 7 3).toNat = 2 ∧ decidedBy23 (one 0x10006 1 1) n = true ∧
      decidedBy23 (one 0x50006 0xFFF 0xFFF) w = true ∧ wbit 0x10006 16 = true ∧
      (fld 0x1 0 12).toNat ≤ (1 : BitVec 12).toNat ∧ (fld 0x10006 17 2).toNat = (1 + 2) % 3 ∧
      (fld 0x30006 17 2).toNat = (2 + 2) % 3 ∧ (fld 0x50006 17 2).toNat = (0 + 2) % 3 ∧
      ¬ (fld 0x1 0 12).toNat ≤ (0 : BitVec 12).toNat := by decide

theorem test_witness_hits :
    let s := (base.setRule 0 { entry 0x18202 1 .live with hits := 65535, window := 1 }).setRule 1 (entry 0x82 0 .dormant)
    let hits := (s.scan readTxn 0 0 allRules).1
    0 ∈ hits ∧ 1 ∉ hits ∧ (s.rule 0).hits = 65535 := by decide

theorem test_witness_notices :
    let s := (((base.setRule 0 { entry 0x202 0x01400000 .live with countdown := 1 }).setRule 1
      (entry 0x202 0x8000 .dormant)).setRule 2 { entry 0x202 0x02400000 .live with countdown := 2 }).setTimer 0
        (channel 0x101 .stopped 0)
    let hits := (s.scan readTxn 0 0 allRules).1
    (∃ k ∈ hits, (s.rule 1).defn.armSource = .rule k.val) ∧ (s.rule 1).state ≠ .disabled ∧
      (¬ ∃ k ∈ hits, (s.rule 0).defn.armSource = .rule k.val) ∧ 0 ∈ hits ∧ (s.rule 0).countdown = 1 ∧
      2 ∈ hits ∧ (s.rule 2).countdown = 2 ∧ 3 ∉ hits ∧ (s.rule 3).state = .disabled ∧
      (∃ k ∈ hits, (s.timer 0).trigger = .rule k.val) ∧ (∀ k ∈ hits, (s.timer 1).trigger ≠ .rule k.val) := by
  decide
theorem test_witness_notices_met :
    let s := base.setRule 0 { entry 0x202 0x01400000 .live with countdown := 1 }
    let c : Changes := ⟨[0], [0], [.tick]⟩
    s.NoHold ∧ s.path.held = none ∧ s.gate.state = .opened ∧
      s.needsPreread (captureRequest 1 (.read 0x40 [.tick])) = false ∧ (Request.read 0x40 [.tick]).wf = true ∧
      0 ∈ c.zeroed ∧ (s.rule 0).state ≠ .disabled ∧ (¬ ∃ k ∈ c.hits, (s.rule 0).defn.armSource = .rule k.val) ∧
      1 ∉ c.zeroed ∧ (base.setRule 1 (entry 2 0x8000 .dormant)).rule 1 = entry 2 0x8000 .dormant ∧
      (entry 2 0x8000 .dormant).defn.armSource = .rule 0 := by decide

theorem test_witness_audit :
    let s := base.setRule 0 (entry 0x582 0 .live)
    let f := s.setQueue 0 { queueOn 4 with list := [doneRecord, doneRecord, doneRecord] }
    s.NoHold ∧ s.path.held = none ∧ s.gate.state ≠ .draining ∧ s.NonePending ∧
      s.scan ⟨1, .read, byteAddr 0, 15, 0, []⟩ 0 0 allRules = ([0], some 0) ∧ fld (s.rule 0).defn.control 7 3 = 3 ∧
      (s.rule 0).defn.capture = true ∧ (s.rule 0).hitOverQuota = false ∧ (s.rule 0).defn.captureQueue = 0 ∧
      (s.queue 0).on = false ∧ (∀ c, (s.timer c).trigger ≠ .rule 0) ∧ f.NoHold ∧ f.NonePending ∧
      (f.queue 0).on = true ∧ (f.queue 0).list.length < (f.queue 0).depth ∧ f.path.port = .ready := by decide
/-- A hit that is kept, one over quota whose record is suppressed, and a deciding rule over quota; and a read that no rule
decides, with the unmatched capture present: both are forwarded, in queues with room for every record. -/
theorem test_witness_reservations :
    let on : State := { base with queues := Vector.replicate 4 (queueOn 28), unmatched := 0x17 }
    let s := ((on.setRule 0 (entry 0x2606 0 .live)).setRule 1 { entry 0x12606 1 .live with window := 1 }).setRule 2
      { entry 0x52406 1 .live with window := 1 }
    let u := on.setRule 0 (entry 0x2606 0 .live)
    let p := s.scan writeTxn 7 0 allRules
    p = ([0, 1, 2], some 2) ∧ (s.decideTxn writeTxn none false).2 = .forward ∧
      (∀ r ∈ p.1, wbit (s.rule r).defn.control 10 = true → fld (s.rule r).defn.control 13 2 ≠ 3) ∧
      (∀ n, (s.queue n).on = true ∧ (s.queue n).list.length + 25 ≤ (s.queue n).depth) ∧
      (u.scan readTxn 0 0 allRules) = ([0], none) ∧ (u.decideTxn readTxn none false).2 = .forward ∧
      wbit u.unmatched 0 = true ∧ (fld u.unmatched 4 2).toNat ≤ 1 := by decide
theorem test_reservations_stand_in_order :
    let on : State := { base with queues := Vector.replicate 4 (queueOn 28) }
    let s := ((on.setRule 0 (entry 0x2606 0 .live)).setRule 1 { entry 0x12606 1 .live with window := 1 }).setRule 2
      { entry 0x52406 1 .live with window := 1 }
    ((s.decideTxn writeTxn none false).1.queue 0).list.map Record.body =
      [.access ⟨0, 1, .write, 15, 0x100, .withData, false, some 7, none, none⟩,
        .access ⟨2, 1, .write, 15, 0x100, .withData, true, some 7, none, none⟩] := by decide

/-- A decision that ends at once in queues with room and with no PENDING record, and each verdict of the table: by the default, by a
rule and over quota, with the port DOWN and the gate CLOSED, and an AUDIT with and without its own record. -/
theorem test_witness_verdicts :
    let on : State := { base with queues := Vector.replicate 4 (queueOn 36), unmatched := 0x17 }
    let v : Word → Word → BitVec 12 → Txn → State → Verdict := fun c q w t s =>
      ((s.setRule 23 { entry c q .live with window := w }).decideTxn t none false).2
    let d : Word → Txn → Verdict := fun w t => ({ base with defaultActions := w }.decideTxn t none false).2
    on.NonePending ∧ (∀ n, (on.queue n).on = true ∧ (on.queue n).list.length + 33 ≤ (on.queue n).depth) ∧
      v 0x2482 0 0 readTxn on = .ended .discarded (.doneData 0xABCD) ∧ d 0x10 readTxn = .ended .discarded (.doneData 0) ∧
      d 0x02 writeTxn = .ended .refused .error ∧ v 0x10006 1 1 writeTxn base = .ended .discarded .done ∧
      v 0x6 0 0 readTxn (withPort .down base) = .ended .pathDown .error ∧
      v 0x6 0 0 writeTxn (withGate .closed base) = .ended .gated .error ∧
      v 0x582 0 0 readTxn base = .ended .auditRefused .error ∧ v 0x582 0 0 readTxn on = .forward := by decide
theorem test_record_of_a_discarded_read :
    let s := ({ base with queues := Vector.replicate 4 (queueOn 28) } : State).setRule 0 (entry 0x2482 0 .live)
    ((s.decideTxn readTxn none false).1.queue 0).list.map Record.body =
      [.access ⟨0, 1, .read, 15, 0x100, .withData, false, some 0xABCD, none, some .discarded⟩] := by decide

/-- Each of the four causes, alone; a candidate with none of them; and the port DOWN. -/
theorem test_witness_preread_entry :
    let s : Word → Word → State := fun c m =>
      base.setRule 23 { entry c 0 .live with defn := { wholeRange c 0 with dataMask := m } }
    let c : Word → Word → Bool := fun c m =>
      ((s c m).rule 23).candidate .write (byteAddr 0) && ((s c m).rule 23).defn.needsBefore 1
    (s 0x2C 0xFF).NoHold ∧ (s 0x2C 0xFF).path.held = none ∧ (s 0x2C 0xFF).gate.state = .opened ∧
      (s 0x2C 0xFF).path.port = .ready ∧ (withPort .down (s 0x2C 0xFF)).NoHold ∧
      (c 0x2C 0xFF = true ∧ fld 0x2C 3 3 = 5) ∧ (c 0x4C 0xFF = true ∧ wbit 0x4C 6 = true) ∧
      (c 0x0C 0x1FF = true ∧ wbit 0x1FF 8 = true ∧ (1 : Lanes).getLsbD (8 / 8) = false) ∧
      (c 0x4404 0 = true ∧ wbit 0x4404 10 = true ∧ fld 0x4404 13 2 = 2) ∧
      ((s 0x0C 0xFF).rule 23).candidate .write (byteAddr 0) = true ∧ c 0x0C 0xFF = false ∧
      (∀ i : Fin 32, wbit 0xFF i.val = true → (1 : Lanes).getLsbD (i.val / 8) = true) := by decide

/-- With the port DOWN the decision is made on the zero substitute: the hit counts, its rule's countdown ends, and the write ends
PATH_DOWN with ERROR (R23, R29, R68). -/
theorem test_write_needing_the_before_word_meets_down :
    let s := withPort .down (base.setRule 0 { entry 0xAC 0x01400000 .live with countdown := 1 })
    let t := after (.upstreamRequest (.write 0x40 1 7 [])) s
    ((t.rule 0).hits, (t.rule 0).state, t.path.answer, t.gate.refused) = (1, .dormant, some .error, 0) := by decide

theorem test_witness_downstream :
    (flying .preread writeTxn base).downstreamAccess = some (.read 0x100) ∧ base.path.phase = .idle ∧
      (flying .forward readTxn base).downstreamAccess = some (.read 0x100) ∧
      (flying .forward writeTxn base).downstreamAccess = some (.write 0x100 15 7) := by decide

/-- A pre-read whose word makes rule 23 decide, and one whose word does not. -/
theorem test_preread_word_decides :
    let s := (flying .preread { writeTxn with lanes := 1 } base).setRule 23
      { entry 0x8C 0 .live with defn := { wholeRange 0x8C 0 with dataMask := 0xFFFF, reference := 0x1207 } }
    (after (.prereadComplete (.ok 0x1234)) s).path.answer = some .done ∧
      (after (.prereadComplete (.ok 0x4434)) s).path.phase = .forward := by decide
theorem test_witness_preread_end :
    let s := flying .preread writeTxn base
    s.powered = true ∧ s.path.phase = .preread ∧ s.path.txn = some writeTxn ∧ s.path.abandoned = false ∧
      ({ s with path := { s.path with abandoned := true } }).path.abandoned = true ∧ writeTxn.kind = .write ∧
      s.NoCandidate .write writeTxn.addr ∧ fld s.defaultActions 0 2 = 0 ∧ wbit s.unmatched 0 = false ∧ s.NonePending ∧
      s.gate.state = .opened ∧ (withGate .closed s).gate.state ≠ .opened := by decide

theorem test_witness_forward_end :
    let s := (flying .forward writeTxn base).setQueue 0 { queueOn 4 with list := [doneRecord, pendingRecord] }
    s.powered = true ∧ s.path.phase = .forward ∧ s.path.txn = some writeTxn ∧ writeTxn.kind = .write ∧
      readTxn.kind = .read ∧ s.gate.state ≠ .draining ∧ (s.queue 0).list[0]? = some doneRecord ∧
      doneRecord.isPending = false ∧ (s.queue 0).list[1]? = some pendingRecord ∧ pendingRecord.isPending = true := by
  decide

theorem test_witness_limit :
    let s := (flying .preread writeTxn { base with path := { base.path with limitWord := 0x10010 } }).setQueue 0
      { queueOn 4 with list := [doneRecord, doneRecord, doneRecord] }
    let f := flying .forward writeTxn base
    s.powered = true ∧ s.path.port = .busy ∧ s.path.txn = some writeTxn ∧ s.NonePending ∧
      s.path.phase = .preread ∧ s.path.recordQueue = some 0 ∧ (s.queue 0).on = true ∧
      (s.queue 0).list.length < (s.queue 0).depth ∧ f.path.phase = .forward ∧ f.path.port = .busy ∧
      f.gate.state ≠ .draining ∧ f.path.recordQueue ≠ some 0 ∧ (flying .preread writeTxn base).path.recordQueue = none ∧
      ((s.queue 0).list[2]? = some doneRecord ∧ doneRecord.isPending = false) ∧ pendingRecord.isPending = true := by decide

theorem test_witness_late :
    let s := (late { base with path := { base.path with limitWord := 0x10010 } }).setQueue 0 (queueOn 4)
    s.powered = true ∧ s.path.port = .late ∧ s.path.expired = some (1, 0x100) ∧ s.path.recordQueue = some 0 ∧
      (s.queue 0).on = true ∧ (s.queue 0).list.length < (s.queue 0).depth ∧ (late base).path.recordQueue = none := by
  decide

theorem test_witness_completion :
    let s := flying .preread writeTxn base
    let f := flying .forward readTxn base
    s.powered = true ∧ s.path.port = .busy ∧ s.path.txn = some writeTxn ∧ s.path.phase = .preread ∧
      f.path.port = .busy ∧ f.path.txn = some readTxn ∧ f.path.phase = .forward := by decide

theorem test_witness_urst :
    base.powered = true ∧ base.path.phase = .idle ∧ (flying .preread writeTxn base).path.phase ≠ .idle := by
  decide

theorem test_witness_path_reset :
    let s := writing actionAddr base
    s.AwaitsWord actionAddr 1 ∧ s.WritesOpen ∧ s.path.port = .ready ∧
      (writing actionAddr (withPort .busy base)).AwaitsWord actionAddr 1 ∧
      (writing actionAddr (withPort .late base)).WritesOpen ∧ (withPort .down s).path.port = .down ∧
      (writing responseLimitAddr base).AwaitsWord responseLimitAddr 1 ∧ 16 ≤ (fld 0x00070010 0 12).toNat ∧
      (fld 0x00070010 17 3).toNat ≤ 3 ∧ (fld 0x0000000F 0 12).toNat < 16 ∧
      (wbit 0x00090010 16 = true ∧ 3 < (fld 0x00090010 17 3).toNat) := by decide

theorem test_witness_definition :
    let s := writing (ruleAddr 23 (ruleWordOffset .quotaArming)) base
    s.AwaitsWord (ruleAddr 23 (ruleWordOffset .quotaArming)) 1 ∧ s.WritesOpen ∧
      RuleWord.wf .quotaArming 0xFFFFFFFF = true ∧ RuleWord.wf .control 0x0007FFFF = true ∧
      (s.rule 23).state = .disabled ∧ ((s.setRule 23 (entry 2 0 .dormant)).rule 23).state ≠ .disabled := by
  decide

theorem test_witness_enable :
    let s := writing (ruleAddr 0 0) base
    s.AwaitsWord (ruleAddr 0 0) 1 ∧ s.WritesOpen ∧ (s.rule 0).state = .disabled ∧
      ((s.setRule 0 (entry 2 0 .live)).rule 0).state ≠ .disabled ∧ fld (s.rule 0).defn.control 1 2 = 0 := by
  decide
/-- The refusals of ENABLE that its obligation names: those of the definition, and those of quota and arming. -/
def definitionFault (c low high : Word) : Bool := decide (
  (wbit c 0 = false ∧ high.toNat < low.toNat) ∨ fld c 1 2 = 0 ∨
  (1 ≤ (fld c 3 3).toNat ∧ fld c 1 2 ≠ 2) ∨ (fld c 3 3 = 5 ∧ wbit c 6 = true) ∨ 5 < (fld c 3 3).toNat ∨
  4 < (fld c 7 3).toNat ∨ (wbit c 10 = true ∧ fld c 13 2 = 2 ∧ wbit c 1 = true) ∨
  (wbit c 10 = true ∧ fld c 13 2 = 3) ∨ (fld c 7 3 = 3 ∧ wbit c 10 = false))
def armingFault (r : Fin 24) (c q : Word) : Bool := decide (
  (wbit c 16 = true ∧ (fld q 0 12 = 0 ∨ fld c 17 2 = 3)) ∨
  (fld q 15 2 = 1 ∧ ((fld q 17 5).toNat = r.val ∨ 23 < (fld q 17 5).toNat)) ∨
  (fld q 15 2 = 2 ∧ 7 < (fld q 17 5).toNat) ∨ (fld q 15 2 = 3 ∧ 1 < (fld q 17 5).toNat) ∨
  (fld q 22 2 = 1 ∧ fld q 24 8 = 0) ∨ (fld q 22 2 = 2 ∧ 7 < (fld q 24 8).toNat) ∨
  (fld q 22 2 = 3 ∧ 1 < (fld q 24 8).toNat) ∨
  ((fld q 15 2 = 2 ∧ fld q 22 2 = 2 ∨ fld q 15 2 = 3 ∧ fld q 22 2 = 3) ∧
    (fld q 17 5).toNat = (fld q 24 8).toNat))
/-- A definition that falls under none of the refusals: the plainest, and one at the bound of each. -/
theorem test_witness_enable_accepted :
    definitionFault 0x2 0 0 = false ∧ armingFault 0 0x2 0 = false ∧ definitionFault 0x5462C 0x100 0x100 = false ∧
      armingFault 0 0x5462C 0x016E8001 = false ∧ definitionFault 0x4 0 4 = false ∧
      armingFault 23 0x4 0x078D0000 = false := by decide

/-- Each refusal of ENABLE that its obligation names, at a word that just falls under it. -/
theorem test_witness_enable_refusals :
    (wbit 0x2 0 = false ∧ (0x4 : Word).toNat < (0x8 : Word).toNat) ∧ fld 0x0 1 2 = 0 ∧
      (1 ≤ (fld 0xE 3 3).toNat ∧ fld 0xE 1 2 ≠ 2) ∧ (fld 0x6C 3 3 = 5 ∧ wbit 0x6C 6 = true) ∧
      5 < (fld 0x34 3 3).toNat ∧ 4 < (fld 0x282 7 3).toNat ∧
      (wbit 0x4402 10 = true ∧ fld 0x4402 13 2 = 2 ∧ wbit 0x4402 1 = true) ∧
      (wbit 0x6404 10 = true ∧ fld 0x6404 13 2 = 3) ∧ (fld 0x182 7 3 = 3 ∧ wbit 0x182 10 = false) ∧
      (wbit 0x10002 16 = true ∧ fld 0x0 0 12 = 0) ∧ (wbit 0x70002 16 = true ∧ fld 0x70002 17 2 = 3) ∧
      (fld 0x8000 15 2 = 1 ∧ (fld 0x8000 17 5).toNat = 0) ∧ 23 < (fld 0x308000 17 5).toNat ∧
      (fld 0x110000 15 2 = 2 ∧ 7 < (fld 0x110000 17 5).toNat) ∧ (fld 0x58000 15 2 = 3 ∧ 1 < (fld 0x58000 17 5).toNat) ∧
      (fld 0x400000 22 2 = 1 ∧ fld 0x400000 24 8 = 0) ∧ (fld 0x8800000 22 2 = 2 ∧ 7 < (fld 0x8800000 24 8).toNat) ∧
      (fld 0x2C00000 22 2 = 3 ∧ 1 < (fld 0x2C00000 24 8).toNat) ∧
      (fld 0x810000 15 2 = 2 ∧ fld 0x810000 22 2 = 2 ∧ (fld 0x810000 17 5).toNat = (fld 0x810000 24 8).toNat) ∧
      (fld 0xC18000 15 2 = 3 ∧ fld 0xC18000 22 2 = 3) := by decide

theorem test_witness_rule_requests :
    let s := writing (ruleAddr 23 0) (base.setRule 23 (entry 2 0 .live))
    s.AwaitsWord (ruleAddr 23 0) 1 ∧ s.WritesOpen ∧ (s.rule 23).state ≠ .disabled ∧ (s.rule 0).state = .disabled ∧
      (writing (ruleAddr 0 0) base).AwaitsWord (ruleAddr 0 0) 1 ∧ (s.rule 0).window = 0 ∧
      (writing (ruleAddr 23 0) { base with link := Link.reset }).link.locked = true := by decide

theorem test_witness_notice_states :
    let s := (base.setRule 0 (entry 2 0x8000 .dormant)).setRule 1 (entry 2 0x01C00000 .live)
    (s.rule 0).defn.armSource = .rule 0 ∧ (s.rule 0).state ≠ .disabled ∧
      (s.rule 1).defn.disarmSource = .input 1 ∧ (s.rule 1).state = .live := by decide

theorem test_witness_decision_words :
    let s := writing defaultActionsAddr base
    let u := writing unmatchedAddr base
    s.AwaitsWord defaultActionsAddr 1 ∧ s.WritesOpen ∧ fld 0x22 0 2 ≠ 3 ∧ fld 0x22 4 2 ≠ 3 ∧ fld 0x03 0 2 = 3 ∧
      fld 0x30 4 2 = 3 ∧ u.AwaitsWord unmatchedAddr 1 ∧ u.WritesOpen ∧ wbit 0x30 0 = false ∧ fld 0x11 4 2 = 1 ∧
      (wbit 0x21 0 = true ∧ fld 0x21 4 2 = 2) := by decide

theorem test_witness_queue_words :
    let s := writing (queueAddr 3 0) base
    let a := writing (queueAddr 3 1) (base.setQueue 3 { Queue.reset with config := 0x00010100 })
    let f := writing (queueAddr 3 1) (base.setQueue 3 { queueOn 4 with list := [pendingRecord] })
    s.AwaitsWord (queueAddr 3 0) 1 ∧ s.WritesOpen ∧ (s.queue 3).on = false ∧
      ((fld 0x01001100 0 9).toNat = 256 ∧ (fld 0x01001100 12 2).toNat = 1 ∧ (fld 0x01001100 16 9).toNat = 256) ∧
      (fld 0x01010004 0 9).toNat < (fld 0x01010004 16 9).toNat ∧ (fld 0x00010003 0 9).toNat % 4 ≠ 0 ∧ a.AwaitsWord (queueAddr 3 1) 1 ∧
      a.WritesOpen ∧ (a.queue 3).on = false ∧ (a.queue 3).depth ≠ 0 ∧ a.poolUsed + (a.queue 3).depth = 256 ∧
      256 < (a.setQueue 0 (queueOn 4)).poolUsed + (a.queue 3).depth ∧ (a.queue 0).depth = 0 ∧
      (a.queue 3).pendingCount = 0 ∧ (f.queue 3).on = true ∧ (f.queue 3).pendingCount ≠ 0 ∧ f.WritesOpen := by
  decide

theorem test_witness_offer :
    let full : Queue := ⟨0x00011004, true, 65535, [doneRecord, doneRecord, doneRecord, doneRecord]⟩
    let stuck : Queue := { full with list := pendingRecord :: full.list.tail }
    base.queue 0 = Queue.reset ∧ (base.queue 0).on = false ∧ (queueOn 4).list.length < (queueOn 4).depth ∧
      full.on = true ∧ full.depth ≤ full.list.length ∧ fld full.config 12 2 = 1 ∧
      fld (queueOn 4).config 12 2 ≠ 1 ∧ doneRecord.isPending = false ∧ stuck.list.head? = some pendingRecord ∧
      pendingRecord.isPending = true ∧ base.alert.flagSet (.qn 0) = false := by decide
theorem test_loss_past_the_maximum_sets_the_flag :
    let full : Queue := ⟨0x00011004, true, 65535, [doneRecord, doneRecord, doneRecord, doneRecord]⟩
    (((base.setQueue 3 full).offer 3 (.gateOpened 1)).alert.flagSet (.qo 3)) = true := by decide

theorem test_witness_window :
    let s := reading (popAddr 3 5) 1 base
    let p := reading (peekAddr 0 0) 6 base
    s.powered = true ∧ s.copy = none ∧ s.link.frame = .data .read (popAddr 3 5) 1 ∧
      p.link.frame = .data .read (peekAddr 0 0) 6 := by decide

theorem test_witness_pop :
    let s : State := { reading (popAddr 0 0 + 1) 5 base with copy := some ⟨.pop, 0, true, some doneRecord⟩ }
    let t : State := { reading (popAddr 3 4 + 1) 1 base with copy := some ⟨.pop, 3, false, none⟩ }
    let u : State := { reading (popAddr 2 4 + 1) 4 (base.setQueue 2 { queueOn 4 with list := [doneRecord] }) with
      copy := some ⟨.pop, 2, true, some doneRecord⟩ }
    s.powered = true ∧ s.copy = some ⟨.pop, 0, true, some doneRecord⟩ ∧
      s.link.frame = .data .read (popAddr 0 0 + 1) 5 ∧ t.link.frame = .data .read (popAddr 3 4 + 1) 1 ∧ 5 ≤ 1 + 4 ∧
      u.link.frame = .data .read (popAddr 2 4 + 1) 4 ∧ 8 ≤ 4 + 4 ∧ (u.queue 2).list = [doneRecord] := by
  decide

theorem test_witness_timebase_words :
    let s := writing timebaseActionAddr base
    let c := writing timebaseConfigAddr base
    let p := writing timestampAddr base
    s.AwaitsWord timebaseActionAddr 1 ∧ s.WritesOpen ∧ s.timebase.running = false ∧
      (withTicks s).timebase.running = true ∧ c.AwaitsWord timebaseConfigAddr 1 ∧ 1 ≤ (fld 0xF001 0 9).toNat ∧
      (fld 0xF100 0 9).toNat = 256 ∧ fld 0xF000 0 9 = 0 ∧ 256 < (fld 0x101 0 9).toNat ∧
      p.AwaitsWord timestampAddr 1 ∧ p.WritesOpen ∧ p.owedParts = [] := by decide
/-- An expiry that the last tick still owes, and the value its record carries when a preset comes first (R106). -/
theorem test_preset_leaves_an_owed_expiry_its_tick :
    let s := writing timestampAddr ((({ base with timebase := { base.timebase with timestamp := 5 } } : State).setTimer 0
      { channel 0x10000 .running 1 with tickOwed := true }).setQueue 0 (queueOn 4))
    let t := after (.timestampPreset 9) s
    s.AwaitsWord timestampAddr 1 ∧ s.WritesOpen ∧ s.owedParts = [.timer 0] ∧ (s.timer 0).atExpiry = true ∧
      (s.timer 0).recordQueue = some 0 ∧ t.timebase.timestamp = 9 ∧
      (t.queue 0).list = [⟨0, 5, .timerExpiry 0 .oneshot⟩] := by decide

theorem test_witness_tick :
    let s := withTicks base
    let f : State := { s with timebase := { s.timebase with period := .starting } }
    s.powered = true ∧ s.timebase.running = true ∧ s.timebase.period = .running 1 ∧ base.timebase.running = false ∧
      f.powered = true ∧ f.timebase.running = true ∧ f.timebase.period = .starting := by decide

theorem test_witness_tick_channels :
    let s := ((((withTicks base).setTimer 0 (channel 1 .running 1)).setTimer 1 (channel 2 .running 2)).setTimer 2
      (channel 3 .running 4)).setTimer 3 (channel 3 .running 65535)
    let due : Fin 8 → Prop := fun t =>
      (s.timebase.tapCount + 1).toNat % 16 ^ (fld (s.timer t).config 4 3).toNat = 0
    s.powered = true ∧ s.timebase.running = true ∧ s.owedParts = [] ∧
      (∀ e, (s.input e).samplesAt (s.timebase.tapCount + 1) = false) ∧ due 0 ∧ due 3 ∧
      (s.timer 0).counter = 1 ∧ (s.timer 1).counter ≠ 1 ∧ (s.timer 2).counter.toNat + 1 = (s.timer 2).reload.toNat ∧
      (s.timer 3).counter = 65535 ∧ (s.timer 4).state ≠ .running ∧ fld (s.timer 3).config 0 3 = 3 := by decide
/-- A hold-off and a pulse at their last count and above it, and a filtered input that samples: an event of EVERY mode, one of
HOLD_FIRST with the flag set, and no change. -/
theorem test_witness_tick_counters :
    let g : BitVec 8 → State := fun n =>
      { withTicks base with gate := { base.gate with state := .reopening, powerSeen := true, holdOff := n } }
    let p : BitVec 8 → State := fun n =>
      { withTicks base with alert := { base.alert with config := 0x101, pulse := n, line := true } }
    let i : Word → State := fun w =>
      { (withTicks base).setInput 1 ⟨w, some ⟨false, false, false, true⟩, 255, 0⟩ with
        pins := { base.pins with ev := base.pins.ev.set 1 true } }
    (g 1).owedParts = [] ∧ (g 2).owedParts = [] ∧ (∀ e, ((g 1).input e).samplesAt ((g 1).timebase.tapCount + 1) = false) ∧
      ((g 1).timebase.tapCount + 1).toNat % 16 ^ (g 1).gate.holdOffTap.toNat = 0 ∧
      ((p 1).timebase.tapCount + 1).toNat % 16 ^ (p 1).alert.pulseTap.toNat = 0 ∧ (p 2).owedParts = [] ∧
      (i 0x5).owedParts = [] ∧ wbit 0x5 0 = true ∧ 1 ≤ (fld 0x5 2 3).toNat ∧
      ((i 0x5).timebase.tapCount + 1).toNat % 16 ^ ((fld 0x5 2 3).toNat - 1) = 0 ∧ wbit 0x5 5 = false ∧
      wbit 0x25 5 = true ∧ wbit 0x7 1 = true ∧ (i 0x25).alert.flagSet (.input 1) = false := by decide

theorem test_witness_timer_words :
    let c := writing (timerAddr 7 0) base
    let r := writing (timerAddr 7 1) base
    let a := writing (timerAddr 7 2) base
    let m := writing (timerAddr 7 2) (base.setTimer 7 (channel 3 .stopped 0))
    c.WritesOpen ∧ c.AwaitsWord (timerAddr 7 0) 1 ∧ (c.timer 7).state = .stopped ∧
      ((fld 0x5D43 0 3).toNat = 3 ∧ (fld 0x5D43 4 3).toNat = 4 ∧ fld 0x5D43 8 2 = 1 ∧ (fld 0x5D43 10 5).toNat = 23) ∧
      4 ≤ (fld 0x4 0 3).toNat ∧ fld 0x300 8 2 = 3 ∧ (fld 0xA00 8 2 = 2 ∧ 1 < (fld 0xA00 10 5).toNat) ∧
      ((c.setTimer 7 (channel 2 .lapsed 5)).timer 7).state ≠ .stopped ∧ r.AwaitsWord (timerAddr 7 1) 1 ∧
      fld 0x1 0 16 ≠ 0 ∧ fld 0x10000 0 16 = 0 ∧ a.AwaitsWord (timerAddr 7 2) 1 ∧ a.WritesOpen ∧
      fld (a.timer 7).config 0 3 = 0 ∧ fld (m.timer 7).config 0 3 = 3 ∧ (m.timer 7).state = .stopped := by
  decide

theorem test_witness_expiry :
    let s := (base.setTimer 0 { channel 2 .running 1 with tickOwed := true }).setTimer 7
      { channel 3 .running 4 with tickOwed := true }
    s.powered = true ∧ (s.timer 0).state = .running ∧ (s.timer 0).tickOwed = true ∧ fld (s.timer 0).config 0 3 = 2 ∧
      (s.timer 0).counter = 1 ∧ (s.timer 7).state = .running ∧ (s.timer 7).tickOwed = true ∧
      fld (s.timer 7).config 0 3 = 3 ∧ (s.timer 7).counter.toNat + 1 = (s.timer 7).reload.toNat := by decide

theorem test_witness_trigger :
    (channel 0 .stopped 0).mode = .oneshot ∧ (channel 0 .running 1).state ≠ .stopped ∧
      (channel 1 .running 1).mode = .repeating ∧ (channel 2 .lapsed 5).mode = .retrigger ∧
      (channel 2 .stopped 5).state = .stopped ∧ (channel 3 .waiting 0).mode = .measure ∧
      (channel 0x90003 .running 65535).recordIntervals = true ∧
      (channel 0x90003 .running 65535).recordQueue = some 0 ∧ (channel 3 .running 0).tickOwed = false := by
  decide

theorem test_witness_pin :
    let on : Word → State := fun w => base.setInput 1 ⟨w, some ⟨false, false, false, false⟩, 255, 0⟩
    let held : State := { on 0x21 with alert := { base.alert with flags := 0x20000 } }
    let named := ((on 0x1).setTimer 0 (channel 0x600 .stopped 0)).setRule 0 (entry 2 0x00038000 .dormant)
    base.powered = true ∧ base.evPin 1 = !true ∧ (base.input 1).sampler = none ∧
      fld ((on 0x5).input 1).config 2 3 ≠ 0 ∧ ((on 0x1).input 1).sampler = some ⟨!true, false, false, false⟩ ∧
      fld ((on 0x1).input 1).config 2 3 = 0 ∧ true = wbit ((on 0x3).input 1).config 1 ∧
      true ≠ wbit ((on 0x1).input 1).config 1 ∧ wbit ((on 0x1).input 1).config 5 = false ∧
      wbit (held.input 1).config 5 = true ∧ held.alert.flagSet (.input 1) = true ∧
      ((on 0x41).input 1).recordQueue = some 0 ∧ (∀ c, ((on 0x41).timer c).trigger ≠ .input 1) ∧
      (named.timer 0).trigger = .input 1 ∧ (named.timer 1).trigger ≠ .input 1 ∧
      (named.rule 0).defn.armSource = .input 1 ∧ (named.rule 0).state ≠ .disabled ∧
      ((withTicks (on 0x41)).timebase.running = true ∧ (withTicks (on 0x41)).evPin 1 = !true) := by decide

theorem test_witness_input_word :
    let s := writing (inputAddr 1 0) base
    let on := writing (inputAddr 1 0) (base.setInput 1 ⟨0x1, some ⟨false, false, false, false⟩, 0, 0⟩)
    s.AwaitsWord (inputAddr 1 0) 1 ∧ s.WritesOpen ∧ wbit (s.input 1).config 0 = false ∧ wbit 0x1 0 = true ∧
      wbit (on.input 1).config 0 = true ∧ on.WritesOpen ∧ wbit 0x0 0 = false ∧
      ((fld 0x1CD 2 3).toNat = 3 ∧ wbit 0x1CD 6 = true ∧ (fld 0x1CD 7 3).toNat = 3) ∧ 3 < (fld 0x11 2 3).toNat ∧
      (wbit 0x241 6 = true ∧ 3 < (fld 0x241 7 3).toNat) ∧
      (on.input 1).sampler = some ⟨false, false, false, false⟩ := by decide

theorem test_witness_pfail :
    let q := (base.setQueue 0 (queueOn 4))
    let g : State := { q with gate := { q.gate with config := 0x100100 } }
    let c : State := withPfail true { withGate .closed base with
      gate := { base.gate with state := .closed, pfail := true, powerSeen := true } }
    g.powered = true ∧ g.pins.pfail = false ∧ g.store.state = .idle ∧ g.gate.state = .opened ∧
      g.gate.inFlight = false ∧ g.gate.recordQueue = some 0 ∧ (g.queue 0).on = true ∧
      (g.queue 0).list.length < (g.queue 0).depth ∧
      ({ g with gate := { g.gate with inFlight := true } }).gate.inFlight = true ∧
      (withGate .reopening g).gate.state = .reopening ∧ (withGate .draining g).gate.state = .draining ∧
      c.pins.pfail = true ∧ c.store.state ≠ .loading ∧ c.gate.state = .closed ∧ c.gate.hold = false ∧
      c.gate.powerSeen = true ∧ (withPfail true base).gate.state ≠ .closed ∧
      State.reset.powered = true ∧ State.reset.store.state = .loading := by decide
theorem test_witness_pfail_saving :
    let s : State := { base with store := { base.store with state := .saving, copy := some .factory } }
    s.powered = true ∧ s.pins.pfail = false ∧ s.store.state = .saving ∧ s.store.copy = some Image.factory := by decide

theorem test_witness_drain :
    let d : Bool → Bool → Bool → State := fun p h m =>
      { base with gate := { base.gate with state := .draining, pfail := p, hold := h, powerSeen := m } }
    let r : State := { base.setQueue 0 (queueOn 4) with gate :=
      { base.gate with state := .reopening, powerSeen := true, holdOff := 1, tickOwed := true, config := 0x100100 } }
    (d true false true).powered = true ∧ (d true false true).gate.state = .draining ∧
      (d true false true).gate.inFlight = false ∧ (d true false true).gate.pfail = true ∧
      (d false true false).gate.hold = true ∧ (d false false true).gate.powerSeen = true ∧
      (d false false false).gate.powerSeen = false ∧ (d true false true).gate.recordQueue = none ∧ r.powered = true ∧ r.gate.state = .reopening ∧
      r.gate.tickOwed = true ∧ r.gate.recordQueue = some 0 ∧ (r.queue 0).on = true ∧
      (r.queue 0).list.length < (r.queue 0).depth := by decide

/-- The end of a drain with a record queue: the drain that stays CLOSED by PFAIL or the hold or waits for the hold-off, and the one
that goes on to OPEN, with room for one record and for two, and with the queue OFF. -/
theorem test_witness_drain_records :
    let d : Bool → Bool → Queue → State := fun h m q => { base.setQueue 3 q with gate :=
      { base.gate with state := .draining, hold := h, powerSeen := m, config := 0x700100 } }
    let one : Queue := { queueOn 4 with list := [doneRecord, doneRecord, doneRecord] }
    let two : Queue := { queueOn 4 with list := [doneRecord, doneRecord] }
    (d true false one).gate.recordQueue = some 3 ∧ (d true false one).gate.inFlight = false ∧
      (d true false one).gate.hold = true ∧ (d false true one).gate.powerSeen = true ∧ one.on = true ∧
      one.list.length < one.depth ∧
      (¬ ((d false false two).gate.pfail = true ∨ (d false false two).gate.hold = true ∨
        (d false false two).gate.powerSeen = true)) ∧
      two.list.length + 2 ≤ two.depth ∧ Queue.reset.on = false ∧
      (d false false Queue.reset).gate.recordQueue = some 3 := by decide
/-- A drain ended by no cause leaves its two records side by side (log 28). -/
theorem test_drain_straight_to_open :
    let s : State := { base.setQueue 3 (queueOn 4) with gate := { base.gate with state := .draining, config := 0x700100 } }
    ((after .gateDrainEnd s).queue 3).list.map Record.body = [.gateClosed .service, .gateOpened 0] := by decide

theorem test_witness_gate_words :
    let g : GateState → Bool → Bool → Bool → State := fun st h p m => writing gateActionAddr
      { base.setQueue 0 (queueOn 4) with gate :=
        { base.gate with state := st, hold := h, pfail := p, powerSeen := m, config := 0x100100 } }
    let w := writing gateConfigAddr base
    (g .opened false false false).AwaitsWord gateActionAddr 1 ∧ (g .opened false false false).WritesOpen ∧
      (g .closed true false false).gate.hold = true ∧ (g .opened false false false).gate.inFlight = false ∧
      (g .opened false false false).gate.recordQueue = some 0 ∧ ((g .opened false false false).queue 0).on = true ∧
      base.gate.recordQueue = none ∧ (g .reopening false false true).gate.state = .reopening ∧
      (g .draining false true true).gate.state = .draining ∧ (g .closed true false true).gate.powerSeen = true ∧
      (g .closed true true true).gate.pfail = true ∧ (g .draining true false false).gate.state ≠ .closed ∧
      (g .draining true false false).gate.hold = true ∧ w.AwaitsWord gateConfigAddr 1 ∧ w.WritesOpen ∧
      (fld 0x73FF01 8 8 ≠ 0 ∧ (fld 0x73FF01 16 3).toNat = 3 ∧ (fld 0x73FF01 0 2).toNat = 1 ∧
        (fld 0x73FF01 21 3).toNat = 3) ∧ fld 0x30001 8 8 = 0 ∧ 3 < (fld 0x40100 16 3).toNat ∧
      1 < (fld 0x102 0 2).toNat ∧ (wbit 0x900100 20 = true ∧ 3 < (fld 0x900100 21 3).toNat) := by decide

theorem test_witness_clear_flags :
    let s := writing alertFlagsAddr base
    let l := writing alertFlagsAddr { base with link := Link.reset }
    s.AwaitsWord alertFlagsAddr 1 ∧ s.store.state = .idle ∧ l.AwaitsWord alertFlagsAddr 1 ∧ l.link.locked = true ∧
      (withStore .saving s).store.state = .saving := by decide

theorem test_witness_alert_words :
    let p : Alert := { base.alert with config := 0xFF01, flags := 0x400000 }
    let s := writing alertEnableAddr base
    let sp : State := { s with alert := p }
    let c := writing alertConfigAddr base
    s.AwaitsWord alertEnableAddr 1 ∧ s.WritesOpen ∧ fld s.alert.config 0 2 ≠ 1 ∧ fld sp.alert.config 0 2 = 1 ∧
      sp.alert.flags &&& (0x3FFFFF : Word).setWidth 23 = 0 ∧
      sp.alert.flags &&& ~~~sp.alert.enables &&& (0x400000 : Word).setWidth 23 ≠ 0 ∧ sp.alert.tickOwed = false ∧
      sp.alert.lastTick ≠ .after ∧ sp.alert.lastTick ≠ .counted ∧
      ({ p with enables := 0x400000 } : Alert).flags &&& ~~~(0x400000 : BitVec 23) &&& (0x400000 : Word).setWidth 23 = 0 ∧
      p.flags &&& (0x400000 : Word).setWidth 23 ≠ 0 ∧ c.AwaitsWord alertConfigAddr 1 ∧ c.WritesOpen ∧
      ((fld 0x20101 0 2).toNat = 1 ∧ fld 0x20101 8 8 ≠ 0 ∧ (fld 0x20101 16 3).toNat = 2) ∧ 1 < (fld 0x102 0 2).toNat ∧
      fld 0x1 8 8 = 0 ∧ 2 < (fld 0x30100 16 3).toNat ∧
      ({ p with enables := 1 } : Alert).enables.getLsbD (Flag.pos (.qn 0)) = true ∧
      ({ p with lastTick := .counted } : Alert).lastTick = .counted ∧ p.tickOwed = false ∧ p.lastTick = .taken ∧
      base.powered = true ∧ ({ p with pulse := 1, tickOwed := true } : Alert).tickOwed = true := by decide
/-- A pulse start with the last tick still to come: at a tick of the new tap with the width above 1 and at 1, and off it. -/
theorem test_witness_pulse_start :
    let p : Word → Alert := fun c =>
      { base.alert with config := c, enables := 0x40000, tickOwed := true, lastTick := .unplaced }
    fld (p 0xFF01).config 0 2 = 1 ∧ (p 0xFF01).enables.getLsbD (Flag.pos .rule) = true ∧
      (p 0xFF01).tickOwed = true ∧ 2 ≤ (fld (p 0xFF01).config 8 8).toNat ∧ fld (p 0x0101).config 8 8 = 1 ∧
      (5 : BitVec 16).toNat % 16 ^ (fld (p 0xFF01).config 16 3).toNat = 0 ∧
      (5 : BitVec 16).toNat % 16 ^ (fld (p 0x1FF01).config 16 3).toNat ≠ 0 ∧
      ({ p 0xFF01 with tickOwed := false, lastTick := .after } : Alert).lastTick = .after ∧
      (p 0xFF01).lastTick = .unplaced ∧ ({ p 0xFF01 with lastTick := .before } : Alert).lastTick = .before := by decide
/-- Two settings of one command before the tick still owed: the counter ends at the width less one (log 14). -/
theorem test_settings_then_the_owed_tick :
    let a : Alert := { base.alert with
      config := 0x0501, enables := 0xC0000, pulse := 1, line := true, tickOwed := true, lastTick := .unplaced }
    (((a.setFlag 5 .rule).setFlag 5 .quota).commandEnds .unplaced) =
      { a with flags := 0xC0000, pulse := 4, tickOwed := false, lastTick := .taken } := by decide
/-- The tick that has ended a pulse is not counted again: an expiry of the same tick starts the full width (R170; log 14). -/
theorem test_expiry_after_the_pulse_end_has_the_full_width :
    let s : State := base.setTimer 0 { channel 0 .running 1 with tickOwed := true }
    let p : State := { s with alert := { s.alert with
      config := 0x0501, enables := 0x7FFFFF, pulse := 1, line := true, tickOwed := true, lastTick := .unplaced } }
    (after (.timerExpiry 0) (after .alertPulseEnd p)).alert.pulse = 5 := by decide
/-- A pulse of width 1 that a command leaves with the last tick owed ends before the next tick (R170; log 14). -/
theorem test_width_one_pulse_ends_before_the_next_tick :
    let p : State := withTicks { base with alert := { base.alert with
      config := 0x0101, pulse := 1, line := true, tickOwed := true, lastTick := .unplaced } }
    (after .tick p).alert = { p.alert with pulse := 0, line := false, tickOwed := false } := by decide

theorem test_witness_frame :
    base.powered = true ∧ base.pins.scsLow = false ∧ base.pins.rst = false ∧ 1 ≤ (1 : BitVec 8).toNat ∧
      (64 : BitVec 8).toNat ≤ 64 ∧ 64 < (65 : BitVec 8).toNat := by decide
/-- An unmapped address of each clause, at its bounds. -/
theorem test_witness_unmapped :
    ([0x00B, 0x03F, 0x104, 0x11F, 0x126, 0x19F, 0x1A3, 0x1B7, 0x1BC, 0x1C7, 0x1C8, 0xFFFF] : List ServiceAddr).all
      (fun a => targetOf a == .unmapped) = true ∧
    ([0x00A, 0x040, 0x103, 0x125, 0x19D, 0x1A2, 0x1B2, 0x1BB, 0x1C3] : List ServiceAddr).all
      (fun a => targetOf a != .unmapped) = true := by decide +kernel
/-- The two words that R191 works out. -/
theorem test_record_words_of_the_spec :
    let a : AccessRecord := ⟨3, 1, .read, 15, 0x100, .withData, false, some 5, none, some .completed⟩
    let b : AccessRecord := ⟨12, 1, .write, 3, 0x100, .addressOnly, true, none, none, some .gated⟩
    (Record.mk 0 0 (.access a)).word 0 = 0x2F000301 ∧ (Record.mk 0 0 (.access b)).word 0 = 0x13170C01 := by decide
/-- Each form of a frame, for what SDO sends. -/
theorem test_witness_sdo :
    let low : Frame → State := fun f =>
      { base with pins := { base.pins with scsLow := true }, link := { base.link with frame := f } }
    (low .void).sdo = .low ∧ (low .header).sdo = .low ∧ (low (.data .write 0x008 1)).sdo = .low ∧
      (low (.data .read 0x008 0)).sdo = .low ∧ base.sdo = .notDriven ∧
      { low .header with powered := false }.sdo = .notDriven ∧
      (low (.data .read 0x008 1)).sdo = .word 0x00000400 := by decide
theorem test_sdo_sends_the_highest_bit_first :
    (Sdo.word 0x80000000).bit 0 = some true ∧ (Sdo.word 0x80000000).bit 31 = some false := by decide

theorem test_witness_write_checks :
    let s := writing 0x00B base
    let l := writing 0x005 { base with link := Link.reset }
    let b := writing 0x1B8 (withStore .loading base)
    let v := writing 0x003 (withStore .saving base)
    s.AwaitsWord 0x00B 1 ∧ targetOf 0x00B = .unmapped ∧ targetOf 0x1CC = .unmapped ∧ l.AwaitsWord 0x005 1 ∧
      targetOf 0x005 ≠ .unmapped ∧ l.link.locked = true ∧ b.AwaitsWord 0x1B8 1 ∧ targetOf 0x1B8 ≠ .unmapped ∧
      b.store.state = .loading ∧ v.AwaitsWord 0x003 1 ∧ v.link.locked = false ∧ v.store.state = .saving ∧
      (writing 0x1C3 base).AwaitsWord 0x1C3 1 ∧ (writing 0x1C3 base).WritesOpen := by decide

theorem test_witness_write_rows :
    let s := writing (ruleAddr 23 0) base
    s.AwaitsWord (ruleAddr 23 0) 1 ∧ fld 0x100000 20 2 = 1 ∧ fld 0x200000 20 2 = 2 ∧ fld 0x300000 20 2 = 3 ∧
      RuleWord.wf .control 0x7FFFF = true ∧ fld 0x1 0 3 = 1 ∧ fld 0xA 0 3 = 2 ∧ fld 0x3 0 3 = 3 ∧ fld 0x8 0 3 = 0 ∧
      4 ≤ (fld 0x4 0 3).toNat ∧ 4 ≤ (fld 0x7 0 3).toNat ∧ (writing actionAddr base).AwaitsWord actionAddr 1 ∧
      (writing actionAddr base).WritesOpen ∧ (writing (queueAddr 3 1) base).AwaitsWord (queueAddr 3 1) 1 ∧
      (writing (timerAddr 7 2) base).AwaitsWord (timerAddr 7 2) 1 ∧ fld 0xB 0 3 = 3 ∧
      (writing gateActionAddr base).AwaitsWord gateActionAddr 1 ∧ (writing gateActionAddr base).WritesOpen ∧
      (writing timebaseActionAddr base).AwaitsWord timebaseActionAddr 1 ∧ (writing timebaseActionAddr base).WritesOpen ∧
      (writing (inputAddr 1 0) base).AwaitsWord (inputAddr 1 0) 1 := by decide

theorem test_witness_lock :
    let s := writing lockAddr base
    let c := writing accessCodeAddr base
    s.AwaitsWord lockAddr 1 ∧ s.store.state ≠ .loading ∧ 0 = s.link.code ∧ 1 ≠ s.link.code ∧
      (withStore .saving s).store.state ≠ .loading ∧ (withStore .loading s).store.state = .loading ∧
      c.AwaitsWord accessCodeAddr 1 ∧ c.WritesOpen ∧
      (writing accessCodeAddr { base with link := Link.reset }).link.locked = true := by decide

theorem test_witness_save :
    let s := writing actionAddr base
    let w : State := { base with store := { base.store with state := .saving, copy := some .factory } }
    s.AwaitsWord actionAddr 1 ∧ s.WritesOpen ∧ s.gate.state = .opened ∧ (withGate .draining s).gate.state ≠ .opened ∧
      w.powered = true ∧ w.store.state = .saving ∧ w.store.copy = some Image.factory := by decide

theorem test_witness_loading_defaults :
    State.reset.powered = true ∧ State.reset.store.state = .loading ∧ State.reset.LoadingOk ∧
      State.reset.store.check ≠ some (Config.checkValue State.reset.store.image.words) ∧
      (withPfail true State.reset).pins.pfail = true ∧ (withPfail true State.reset).LoadingOk := by
  refine ⟨by decide, by decide, by decide, ?_, by decide, by decide⟩
  exact fun h => Option.some_ne_none _ h.symm

theorem test_witness_loading_image :
    let i : Image := { Image.factory with
      rules := Image.factory.rules.set 0 ⟨wholeRange 0x2 0x8000, true⟩
      queues := Image.factory.queues.set 0 ⟨0x00040004, true⟩
      timers := Image.factory.timers.set 0 ⟨0x3, 5, true⟩
      inputs := Image.factory.inputs.set 0 0x1
      timebaseRunning := true
      code := 5 }
    let s : State := { State.reset with store := { Store.reset with image := i, check := some (Config.checkValue i.words) } }
    s.powered = true ∧ s.store.state = .loading ∧ s.LoadingOk ∧
      s.store.check = some (Config.checkValue s.store.image.words) ∧
      ((wholeRange 0x2 0x8000).enableOk 0 = false ∧ (wholeRange 0x2 0x18000).enableOk 0 = true ∧ s.pins.pfail = false) := by
  refine ⟨rfl, rfl, fun _ => ?_, rfl, by decide⟩
  exact (by decide : State.reset.LoadingOk) rfl

theorem test_witness_restart :
    let s := writing actionAddr base
    let f := flying .forward writeTxn s
    let h : State := { base with path := { base.path with restartHold := true }, link :=
      { base.link with status := .busy, pendingMark := true } }
    s.AwaitsWord actionAddr 1 ∧ s.WritesOpen ∧ s.path.phase = .idle ∧ s.gate.hold = false ∧ s.gate.state ≠ .draining ∧
      f.AwaitsWord actionAddr 1 ∧ f.path.phase ≠ .idle ∧ h.powered = true ∧ h.path.restartHold = true ∧
      h.path.phase = .idle ∧ h.gate.hold = false ∧ h.gate.state ≠ .draining := by decide
/-- RESTART with the hold set: in each state of the gate it can meet, with the record queue ON and OFF, and an enabled input. -/
theorem test_witness_restart_release :
    let g : GateState → Bool → Bool → Queue → State := fun st p m q =>
      writing actionAddr { base.setQueue 0 q with
        gate := { base.gate with state := st, hold := true, pfail := p, powerSeen := m, config := 0x100100 } }
    (g .closed false false (queueOn 4)).AwaitsWord actionAddr 1 ∧ (g .closed false false (queueOn 4)).WritesOpen ∧
      (g .closed false false (queueOn 4)).path.phase = .idle ∧ (g .closed false false (queueOn 4)).gate.hold = true ∧
      (g .closed false false (queueOn 4)).gate.recordQueue = some 0 ∧ 1 ≤ (queueOn 4).depth ∧
      (g .closed false false Queue.reset).gate.state ≠ .draining ∧ Queue.reset.on = false ∧
      (g .closed false true Queue.reset).gate.powerSeen = true ∧ (g .closed true true Queue.reset).gate.pfail = true ∧
      (g .reopening false true Queue.reset).gate.state = .reopening ∧ (queueOn 4).notify = 1 ∧
      { queueOn 4 with config := 0x00020004 }.notify ≠ 1 ∧ 1 ≤ { queueOn 4 with config := 0x00020004 }.depth ∧
      base.gate.recordQueue = none := by decide
/-- What the flag set by that record meets: an enable clear, LEVEL mode, and PULSE mode with the enable set. -/
theorem test_witness_restart_flag :
    let p : Alert := { base.alert with config := 0x0101, enables := 0x000011 }
    fld base.alert.config 0 2 ≠ 1 ∧ fld p.config 0 2 = 1 ∧ p.enables.getLsbD ((1 : Fin 4).val) = false ∧
      p.enables.getLsbD ((0 : Fin 4).val) = true ∧ p.enables.getLsbD (4 + (0 : Fin 4).val) = true ∧
      (p.lastTick = .unplaced ∨ p.lastTick = .taken) := by decide

theorem test_witness_resets :
    let w : Store := { base.store with state := .saving, copy := some .factory, check := none }
    base.powered = true ∧ base.store.state ≠ .saving ∧ w.Ok ∧ w.state = .saving := by decide

/-- A state in which every invariant holds and a step answers a next state. -/
theorem test_witness_invariants :
    let s : State := { base with pending := [.upstreamRequest (.read 0 [])] }
    (s.LoadingOk ∧ s.PoolOk ∧ s.SerialsOk ∧ s.path.PhaseOk ∧ s.path.TimerOk ∧ s.path.MarkerOk ∧ s.PendingOk) ∧
      (s.MarkerInFlight ∧ s.TimersOk ∧ s.InputsOk ∧ s.gate.Ok ∧ s.alert.LineOk) ∧
      (s.timebase.Ok ∧ s.store.Ok ∧ s.link.MarkOk) :=
  ⟨by decide, by decide, by decide⟩
theorem test_witness_invariant_step : ∃ t, step { base with pending := [.upstreamRequest (.read 0 [])] } = .next t :=
  ⟨_, rfl⟩
theorem test_witness_rules_invariant : base.RulesOk := by
  intro r
  constructor <;> revert r <;> decide
theorem test_witness_frame_invariant : base.FrameOk :=
  ⟨fun _ _ _ h => Frame.noConfusion h, fun _ => rfl, fun _ => rfl⟩
theorem test_witness_words_invariant : base.WordsOk := by
  constructor <;> decide
/-- A LOADING part steps as well. -/
theorem test_witness_loading_step : State.reset.LoadingOk ∧ ∃ t, step State.reset = .next t :=
  ⟨by decide, _, rfl⟩

end Sys2Proof.Tests
end

section
/-! DISABLE and CLEAR_HITS on a rule entry (R18, R19): what a DISABLED entry answers to candidates and notices, what the two
requests do to an entry, and where the status word holds the hit count. -/

namespace Sys2Proof.Machine

/-! ### A DISABLED entry (R18, R20) -/

namespace Rule

theorem isEnabled_iff {x : Rule} : x.isEnabled = true ↔ x.state ≠ .disabled := by simp [isEnabled]

theorem isEnabled_eq_false_iff {x : Rule} : x.isEnabled = false ↔ x.state = .disabled := by simp [isEnabled]

theorem candidate_of_disabled {x : Rule} (h : x.state = .disabled) (kind : AccessKind) (a : MemAddr) :
    x.candidate kind a = false := by simp [candidate, h]

theorem arm_of_disabled {x : Rule} (h : x.state = .disabled) : x.arm = x := by simp only [arm, h]

theorem disarm_of_disabled {x : Rule} (h : x.state = .disabled) : x.disarm = x := by simp only [disarm, h]

end Rule

/-! ### Notices, as each rule sees them (R145, R146, R129) -/

namespace State

theorem rule_armFrom (s : State) (src : ArmSource) (r : Fin 24) :
    (s.armFrom src).rule r = if (s.rule r).defn.armSource = src then (s.rule r).arm else s.rule r :=
  rule_mapRules ..

theorem rule_disarmFrom (s : State) (src : DisarmSource) (r : Fin 24) :
    (s.disarmFrom src).rule r = if (s.rule r).defn.disarmSource = src then (s.rule r).disarm else s.rule r :=
  rule_mapRules ..

theorem rule_resetWindowsOf (s : State) (t : Fin 8) (r : Fin 24) :
    (s.resetWindowsOf t).rule r =
      if (s.rule r).defn.quota && (s.rule r).defn.windowTimer == t then (s.rule r).resetWindow else s.rule r :=
  rule_mapRules ..

theorem rule_armFrom_of_disabled {s : State} {r : Fin 24} (h : (s.rule r).state = .disabled) (src : ArmSource) :
    (s.armFrom src).rule r = s.rule r := by
  rw [rule_armFrom, Rule.arm_of_disabled h, ite_self]

theorem rule_disarmFrom_of_disabled {s : State} {r : Fin 24} (h : (s.rule r).state = .disabled)
    (src : DisarmSource) : (s.disarmFrom src).rule r = s.rule r := by
  rw [rule_disarmFrom, Rule.disarm_of_disabled h, ite_self]

/-- A window-reset notice moves no window count away from zero. -/
theorem window_resetWindowsOf_of_zero {s : State} {r : Fin 24} (h : (s.rule r).window = 0) (t : Fin 8) :
    ((s.resetWindowsOf t).rule r).window = 0 := by
  rw [rule_resetWindowsOf]
  split
  · rfl
  · exact h

/-! ### A write word of a rule entry (R176, R177) -/

@[simp] theorem rule_setFrame (s : State) (f : Frame) (r : Fin 24) : (s.setFrame f).rule r = s.rule r := rfl

/-- The word is let through and its operation answers as it would with the frame left where it was: the state is that
operation's, with the frame and the request status moved on (R174, R176). -/
theorem serviceWrite_answered {s t : State} {a : ServiceAddr} {left : Nat} {st : Status}
    {op : State → Status × State} (h : s.AwaitsWord a left) (hc : s.linkCheck (targetOf a) = none)
    (hop : op (s.setFrame (.data .write (a + 1) left)) = (st, t.setFrame (.data .write (a + 1) left))) :
    s.serviceWrite a op = t.answered a left st false := by
  rw [serviceWrite_passed op h hc, hop]
  rfl

/-- While the lock is LOCKED every mapped word but the lock word and the clear-flags word is refused (R177). -/
theorem linkCheck_locked {s : State} (h : s.link.locked = true) {t : Target} (hmap : t ≠ .unmapped)
    (hlock : t ≠ .device .lock) (hflags : t ≠ .alert 0) : s.linkCheck t = some .locked := by
  simp [linkCheck, hmap, h, hlock, hflags]

/-- An open part lets the control word of a rule through. -/
theorem linkCheck_ruleControl_open {s : State} (h : s.WritesOpen) (r : Fin 24) :
    s.linkCheck (targetOf (ruleAddr r 0)) = none := by
  rw [targetOf_ruleControl]
  exact linkCheck_open h (by simp)

end State

/-! ### The requests on an entry -/

theorem ruleDisable_of_enabled {s : State} {r : Fin 24} (h : (s.rule r).state ≠ .disabled) :
    ruleDisable r s = (.accepted, s.setRule r (s.rule r).disabled) := by
  simp [ruleDisable, Rule.isEnabled_iff.mpr h]

theorem ruleDisable_of_disabled {s : State} {r : Fin 24} (h : (s.rule r).state = .disabled) :
    ruleDisable r s = (.accepted, s) := by
  simp [ruleDisable, Rule.isEnabled_eq_false_iff.mpr h]

theorem ruleDefWrite_of_disabled {s : State} {r : Fin 24} (h : (s.rule r).state = .disabled) (w : RuleWord)
    (v : Word) :
    ruleDefWrite r w v s = (.accepted, s.setRule r { s.rule r with defn := (s.rule r).defn.setWord w v }) := by
  simp [ruleDefWrite, Rule.isEnabled_eq_false_iff.mpr h]

/-- A control word with request NONE is a definition word like the others (R15). -/
theorem ruleWordWrite_of_wf {w : RuleWord} {v : Word} (h : w.wf v = true) (r : Fin 24) (s : State) :
    ruleWordWrite r w v s = ruleDefWrite r w v s := by
  cases w with
  | control =>
    have hreq : fld v 20 2 = 0 := beq_iff_eq.mp h
    simp [ruleWordWrite, ruleControlWrite, hreq]
  | base | limit | dataMask | reference | fill | quotaArming => rfl

/-! ### The commands -/

theorem exec_disable (r : Fin 24) (s : State) :
    exec (.disable r) s = whenPowered (State.serviceWrite (ruleAddr r 0) (ruleDisable r)) s := rfl

theorem exec_clearHits (r : Fin 24) (s : State) :
    exec (.clearHits r) s = whenPowered (State.serviceWrite (ruleAddr r 0) (ruleClearHits r)) s := rfl

theorem exec_ruleDefinitionWrite (r : Fin 24) (w : RuleWord) (v : Word) (s : State) :
    exec (.ruleDefinitionWrite r w v) s =
      whenPowered (State.serviceWrite (ruleAddr r (ruleWordOffset w)) (ruleWordWrite r w v)) s := rfl

/-- DISABLE of an enabled rule. -/
theorem exec_disable_of_enabled {s : State} {r : Fin 24} {left : Nat} (hw : s.AwaitsWord (ruleAddr r 0) left)
    (ho : s.WritesOpen) (h : (s.rule r).state ≠ .disabled) :
    exec (.disable r) s =
      .next ((s.setRule r (s.rule r).disabled).answered (ruleAddr r 0) left .accepted false) := by
  rw [exec_disable, whenPowered_on hw.1]
  exact congrArg _ (State.serviceWrite_answered hw (State.linkCheck_ruleControl_open ho r) (ruleDisable_of_enabled h))

/-- DISABLE of a DISABLED rule. -/
theorem exec_disable_of_disabled {s : State} {r : Fin 24} {left : Nat} (hw : s.AwaitsWord (ruleAddr r 0) left)
    (ho : s.WritesOpen) (h : (s.rule r).state = .disabled) :
    exec (.disable r) s = .next (s.answered (ruleAddr r 0) left .accepted false) := by
  rw [exec_disable, whenPowered_on hw.1]
  exact congrArg _ (State.serviceWrite_answered hw (State.linkCheck_ruleControl_open ho r) (ruleDisable_of_disabled h))

/-- A definition word of a DISABLED rule is stored, unchecked (R15). -/
theorem exec_ruleDefinitionWrite_of_disabled {s : State} {r : Fin 24} {w : RuleWord} {v : Word} {left : Nat}
    (hw : s.AwaitsWord (ruleAddr r (ruleWordOffset w)) left) (ho : s.WritesOpen) (hwf : w.wf v = true)
    (h : (s.rule r).state = .disabled) :
    exec (.ruleDefinitionWrite r w v) s =
      .next ((s.setRule r { s.rule r with defn := (s.rule r).defn.setWord w v }).answered
        (ruleAddr r (ruleWordOffset w)) left .accepted false) := by
  have hc : s.linkCheck (targetOf (ruleAddr r (ruleWordOffset w))) = none := by
    rw [targetOf_ruleWord]
    exact State.linkCheck_open ho (by simp)
  rw [exec_ruleDefinitionWrite, whenPowered_on hw.1]
  refine congrArg _ (State.serviceWrite_answered hw hc ?_)
  rw [ruleWordWrite_of_wf hwf, ruleDefWrite_of_disabled]
  · rfl
  · exact h

/-- CLEAR_HITS, in every rule state. -/
theorem exec_clearHits_of_open {s : State} {r : Fin 24} {left : Nat} (hw : s.AwaitsWord (ruleAddr r 0) left)
    (ho : s.WritesOpen) :
    exec (.clearHits r) s =
      .next ((s.setRule r { s.rule r with hits := 0, alerted := false }).answered (ruleAddr r 0) left
        .accepted false) := by
  rw [exec_clearHits, whenPowered_on hw.1]
  exact congrArg _ (State.serviceWrite_answered hw (State.linkCheck_ruleControl_open ho r) rfl)

theorem exec_clearHits_of_locked {s : State} {r : Fin 24} {left : Nat} (hw : s.AwaitsWord (ruleAddr r 0) left)
    (hl : s.link.locked = true) :
    exec (.clearHits r) s = .next (s.answered (ruleAddr r 0) left .locked false) := by
  have hc : s.linkCheck (targetOf (ruleAddr r 0)) = some .locked := by
    rw [targetOf_ruleControl]
    exact State.linkCheck_locked hl (by simp) (by simp) (by simp)
  rw [exec_clearHits, whenPowered_on hw.1]
  exact congrArg _ (State.serviceWrite'_refused (State.plain (ruleClearHits r)) hw hc)

/-! ### Fields of a word put together from fields -/

theorem fld_or (u v : Word) (lo len : Nat) : fld (u ||| v) lo len = fld u lo len ||| fld v lo len := by
  ext i hi
  simp [fld]

/-- A field reads back the value placed at its first bit. -/
theorem fld_place_same {n : Nat} (x : BitVec n) (lo : Nat) (h : lo + n ≤ 32) : fld (place x lo) lo n = x := by
  ext i hi
  have hlt : lo + i < 32 := by omega
  simp [fld, place, hlt, BitVec.getLsbD_eq_getElem hi]

/-- A value placed below a field leaves it zero. -/
theorem fld_place_below {n : Nat} (x : BitVec n) {lo lo' : Nat} (len : Nat) (h : lo' + n ≤ lo) :
    fld (place x lo') lo len = 0 := by
  ext i hi
  have hx : x.getLsbD (lo + i - lo') = false := x.getLsbD_of_ge _ (by omega)
  simp [fld, place, hx]

theorem fld_placeBit_below (b : Bool) {lo lo' : Nat} (len : Nat) (h : lo' < lo) : fld (placeBit b lo') lo len = 0 :=
  fld_place_below (BitVec.ofBool b) len h

/-- The code of a rule state takes the two low bits alone. -/
theorem fld_ruleStateCode (x : RuleState) : fld x.code 16 16 = 0 := by cases x <;> rfl

theorem State.readWord_rule (s : State) (r : Fin 24) (off : Fin 8) :
    s.readWord (ruleAddr r off.val) = s.readRule r off := by simp only [readWord, targetOf_rule]

/-- The status word of a rule holds the hit count in bits 31:16 (11.3). -/
theorem fld_readWord_ruleStatus (s : State) (r : Fin 24) : fld (s.readWord (ruleAddr r 7)) 16 16 = (s.rule r).hits := by
  have hword : s.readWord (ruleAddr r 7) = s.readRule r 7 := State.readWord_rule s r 7
  rw [hword]
  simp only [State.readRule, fld_or]
  rw [fld_ruleStateCode, fld_placeBit_below _ 16 (by decide), fld_placeBit_below _ 16 (by decide),
    fld_place_below _ 16 (by decide), fld_place_same _ 16 (by decide)]
  simp

/-! ### The obligations -/

/-- Settles O23: a DISABLED entry is out of reach of scan and notices, and DISABLE answers by the state of the entry. -/
theorem disableClearsTheWindowAndTheCountdown : Obligations.DisableClearsTheWindowAndTheCountdown := by
  refine ⟨fun s r left hw ho => ⟨exec_disable_of_enabled hw ho, exec_disable_of_disabled hw ho⟩, fun s r h => ?_⟩
  refine ⟨fun w v left hw ho hwf => ⟨_, exec_ruleDefinitionWrite_of_disabled hw ho hwf h, rfl⟩, ?_⟩
  exact ⟨Rule.candidate_of_disabled h, State.rule_armFrom_of_disabled h, State.rule_disarmFrom_of_disabled h,
    fun c hz => State.window_resetWindowsOf_of_zero hz c⟩

/-- Settles O24: the command by the lock, and the hit count read back from the bits of the status word. -/
theorem clearHitsKeepsEverythingElse : Obligations.ClearHitsKeepsEverythingElse :=
  ⟨fun _ _ _ hw => ⟨exec_clearHits_of_open hw, exec_clearHits_of_locked hw⟩, fld_readWord_ruleStatus⟩

end Sys2Proof.Machine
end

section
/-! Completions on the downstream port (R60, R63, R70): the end of an access is a matter of the path alone, so each part of the
two commands is first read off for the path. -/

namespace Sys2Proof.Machine

namespace State

/-! ### What falls between a decision and its changes, as the path sees it -/

/-- A write word moves the path only by its operation (R176). -/
theorem serviceWrite_path {op : State → Status × State} (hop : ∀ u : State, (op u).2.path = u.path) (a : ServiceAddr)
    (s : State) : (s.serviceWrite a op).path = s.path := by
  have word : ∀ u : State, (u.writeWord a (plain op)).path = u.path := fun u => by
    unfold writeWord
    split
    · rfl
    · exact hop u
  unfold serviceWrite serviceWrite'
  split
  · split
    · exact word _
    · rfl
  · rfl

theorem onPower_path {f : State → State} (hf : ∀ u : State, (f u).path = u.path) (s : State) :
    (s.onPower f).path = s.path := by
  unfold onPower
  split
  · exact hf s
  · rfl

theorem ruleEnable_path (r : Fin 24) (s : State) : (ruleEnable r s).2.path = s.path := by
  unfold ruleEnable
  dsimp only
  split
  · rfl
  · split <;> rfl

theorem ruleDisable_path (r : Fin 24) (s : State) : (ruleDisable r s).2.path = s.path := by
  unfold ruleDisable
  dsimp only
  split <;> rfl

theorem tickIfRunning_frame (s : State) : MomentFrame s s.tickIfRunning := by
  unfold tickIfRunning
  split
  · exact takeTick_frame s
  · exact .refl s

theorem meet_path (b : Between) (s : State) : (s.meet b).path = s.path := by
  cases b with
  | expiry t => exact onPower_path (fun u => (timerExpires_frame t u).path) s
  | overdue t => exact onPower_path (fun u => (measureOverdue_frame t u).path) s
  | pin e c => exact (changePin_frame (fun m u => takeMeeting_frame m u) e c.level s).path
  | tick => exact onPower_path (fun u => (tickIfRunning_frame u).path) s
  | enable r => exact onPower_path (serviceWrite_path (ruleEnable_path r) _) s
  | disable r => exact onPower_path (serviceWrite_path (ruleDisable_path r) _) s
  | inside m => rfl
  | atEnd m => rfl

theorem meetAll_path (bs : List Between) (s : State) : (s.meetAll bs).path = s.path := by
  induction bs generalizing s with
  | nil => rfl
  | cons b bs ih => rw [meetAll_cons, ih, meet_path]

/-- Nothing that comes after a decision moves the path: neither what falls before its changes nor the changes (R45). -/
theorem thenChanges_path (s : State) (p : State × Changes) : (s.thenChanges p).path = p.1.path := by
  by_cases h : p.2.hits = []
  · rw [thenChanges_of_noHits s h, endCommand_path]
  · rw [thenChanges_of_hits s h, (afterDecision_frame _ _).path, meetAll_path, endCommand_path]

/-! ### The end of an access (R60, R63) -/

theorem flagMemErr_path (c : Completion) (s : State) : (s.flagMemErr c).path = s.path := by cases c <;> rfl

theorem gateToldEnd_path (t : Txn) (s : State) : (s.gateToldEnd t).path = s.path := by
  unfold gateToldEnd
  split <;> rfl

/-- A decided transaction goes to FORWARD or is over (R47). -/
theorem carryOut_phase_ne_preread (t : Txn) (v : Verdict) (s : State) : (s.carryOut t v).path.phase ≠ .preread := by
  cases v with
  | forward =>
    unfold carryOut
    dsimp only
    split <;> exact nofun
  | ended o a => exact nofun

/-- A completion takes the transaction out of PREREAD: it ends abandoned, ends with MEMERR, or is decided (R60, R73). -/
theorem prereadEnds_phase_ne_preread (t : Txn) (c : Completion) (s : State) :
    (s.prereadEnds t c).1.path.phase ≠ .preread := by
  unfold prereadEnds
  dsimp only
  split
  · exact nofun
  · cases c with
    | memErr => exact nofun
    | ok w => exact carryOut_phase_ne_preread _ _ _

/-- A completion in FORWARD gives the port back and ends the transaction, whatever meets it (R63, R64, R66). -/
theorem forwardEnds_path (t : Txn) (c : Completion) (s : State) :
    ∃ a, (s.forwardEnds t c).path = s.path.accessDone.finish a := by
  have ended : (({ s with path := s.path.accessDone }.flagMemErr c).gateToldEnd t).path = s.path.accessDone :=
    (gateToldEnd_path t _).trans (flagMemErr_path c _)
  exact ⟨_, congrArg (Path.finish _) ((raceEndParts_momentFrame t _ _ _ _).path.trans ended)⟩

end State

/-! ### The commands -/

theorem exec_completionIgnored (c : Completion) (s : State) : exec (.completionIgnored c) s = .next s := rfl

/-- PREREAD_COMPLETE while a pre-read is in progress. -/
theorem exec_prereadComplete_of_preread {s : State} {x : Txn} (hpow : s.powered = true) (hphase : s.path.phase = .preread)
    (htxn : s.path.txn = some x) (c : Completion) :
    exec (.prereadComplete c) s = .next (s.thenChanges (s.prereadEnds x c)) := by
  have hends : s.completePreread c = s.prereadEnds x c := by simp only [State.completePreread, hpow, hphase, htxn]
  rw [← hends]
  rfl

/-- FORWARD_COMPLETE while a forward is in progress. -/
theorem exec_forwardComplete_of_forward {s : State} {x : Txn} (hpow : s.powered = true) (hphase : s.path.phase = .forward)
    (htxn : s.path.txn = some x) (c : Completion) :
    exec (.forwardComplete c) s = .next (s.endCommand (s.forwardEnds x c)) := by
  have hcmd : exec (.forwardComplete c) s = execForwardComplete c s := rfl
  rw [hcmd, execForwardComplete, whenPowered_on hpow]
  simp only [hphase, htxn]

/-! ### The obligation -/

/-- Settles O18: a completion that comes outside an access leaves the state, and each of the two that end an access is
read off the path that it leaves. -/
theorem completionOutsideAnAccessIsIgnored : Obligations.CompletionOutsideAnAccessIsIgnored := by
  refine ⟨fun s c => exec_completionIgnored c s, fun s x c hpow _ htxn => ⟨fun hphase => ?_, fun hphase => ?_⟩⟩
  · refine ⟨_, exec_prereadComplete_of_preread hpow hphase htxn c, ?_⟩
    rw [State.thenChanges_path]
    exact State.prereadEnds_phase_ne_preread x c s
  · refine ⟨_, exec_forwardComplete_of_forward hpow hphase htxn c, ?_⟩
    obtain ⟨a, hpath⟩ := State.forwardEnds_path x c s
    rw [State.endCommand_path, hpath]
    exact ⟨rfl, rfl⟩

end Sys2Proof.Machine
end

section
/-! Arm and disarm notices by the state of the rule (R145, R146): the two notices as one equation each over all rule states,
then as the table of rules hands them out. -/

namespace Sys2Proof.Machine

/-! ### A notice at one rule -/

namespace Rule

theorem arm_of_enabled {x : Rule} (h : x.state ≠ .disabled) :
    x.arm = { x with state := .live, countdown := x.defn.countdownLoad } := by
  cases hstate : x.state with
  | disabled => exact absurd hstate h
  | dormant | live => simp only [arm, hstate]

theorem disarm_of_live {x : Rule} (h : x.state = .live) : x.disarm = { x with state := .dormant } := by
  simp only [disarm, h]

theorem disarm_of_not_live {x : Rule} (h : x.state ≠ .live) : x.disarm = x := by
  cases hstate : x.state with
  | live => exact absurd hstate h
  | dormant | disabled => simp only [disarm, hstate]

/-- A DORMANT and a LIVE rule take an arm notice alike; a DISABLED rule does not keep it (R145). -/
theorem arm_eq_ite (x : Rule) :
    x.arm = if x.state ≠ .disabled then { x with state := .live, countdown := x.defn.countdownLoad } else x := by
  split
  next h => exact arm_of_enabled h
  next h => exact arm_of_disabled (not_not.mp h)

/-- Only a LIVE rule takes a disarm notice (R146). -/
theorem disarm_eq_ite (x : Rule) : x.disarm = if x.state = .live then { x with state := .dormant } else x := by
  split
  next h => exact disarm_of_live h
  next h => exact disarm_of_not_live h

end Rule

/-! ### A notice from a source -/

namespace State

/-- An update of the rules touches no other field, so it sets no flag and places no record. -/
theorem mapRules_eq_with_rules (s : State) (f : Fin 24 → Rule → Rule) :
    s.mapRules f = { s with rules := (s.mapRules f).rules } := rfl

theorem rule_armFrom_by_state (s : State) (src : ArmSource) (r : Fin 24) :
    (s.armFrom src).rule r =
      if (s.rule r).defn.armSource = src ∧ (s.rule r).state ≠ .disabled then
        { s.rule r with state := .live, countdown := (s.rule r).defn.countdownLoad }
      else s.rule r := by
  rw [rule_armFrom, Rule.arm_eq_ite, ite_and]

theorem rule_disarmFrom_by_state (s : State) (src : DisarmSource) (r : Fin 24) :
    (s.disarmFrom src).rule r =
      if (s.rule r).defn.disarmSource = src ∧ (s.rule r).state = .live then { s.rule r with state := .dormant }
      else s.rule r := by
  rw [rule_disarmFrom, Rule.disarm_eq_ite, ite_and]

end State

/-! ### The obligation -/

/-- Settles O25: each notice is an update of the rules alone, and each rule takes it by its source and its state. -/
theorem armAndDisarmNoticesByRuleState : Obligations.ArmAndDisarmNoticesByRuleState := fun s =>
  ⟨fun src => ⟨s.mapRules_eq_with_rules _, s.rule_armFrom_by_state src⟩,
    fun src => ⟨s.mapRules_eq_with_rules _, s.rule_disarmFrom_by_state src⟩⟩

end Sys2Proof.Machine
end

section
/-! The clear-flags write (R165): the two line modes of the alert controller as one equation, and the one word that asks the
store but not the lock. -/

namespace Sys2Proof.Machine

/-! ### The flags and the line (R165, R168, R170) -/

namespace Alert

theorem pulseMode_iff (a : Alert) : a.pulseMode = true ↔ fld a.config 0 2 = 1 := beq_iff_eq

/-- In PULSE mode the line belongs to the pulse: only the flags change. -/
theorem clearFlags_of_pulseMode {a : Alert} (h : fld a.config 0 2 = 1) (mask : Word) :
    a.clearFlags mask = { a with flags := a.flags &&& ~~~(mask.setWidth 23) } :=
  if_pos ((pulseMode_iff a).mpr h)

/-- In LEVEL mode the line follows the flags that are left. -/
theorem clearFlags_of_levelMode {a : Alert} (h : fld a.config 0 2 ≠ 1) (mask : Word) :
    a.clearFlags mask = { a with flags := a.flags &&& ~~~(mask.setWidth 23) }.followLevel :=
  if_neg (mt (pulseMode_iff a).mp h)

/-- In either mode no field but the flags and the line changes, so a pulse in progress goes on (R170). -/
theorem clearFlags_eq (a : Alert) (mask : Word) :
    a.clearFlags mask = { a with
      flags := a.flags &&& ~~~(mask.setWidth 23)
      line := if fld a.config 0 2 = 1 then a.line else a.flags &&& ~~~(mask.setWidth 23) &&& a.enables != 0 } := by
  split
  next h => exact clearFlags_of_pulseMode h mask
  next h => exact clearFlags_of_levelMode h mask

end Alert

/-! ### The command -/

/-- The lock lets the clear-flags word past, LOCKED or not; a SAVING store then refuses it (R165, R177). -/
theorem State.linkCheck_clearFlags_saving {s : State} (h : s.store.state = .saving) :
    s.linkCheck (.alert 0) = some .busy := by
  simp [linkCheck, h]

theorem exec_clearFlags (v : Word) (s : State) :
    exec (.clearFlags v) s = whenPowered (State.serviceWrite alertFlagsAddr (clearFlagsOp v)) s := rfl

/-- With the store IDLE the flags are cleared, in either lock state. -/
theorem exec_clearFlags_of_idle {s : State} {left : Nat} (hw : s.AwaitsWord alertFlagsAddr left)
    (hs : s.store.state = .idle) (v : Word) :
    exec (.clearFlags v) s =
      .next ({ s with alert := s.alert.clearFlags v }.answered alertFlagsAddr left .accepted false) := by
  have hc : s.linkCheck (targetOf alertFlagsAddr) = none := by
    rw [targetOf_alertFlags]
    exact State.linkCheck_clearFlags hs
  rw [exec_clearFlags, whenPowered_on hw.1]
  exact congrArg _ (State.serviceWrite_answered hw hc rfl)

/-- With the store SAVING nothing but the frame and the request status changes, in either lock state. -/
theorem exec_clearFlags_of_saving {s : State} {left : Nat} (hw : s.AwaitsWord alertFlagsAddr left)
    (hs : s.store.state = .saving) (v : Word) :
    exec (.clearFlags v) s = .next (s.answered alertFlagsAddr left .busy false) := by
  have hc : s.linkCheck (targetOf alertFlagsAddr) = some .busy := by
    rw [targetOf_alertFlags]
    exact State.linkCheck_clearFlags_saving hs
  rw [exec_clearFlags, whenPowered_on hw.1]
  exact congrArg _ (State.serviceWrite'_refused (State.plain (clearFlagsOp v)) hw hc)

/-! ### The obligation -/

/-- Settles O43: the command by the state of the store, with the alert controller's part as its equation over both modes. -/
theorem clearFlagsClearsTheMask : Obligations.ClearFlagsClearsTheMask := by
  intro s v left hw
  refine ⟨fun hidle => ?_, fun hsaving => exec_clearFlags_of_saving hw hsaving v⟩
  rw [exec_clearFlags_of_idle hw hidle v, Alert.clearFlags_eq]

end Sys2Proof.Machine
end

section
/-! Relations that hold across every single change that an expiry, an event, a tick or a meeting makes hold across the whole of it.
Each invariant is then a matter of the single changes. -/

namespace Sys2Proof.Machine

namespace State

/-! ### What expiries, events and owed ticks do -/

/-- `R` holds across each thing that an expiry, a trigger, an event or the end of a hold-off does. -/
structure EventClosed (R : State → State → Prop) : Prop where
  refl : ∀ s, R s s
  trans : ∀ {s t u}, R s t → R t u → R s u
  draw : ∀ s : State, R s { s with draw := s.draw + 1 }
  flag : ∀ (s : State) (g : Flag), R s (s.setFlag g)
  place : ∀ (s : State) (n : Fin 4) (b : RecordBody), (∀ a, b ≠ .access a) → R s (s.placeIn n b).1
  arm : ∀ (s : State) (src : ArmSource), R s (s.armFrom src)
  disarm : ∀ (s : State) (src : DisarmSource), R s (s.disarmFrom src)
  windows : ∀ (s : State) (t : Fin 8), R s (s.resetWindowsOf t)
  expired : ∀ (s : State) (t : Fin 8), (s.timer t).atExpiry = true → R s (s.setTimer t (s.timer t).expired)
  triggered : ∀ (s : State) (t : Fin 8), R s (s.setTimer t (s.timer t).triggered)
  sampled : ∀ (s : State) (e : Fin 2) (m : Sampler), (s.input e).sampler.isSome = true →
    R s (s.setInput e { s.input e with sampler := some m })
  counted : ∀ (s : State) (e : Fin 2), R s (s.setInput e { s.input e with count := satInc (s.input e).count })
  stamped : ∀ (s : State) (e : Fin 2), R s (s.setInput e { s.input e with lastEvent := s.timebase.timestamp })
  reopened : ∀ s : State, s.gate.state = .reopening → s.gate.tickOwed = true →
    R s { s with gate := { s.gate with state := .opened, powerSeen := false, holdOff := 0, tickOwed := false } }

namespace EventClosed

variable {R : State → State → Prop} (h : EventClosed R)
include h

theorem foldl {α : Type} {f : State → α → State} (hf : ∀ s x, R s (f s x)) (l : List α) (s : State) : R s (l.foldl f s) :=
  foldl_frame h.refl h.trans hf l s

theorem race {α : Type} {f : α → State → State} (hf : ∀ x s, R s (f x s)) (parts : List α) (s : State) :
    R s (race parts f s) := race_frame h.refl h.trans h.draw hf parts s

theorem judgeNotify (s : State) (n : Fin 4) (k : Nat) : R s (s.judgeNotify n k) := by
  unfold State.judgeNotify
  dsimp only
  split
  · exact h.flag s _
  · exact h.refl s

theorem offerTo (s : State) (q : Option (Fin 4)) (b : RecordBody) (hb : ∀ a, b ≠ .access a) : R s (s.offerTo q b) := by
  cases q with
  | none => exact h.refl s
  | some n => exact h.trans (h.place s n b hb) (h.judgeNotify _ n _)

theorem expire (s : State) (t : Fin 8) (ht : (s.timer t).atExpiry = true) : R s (s.expire t) := by
  have channel : R s ((s.setTimer t (s.timer t).expired).setFlag (.timer t)) := h.trans (h.expired s t ht) (h.flag _ _)
  exact h.trans (h.trans (h.trans (h.trans channel (h.offerTo _ _ _ (by nofun))) (h.arm _ _)) (h.disarm _ _)) (h.windows _ t)

theorem triggerTimer (s : State) (t : Fin 8) : R s (s.triggerTimer t) :=
  h.trans (h.triggered s t) (h.offerTo _ _ _ (by nofun))

theorem gateEnterOpen (s : State) (hs : s.gate.state = .reopening) (ho : s.gate.tickOwed = true) : R s s.gateEnterOpen :=
  h.trans (h.reopened s hs ho) (h.offerTo _ _ _ (by nofun))

theorem applyEventPart {k : EventMeetings} (hk : ∀ m s, R s (k.take m s)) (e : Fin 2) (p : EventPart) (s : State) :
    R s (s.applyEventPart k e p) := by
  cases p with
  | record c l => exact h.trans (h.stamped s e) (h.offerTo _ _ _ (by nofun))
  | trigger t => exact h.triggerTimer s t
  | meet m => exact hk m s

theorem effectiveEvent {k : EventMeetings} (hk : ∀ m s, R s (k.take m s)) (e : Fin 2) (s : State) :
    R s (s.effectiveEvent k e) := by
  unfold State.effectiveEvent
  refine h.trans (h.trans ?_ (h.race (fun p s => h.applyEventPart hk e p s) _ _)) (h.trans (h.arm _ _) (h.disarm _ _))
  exact h.trans (h.trans (h.stamped s e) (h.flag _ _)) (h.foldl (fun s t => h.triggerTimer s t) _ _)

theorem inputEvent {k : EventMeetings} (hk : ∀ m s, R s (k.take m s)) (e : Fin 2) (s : State) : R s (s.inputEvent k e) := by
  unfold State.inputEvent
  dsimp only
  split
  · exact h.trans (h.counted s e) (h.effectiveEvent hk e _)
  · exact h.counted s e

theorem moveSampler {k : EventMeetings} (hk : ∀ m s, R s (k.take m s)) (e : Fin 2) (m m' : Sampler) (s : State)
    (hm : (s.input e).sampler = some m) : R s (s.moveSampler k e m m') := by
  have sampled := h.sampled s e m' (by rw [hm]; rfl)
  unfold State.moveSampler
  dsimp only
  split
  · exact h.trans sampled (h.inputEvent hk e _)
  · exact sampled

theorem sampleInput (e : Fin 2) (s : State) : R s (s.sampleInput e) := by
  unfold State.sampleInput
  split
  next m hm => exact h.moveSampler (fun _ s => h.refl s) e m _ s hm
  next => exact h.refl s

theorem takeOwedTimer (t : Fin 8) (s : State) : R s (s.takeOwed (.timer t)) := by
  dsimp only [State.takeOwed]
  split
  next hg => exact h.expire s t (Bool.and_eq_true_iff.mp hg).2
  · exact h.refl s

theorem takeOwedGate (s : State) : R s (s.takeOwed .gate) := by
  dsimp only [State.takeOwed]
  split
  next hg => exact h.gateEnterOpen s hg.1 hg.2
  · exact h.refl s

end EventClosed

/-- `R` holds across the end of an owed pulse as well. -/
structure EffectClosed (R : State → State → Prop) : Prop extends EventClosed R where
  pulseEnded : ∀ s : State, s.alert.tickOwed = true → R s { s with alert := s.alert.tickEnds }

theorem EffectClosed.takeOwed {R : State → State → Prop} (h : EffectClosed R) (p : OwedPart) (s : State) :
    R s (s.takeOwed p) := by
  cases p with
  | timer t => exact h.takeOwedTimer t s
  | gate => exact h.takeOwedGate s
  | alert =>
    dsimp only [State.takeOwed]
    split
    next hg => exact h.pulseEnded s hg
    · exact h.refl s

/-! ### The place of the last tick while its tap ticks are handed out -/

end State

namespace Alert

theorem takeTick_lastTick (a : Alert) : a.takeTick.lastTick = a.lastTick := by
  unfold takeTick
  split
  · rfl
  · split <;> rfl

theorem startPulse_lastTick (c : BitVec 16) (a : Alert) :
    (a.startPulse c).lastTick = if a.tickFollows then .counted else a.lastTick := by
  unfold startPulse
  dsimp only
  split
  · exact takeTick_lastTick _
  · rfl

/-- A setting of a flag counts the last tick on the pulse it starts, or leaves its place. -/
theorem setFlag_lastTick (c : BitVec 16) (f : Flag) (a : Alert) :
    (a.setFlag c f).lastTick = a.lastTick ∨ (a.setFlag c f).lastTick = .counted := by
  unfold setFlag
  dsimp only
  split
  · split
    · rw [startPulse_lastTick]
      split
      · exact .inr rfl
      · exact .inl rfl
    · exact .inl rfl
  · exact .inl rfl

end Alert

namespace State

/-- ALC's own tap tick of the last tick has not been taken. -/
def NotTaken (s t : State) : Prop := s.alert.lastTick ≠ .taken → t.alert.lastTick ≠ .taken

theorem NotTaken.flag (s : State) (g : Flag) : NotTaken s (s.setFlag g) := fun h => by
  obtain e | e := Alert.setFlag_lastTick s.timebase.tapCount g s.alert
  · exact fun h' => h (e.symm.trans h')
  · exact fun h' => absurd (e.symm.trans h') nofun

/-- No event takes it. -/
theorem eventClosed_notTaken : EventClosed NotTaken where
  refl _ := id
  trans h h' := h' ∘ h
  draw _ := id
  flag := NotTaken.flag
  place s n b _ := by
    have lost : ∀ u : State, NotTaken u (u.loseIn n) := fun u => NotTaken.flag (u.setQueue n _) _
    unfold placeIn placeAt
    split
    · exact id
    · exact lost _
    · exact lost s
  arm _ _ := id
  disarm _ _ := id
  windows _ _ := id
  expired _ _ _ := id
  triggered _ _ := id
  sampled _ _ _ _ := id
  counted _ _ := id
  stamped _ _ := id
  reopened _ _ _ := id

/-! ### What a tick does -/

/-- `R` holds across each thing that a tick does at its owners, and across the ends of commands. -/
structure TickClosed (R : State → State → Prop) : Prop extends EffectClosed R where
  orderExpire : ∀ (s : State) (t : Fin 8), (s.timer t).atExpiry = true → R s (s.inTickOrder (State.expire t))
  orderOpen : ∀ s : State, s.gate.state = .reopening → s.gate.tickOwed = true → R s (s.inTickOrder State.gateEnterOpen)
  orderOwed : ∀ (s : State) (p : OwedPart), R s (s.inTickOrder (State.takeOwed p))
  ends : ∀ (s : State) (start : LastTick), R s { s with alert := s.alert.commandEnds start }
  ticked : ∀ (s : State) (t : Fin 8), R s (s.setTimer t (s.timer t).takeTick)
  gateTicked : ∀ s : State, R s { s with gate := s.gate.takeTick }
  alertTicked : ∀ s : State, s.alert.lastTick ≠ .taken → R s { s with alert := s.alert.takeTick }
  alertTaken : ∀ s : State, s.alert.tickOwed = false → R s { s with alert := { s.alert with lastTick := .taken } }

namespace TickClosed

variable {R : State → State → Prop} (h : TickClosed R)
include h

theorem endCommand (s t : State) : R t (s.endCommand t) := h.ends t _

theorem timerExpires (t : Fin 8) (s : State) : R s (s.timerExpires t) := by
  unfold State.timerExpires
  dsimp only
  split
  next hg => exact h.orderExpire s t (Bool.and_eq_true_iff.mp (Bool.and_eq_true_iff.mp hg).1).2
  next => exact h.refl s

theorem measureOverdue (t : Fin 8) (s : State) : R s (s.measureOverdue t) := by
  unfold State.measureOverdue
  dsimp only
  split
  next hg => exact h.orderExpire s t (Bool.and_eq_true_iff.mp (Bool.and_eq_true_iff.mp hg).1).2
  next => exact h.refl s

theorem gateEndHoldOff (s : State) : R s s.gateEndHoldOff := by
  unfold State.gateEndHoldOff
  split
  next hg => exact h.orderOpen s hg.1 hg.2
  next => exact h.refl s

theorem settleOwed (s : State) : R s s.settleOwed := by
  unfold State.settleOwed
  split
  · exact h.refl s
  · exact h.trans (h.trans (h.race (fun p s => h.orderOwed s p) _ _) (h.takeOwed _ _)) (h.endCommand _ _)

/-- ALC's own tap tick of the tick is placed before what a sample still to come starts. -/
theorem alertPlaced (s : State) :
    R s { s.takeOwed .alert with alert := { (s.takeOwed .alert).alert with lastTick := .taken } } := by
  refine h.trans (h.takeOwed .alert s) (h.alertTaken _ ?_)
  dsimp only [State.takeOwed]
  split
  · rfl
  next hn => exact Bool.eq_false_iff.mpr hn

theorem applyTickPart (b : Bool) (p : TickPart) (s : State) (hp : p = .alert → s.alert.lastTick ≠ .taken) :
    R s (s.applyTickPart b p) := by
  cases p with
  | sample e => exact h.sampleInput e s
  | timer t =>
    unfold State.applyTickPart
    dsimp only
    split
    · exact h.trans (h.ticked s t) (h.takeOwed _ _)
    · exact h.ticked s t
  | gate =>
    unfold State.applyTickPart
    dsimp only
    split
    · exact h.trans (h.gateTicked s) (h.takeOwed _ _)
    · exact h.gateTicked s
  | alert =>
    have ticked : R s (if tapTicks s.alert.pulseTap s.timebase.tapCount then { s with alert := s.alert.takeTick } else s) := by
      split
      · exact h.alertTicked s (hp rfl)
      · exact h.refl s
    unfold State.applyTickPart
    dsimp only
    split
    · exact h.trans ticked (h.alertPlaced _)
    · exact ticked

omit h in
/-- Only ALC's own part takes its tap tick. -/
theorem applyTickPart_notTaken (b : Bool) (p : TickPart) (s : State) (hp : p ≠ .alert) : NotTaken s (s.applyTickPart b p) := by
  cases p with
  | sample e => exact eventClosed_notTaken.sampleInput e s
  | timer t =>
    unfold State.applyTickPart
    dsimp only
    split
    · exact eventClosed_notTaken.takeOwedTimer t (s.setTimer t (s.timer t).takeTick)
    · exact id
  | gate =>
    unfold State.applyTickPart
    dsimp only
    split
    · exact eventClosed_notTaken.takeOwedGate { s with gate := s.gate.takeTick }
    · exact id
  | alert => exact absurd rfl hp

theorem takeTickParts (l : List TickPart) (s : State) (hl : l.count .alert ≤ 1)
    (ht : .alert ∈ l → s.alert.lastTick ≠ .taken) : R s (takeTickParts l s) := by
  induction l generalizing s with
  | nil => exact h.refl s
  | cons p ps ih =>
    refine h.trans (h.applyTickPart _ p s fun e => ht (e ▸ List.mem_cons_self)) (ih _ ?_ fun hm => ?_)
    · exact List.count_le_count_cons.trans hl
    · refine applyTickPart_notTaken _ p s ?_ (ht (List.mem_cons_of_mem p hm))
      rintro rfl
      have := List.count_pos_iff.mpr hm
      rw [List.count_cons_self] at hl
      omega

omit h in
theorem tickParts_count_alert (s : State) : s.tickParts.count .alert ≤ 1 := by
  have sample : (s.sampling.map TickPart.sample).count .alert = 0 := List.count_eq_zero.mpr (by simp)
  have timer : (s.tickedTimers.map TickPart.timer).count .alert = 0 := List.count_eq_zero.mpr (by simp)
  unfold State.tickParts
  rw [List.count_append, List.count_append, List.count_append, sample, timer]
  split <;> split <;> simp

theorem handOutTick (s : State) (hs : s.alert.lastTick ≠ .taken) : R s s.handOutTick := by
  unfold State.handOutTick
  split
  · exact h.takeTickParts _ s (tickParts_count_alert s) fun _ => hs
  · refine h.trans (h.draw s) (h.takeTickParts _ _ ?_ fun _ => hs)
    rw [(orderParts_perm _ _ _).count_eq]
    exact tickParts_count_alert s

end TickClosed

/-- An effect placed in either order with ALC's tap tick, for a relation that does not see the alert controller. -/
theorem EffectClosed.inTickOrder {R : State → State → Prop} (h : EffectClosed R)
    (alert : ∀ (s : State) (a : Alert), R s { s with alert := a }) {f : State → State} (s : State)
    (hf : ∀ p, R { s with draw := s.draw + 1, alert := { s.alert with lastTick := p } }
      (f { s with draw := s.draw + 1, alert := { s.alert with lastTick := p } })) : R s (s.inTickOrder f) :=
  h.trans (h.trans (h.trans (h.draw s) (alert _ _)) (hf _)) (alert _ _)

/-- A relation that does not see the alert controller holds across a tick once it holds across the counts of the owners. -/
theorem EffectClosed.ticks {R : State → State → Prop} (h : EffectClosed R)
    (alert : ∀ (s : State) (a : Alert), R s { s with alert := a })
    (ticked : ∀ (s : State) (t : Fin 8), R s (s.setTimer t (s.timer t).takeTick))
    (gateTicked : ∀ s : State, R s { s with gate := s.gate.takeTick }) : TickClosed R where
  toEffectClosed := h
  orderExpire s t ht := h.inTickOrder alert s fun _ => h.expire _ t ht
  orderOpen s hs ho := h.inTickOrder alert s fun _ => h.gateEnterOpen _ hs ho
  orderOwed s p := h.inTickOrder alert s fun _ => h.takeOwed p _
  ends s _ := alert s _
  ticked := ticked
  gateTicked := gateTicked
  alertTicked s _ := alert s _
  alertTaken s _ := alert s _

/-! ### What a meeting does -/

/-- `R` holds across each thing that can fall among the parts of a decision, an event or the end of a forward. -/
structure MomentClosed (R : State → State → Prop) : Prop extends TickClosed R where
  tick : ∀ s : State, s.timebase.running = true →
    R s { s with timebase := s.timebase.tick, alert := { s.alert with lastTick := .unplaced } }
  pin : ∀ (s : State) (e : Fin 2) (b : Bool), R s (s.setEvPin e b)

theorem settleOwed_timebase (s : State) : s.settleOwed.timebase = s.timebase := (settleOwed_frame s).timebase

namespace MomentClosed

variable {R : State → State → Prop} (h : MomentClosed R)
include h

theorem onPower {f : State → State} (hf : ∀ s, R s (f s)) (s : State) : R s (s.onPower f) := by
  unfold State.onPower
  split
  · exact hf s
  · exact h.refl s

theorem tickIfRunning (s : State) : R s s.tickIfRunning := by
  unfold State.tickIfRunning
  split
  next hr =>
    have run : s.settleOwed.timebase.running = true := by rw [settleOwed_timebase, hr]
    exact h.trans (h.trans (h.trans (h.settleOwed s) (h.tick _ run)) (h.handOutTick _ nofun)) (h.endCommand _ _)
  next => exact h.refl s

theorem changePin {k : EventMeetings} (hk : ∀ m s, R s (k.take m s)) (e : Fin 2) (b : Bool) (s : State) :
    R s (s.changePin k e b) := by
  have follow : ∀ s : State, R s (s.followPin k e b) := fun s => by
    unfold State.followPin
    split
    next m hm _ => exact h.moveSampler hk e m _ s hm
    next => exact h.refl s
  unfold State.changePin
  split
  · exact h.refl s
  · exact h.trans (h.trans (h.pin s e b) (h.onPower follow _)) (h.endCommand _ _)

theorem takeMeeting (m : Meeting) (s : State) : R s (s.takeMeeting m) := by
  refine h.trans (h.ends s .unplaced) ?_
  cases m with
  | tick => exact h.onPower h.tickIfRunning _
  | expiry t => exact h.onPower (h.timerExpires t) _
  | overdue t => exact h.onPower (h.measureOverdue t) _
  | holdOffEnd => exact h.onPower h.gateEndHoldOff _
  | pin e level => exact h.changePin (fun _ s => h.refl s) e level _

theorem pinChanges (e : Fin 2) (c : PinChange) (s : State) : R s (s.pinChanges e c) :=
  h.changePin (fun m s => h.takeMeeting m s) e c.level s

end MomentClosed

end State

end Sys2Proof.Machine
end

section
/-! What one write word of a WRITE frame can do (R176, R177), said once over all words: the refusals, and the effect of each word
that is accepted. -/

namespace Sys2Proof.Machine

/-- What the operation of a write word can leave. Every check of a chapter that lets the word do something stands as a premise. -/
inductive WriteEffect (s : State) : State → Prop where
  | nothing : WriteEffect s s
  | definition (r : Fin 24) (w : RuleWord) (v : Word) : (s.rule r).state = .disabled →
      WriteEffect s (s.setRule r { s.rule r with defn := (s.rule r).defn.setWord w v })
  | enabled (r : Fin 24) : (s.rule r).state = .disabled → (s.rule r).defn.enableOk r = true →
      WriteEffect s (s.setRule r (s.rule r).enabled)
  | disabled (r : Fin 24) : (s.rule r).state ≠ .disabled → WriteEffect s (s.setRule r (s.rule r).disabled)
  | hitsCleared (r : Fin 24) : WriteEffect s (s.setRule r { s.rule r with hits := 0, alerted := false })
  | defaultActions (v : Word) : defaultActionsOk v = true →
      WriteEffect s { s with defaultActions := v &&& defaultActionsMask }
  | unmatched (v : Word) : unmatchedOk v = true → WriteEffect s { s with unmatched := v &&& unmatchedMask }
  | limit (v : Word) : Path.limitOk v = true →
      WriteEffect s { s with path := { s.path with limitWord := v &&& Path.limitMask } }
  | queueConfig (n : Fin 4) (v : Word) : (s.queue n).on = false → Queue.configOk v = true →
      WriteEffect s (s.setQueue n { s.queue n with config := v &&& Queue.configMask })
  | queueOn (n : Fin 4) : (s.queue n).on = false → (s.queue n).depth ≠ 0 → s.poolUsed + (s.queue n).depth ≤ 256 →
      WriteEffect s (s.setQueue n { s.queue n with on := true, list := [] })
  | queueOff (n : Fin 4) : (s.queue n).pendingCount = 0 →
      WriteEffect s (s.setQueue n { s.queue n with on := false, list := [], loss := 0 })
  | flush (n : Fin 4) :
      WriteEffect s (s.setQueue n { s.queue n with list := (s.queue n).list.filter Record.isPending, loss := 0 })
  | timebaseStarted : s.timebase.running = false → WriteEffect s { s with timebase := s.timebase.started }
  | timebaseStopped : s.timebase.running = true → WriteEffect s { s with timebase := s.timebase.stopped }
  | timebaseConfig (v : Word) : s.timebase.running = false → Timebase.configOk v = true →
      WriteEffect s { s with timebase := { s.timebase with config := v &&& Timebase.configMask } }
  | timestamp (v : Word) : s.timebase.running = false →
      WriteEffect s { s.settleOwed with timebase := { s.settleOwed.timebase with timestamp := v } }
  | timerConfig (t : Fin 8) (v : Word) : (s.timer t).state = .stopped → Timer.configOk v = true →
      WriteEffect s (s.setTimer t { s.timer t with config := v &&& Timer.configMask })
  | timerReload (t : Fin 8) (x : BitVec 16) : (s.timer t).state = .stopped → x ≠ 0 →
      WriteEffect s (s.setTimer t { s.timer t with reload := x })
  | timerStarted (t : Fin 8) : (s.timer t).state = .stopped → WriteEffect s (s.setTimer t (s.timer t).started)
  | timerStopped (t : Fin 8) : WriteEffect s (s.setTimer t (s.timer t).stopped)
  | timerPreset (t : Fin 8) : (s.timer t).state = .stopped →
      WriteEffect s (s.setTimer t { s.timer t with counter := (s.timer t).reload })
  | inputConfig (e : Fin 2) (v : Word) : EventInput.configOk v = true →
      WriteEffect s (s.setInput e { s.input e with
        config := v &&& EventInput.configMask, sampler := if wbit v 0 then some (.seed (s.evPin e)) else none })
  | held : WriteEffect s (s.endCommand s.gateSetHold)
  | released : WriteEffect s (s.endCommand s.gateClearHold)
  | gateConfig (v : Word) : Gate.configOk v = true →
      WriteEffect s { s with gate := { s.gate with config := v &&& Gate.configMask } }
  | flagsCleared (v : Word) : WriteEffect s { s with alert := s.alert.clearFlags v }
  | enables (v : Word) : WriteEffect s (s.endCommand { s with alert := s.alert.writeEnables s.timebase.tapCount v })
  | alertConfig (v : Word) : Alert.configOk v = true → WriteEffect s { s with alert := s.alert.writeConfig v }
  | locked (b : Bool) : WriteEffect s { s with link := { s.link with locked := b } }
  | code (v : Word) : WriteEffect s { s with link := { s.link with code := v } }
  | saved : s.gate.state = .opened → WriteEffect s { s with store :=
      { s.store with state := .saving, copy := some s.capturedImage, saveResult := .none, check := none } }
  | restarted : s.path.phase = .idle → WriteEffect s s.restartEffect
  | restartHeld : s.path.phase ≠ .idle → WriteEffect s { s with path := { s.path with restartHold := true } }
  | portReset : s.path.port = .down → WriteEffect s { s with path := s.path.leave .ready }

/-! ### The operations, one by one -/

namespace WriteEffect

variable (s : State)

theorem ruleDefWrite (r : Fin 24) (w : RuleWord) (v : Word) : WriteEffect s (ruleDefWrite r w v s).2 := by
  unfold Machine.ruleDefWrite
  dsimp only
  split
  · exact nothing
  next h => exact definition r w v (Rule.isEnabled_eq_false_iff.mp (Bool.eq_false_iff.mpr h))

theorem ruleEnable (r : Fin 24) : WriteEffect s (ruleEnable r s).2 := by
  unfold Machine.ruleEnable
  dsimp only
  split
  · exact nothing
  next h =>
    split
    · exact nothing
    next hok => exact enabled r (Rule.isEnabled_eq_false_iff.mp (Bool.eq_false_iff.mpr h)) (by simpa using hok)

theorem ruleDisable (r : Fin 24) : WriteEffect s (ruleDisable r s).2 := by
  unfold Machine.ruleDisable
  dsimp only
  split
  next h => exact disabled r (Rule.isEnabled_iff.mp h)
  · exact nothing

theorem ruleControlWrite (r : Fin 24) (v : Word) : WriteEffect s (ruleControlWrite r v s).2 := by
  unfold Machine.ruleControlWrite
  split
  · exact ruleDefWrite s r .control v
  · exact ruleEnable s r
  · exact ruleDisable s r
  · exact hitsCleared r

theorem ruleWordWrite (r : Fin 24) (w : RuleWord) (v : Word) : WriteEffect s (ruleWordWrite r w v s).2 := by
  cases w with
  | control => exact ruleControlWrite s r v
  | base | limit | dataMask | reference | fill | quotaArming => exact ruleDefWrite s r _ v

theorem defaultActionsWriteOp (v : Word) : WriteEffect s (defaultActionsWriteOp v s).2 := by
  unfold Machine.defaultActionsWriteOp
  split
  next h => exact defaultActions v h
  · exact nothing

theorem unmatchedWriteOp (v : Word) : WriteEffect s (unmatchedWriteOp v s).2 := by
  unfold Machine.unmatchedWriteOp
  split
  next h => exact unmatched v h
  · exact nothing

theorem responseLimitWriteOp (v : Word) : WriteEffect s (responseLimitWriteOp v s).2 := by
  unfold Machine.responseLimitWriteOp
  split
  next h => exact limit v h
  · exact nothing

theorem pathResetOp : WriteEffect s (pathResetOp s).2 := by
  unfold Machine.pathResetOp
  split
  · exact nothing
  · exact nothing
  · exact nothing
  next h => exact portReset h

theorem queueConfigWrite (n : Fin 4) (v : Word) : WriteEffect s (queueConfigWrite n v s).2 := by
  unfold Machine.queueConfigWrite
  dsimp only
  split
  · exact nothing
  next h =>
    split
    · exact nothing
    next hok => exact queueConfig n v (Bool.eq_false_iff.mpr h) (by simpa using hok)

theorem queueTurnOn (n : Fin 4) : WriteEffect s (queueTurnOn n s).2 := by
  unfold Machine.queueTurnOn
  dsimp only
  split
  · exact nothing
  next h =>
    split
    · exact nothing
    next hok =>
      obtain ⟨hdepth, hpool⟩ := not_or.mp hok
      exact queueOn n (Bool.eq_false_iff.mpr h) hdepth (Nat.not_lt.mp hpool)

theorem queueTurnOff (n : Fin 4) : WriteEffect s (queueTurnOff n s).2 := by
  unfold Machine.queueTurnOff
  dsimp only
  split
  · exact nothing
  next h => exact queueOff n (not_not.mp h)

theorem queueActionWrite (n : Fin 4) (v : Word) : WriteEffect s (queueActionWrite n v s).2 := by
  unfold Machine.queueActionWrite
  split
  · exact nothing
  · exact queueTurnOn s n
  · exact queueTurnOff s n
  · exact flush n
  · exact nothing

theorem tbStartOp : WriteEffect s (tbStartOp s).2 := by
  unfold Machine.tbStartOp
  split
  · exact nothing
  next h => exact timebaseStarted (Bool.eq_false_iff.mpr h)

theorem tbStopOp : WriteEffect s (tbStopOp s).2 := by
  unfold Machine.tbStopOp
  dsimp only
  split
  next h => exact timebaseStopped h
  · exact nothing

theorem tbActionWrite (v : Word) : WriteEffect s (tbActionWrite v s).2 := by
  unfold Machine.tbActionWrite
  split
  · exact nothing
  · exact tbStartOp s
  · exact tbStopOp s
  · exact nothing

theorem tbConfigWrite (v : Word) : WriteEffect s (tbConfigWrite v s).2 := by
  unfold Machine.tbConfigWrite
  split
  · exact nothing
  next h =>
    split
    · exact nothing
    next hok => exact timebaseConfig v (Bool.eq_false_iff.mpr h) (by simpa using hok)

theorem timestampWrite (v : Word) : WriteEffect s (timestampWrite v s).2 := by
  unfold Machine.timestampWrite
  split
  · exact nothing
  next h => exact timestamp v (Bool.eq_false_iff.mpr h)

theorem timerConfigWrite (t : Fin 8) (w : TimerWord) (v : Word) : WriteEffect s (timerConfigWrite t w v s).2 := by
  unfold Machine.timerConfigWrite
  dsimp only
  split
  · exact nothing
  next h =>
    cases w with
    | configuration =>
      dsimp only
      split
      · exact nothing
      next hok => exact timerConfig t v (not_not.mp h) (by simpa using hok)
    | reload =>
      dsimp only
      split
      · exact nothing
      next hok => exact timerReload t _ (not_not.mp h) hok

theorem timerStart (t : Fin 8) : WriteEffect s (timerStart t s).2 := by
  unfold Machine.timerStart
  dsimp only
  split
  · exact nothing
  next h => exact timerStarted t (not_not.mp h)

theorem timerPresetOp (t : Fin 8) : WriteEffect s (Machine.timerPreset t s).2 := by
  unfold Machine.timerPreset
  dsimp only
  split
  · exact nothing
  next h => exact timerPreset t (not_not.mp h)

theorem timerActionWrite (t : Fin 8) (v : Word) : WriteEffect s (timerActionWrite t v s).2 := by
  unfold Machine.timerActionWrite
  split
  · exact nothing
  · exact timerStart s t
  · exact timerStopped t
  · exact timerPresetOp s t
  · exact nothing

theorem inputConfigWrite (e : Fin 2) (v : Word) : WriteEffect s (inputConfigWrite e v s).2 := by
  unfold Machine.inputConfigWrite
  dsimp only
  split
  · exact nothing
  · split
    · exact nothing
    next hok => exact inputConfig e v (by simpa using hok)

theorem gateActionWrite (v : Word) : WriteEffect s (gateActionWrite v s).2 := by
  unfold Machine.gateActionWrite
  split
  · exact nothing
  · exact held
  · exact released
  · exact nothing

theorem gateConfigWrite (v : Word) : WriteEffect s (gateConfigWrite v s).2 := by
  unfold Machine.gateConfigWrite
  split
  next h => exact gateConfig v h
  · exact nothing

theorem alertConfigOp (v : Word) : WriteEffect s (alertConfigOp v s).2 := by
  unfold Machine.alertConfigOp
  split
  next h => exact alertConfig v h
  · exact nothing

theorem lockWordOp (v : Word) : WriteEffect s (State.lockWordOp v s).2 := by
  unfold State.lockWordOp
  split
  · exact locked false
  · exact locked true

theorem saveOp : WriteEffect s s.saveOp.2 := by
  unfold State.saveOp
  split
  · exact nothing
  next h => exact saved (not_not.mp h)

theorem restartOp : WriteEffect s s.restartOp.2 := by
  unfold State.restartOp
  split
  next h => exact restarted h
  next h => exact restartHeld h

theorem deviceActionWrite (v : Word) : WriteEffect s (State.deviceActionWrite v s).2 := by
  unfold State.deviceActionWrite
  split
  · exact nothing
  · exact saveOp s
  · exact restartOp s
  · exact pathResetOp s
  · exact nothing

theorem deviceWrite (w : DeviceWord) (v : Word) : WriteEffect s (State.deviceWrite w v s).2 := by
  cases w with
  | action => exact deviceActionWrite s v
  | lock => exact lockWordOp s v
  | accessCode => exact code v
  | defaultActions => exact defaultActionsWriteOp s v
  | unmatched => exact unmatchedWriteOp s v
  | responseLimit => exact responseLimitWriteOp s v
  | identification | status | requestStatus | pathState | transactionNumber => exact nothing

theorem ruleWrite (r : Fin 24) (off : Fin 8) (v : Word) : WriteEffect s (State.ruleWrite r off v s).2 := by
  unfold State.ruleWrite
  split
  case h_8 => exact nothing
  all_goals exact ruleWordWrite s r _ v

/-- The operation of a word by what its address names (R177, R189). -/
theorem targetWrite (t : Target) (v : Word) : WriteEffect s (State.targetWrite t v s).2 := by
  unfold State.targetWrite
  cases t with
  | device w => exact deviceWrite s w v
  | rule r off => exact ruleWrite s r off v
  | queue n off =>
    dsimp only
    split
    · exact queueConfigWrite s n v
    · exact queueActionWrite s n v
    · exact nothing
  | timer t off =>
    dsimp only
    split
    · exact timerConfigWrite s t .configuration v
    · exact timerConfigWrite s t .reload v
    · exact timerActionWrite s t v
    · exact nothing
  | input e off =>
    dsimp only
    split
    · exact inputConfigWrite s e v
    · exact nothing
  | gate off =>
    dsimp only
    split
    · exact gateConfigWrite s v
    · exact gateActionWrite s v
    · exact nothing
  | alert off =>
    dsimp only
    split
    · exact flagsCleared v
    · exact enables v
    · exact alertConfigOp s v
    · exact nothing
  | timebase off =>
    dsimp only
    split
    · exact tbConfigWrite s v
    · exact tbActionWrite s v
    · exact timestampWrite s v
    · exact nothing
  | window k n off => exact nothing
  | unmapped => exact nothing

end WriteEffect

/-! ### A word and its answer -/

/-- What a write word can leave: nothing when it is not due, its refusal by a check of the link, or its effect and its answer. The
pending marker goes with BUSY alone (R178). -/
inductive WordDone (s : State) : State → Prop where
  | none : WordDone s s
  | refused (a : ServiceAddr) (left : Nat) (st : Status) : s.link.frame = .data .write a (left + 1) →
      WordDone s ((s.setFrame (.data .write (a + 1) left)).setStatus st false)
  | done (a : ServiceAddr) (left : Nat) (st : Status) (mark : Bool) (u : State) :
      s.link.frame = .data .write a (left + 1) → s.linkCheck (targetOf a) = .none →
      WriteEffect (s.setFrame (.data .write (a + 1) left)) u → (mark = true → st = .busy) → WordDone s (u.setStatus st mark)

namespace WordDone

variable {s : State}

/-- The marker of a plain answer is clear, and that of RESTART goes with BUSY. -/
theorem restart_mark (u : State) : u.restartOp.1.2 = true → u.restartOp.1.1 = .busy := by
  unfold State.restartOp
  split
  · exact nofun
  · exact fun _ => rfl

theorem targetWrite_mark (t : Target) (v : Word) (u : State) :
    (State.targetWrite t v u).1.2 = true → (State.targetWrite t v u).1.1 = .busy := by
  unfold State.targetWrite
  cases t with
  | device w =>
    cases w with
    | action =>
      dsimp only [State.deviceWrite, State.deviceActionWrite]
      split
      case h_3 => exact restart_mark u
      all_goals exact nofun
    | lock | accessCode | defaultActions | unmatched | responseLimit | identification | status | requestStatus | pathState
    | transactionNumber => exact nofun
  | rule r off => exact nofun
  | queue n off | timer t off | input e off | gate off | alert off | timebase off =>
    dsimp only
    split <;> exact nofun
  | window k n off | unmapped => exact nofun

theorem nextWrite_eq_some {a : ServiceAddr} {f : Frame} (h : s.nextWrite = some (a, f)) :
    ∃ left, s.link.frame = .data .write a (left + 1) ∧ f = .data .write (a + 1) left := by
  unfold State.nextWrite at h
  split at h
  next a' left hf =>
    obtain ⟨rfl, rfl⟩ := Prod.mk.inj (Option.some.inj h)
    exact ⟨left, hf, rfl⟩
  next => exact absurd h nofun

theorem writeWord {a : ServiceAddr} {left : Nat} (hf : s.link.frame = .data .write a (left + 1))
    {op : State → (Status × Bool) × State} (hop : ∀ u, WriteEffect u (op u).2)
    (hmark : ∀ u, (op u).1.2 = true → (op u).1.1 = .busy) :
    WordDone s ((s.setFrame (.data .write (a + 1) left)).writeWord a op) := by
  unfold State.writeWord
  split
  · exact refused a left _ hf
  next hc => exact done a left _ _ _ hf hc (hop _) (hmark _)

theorem serviceWrite' {a : ServiceAddr} {op : State → (Status × Bool) × State} (hop : ∀ u, WriteEffect u (op u).2)
    (hmark : ∀ u, (op u).1.2 = true → (op u).1.1 = .busy) : WordDone s (s.serviceWrite' a op) := by
  unfold State.serviceWrite'
  split
  next x f hx =>
    obtain ⟨left, hf, rfl⟩ := nextWrite_eq_some hx
    split
    next e => exact e ▸ writeWord hf hop hmark
    · exact none
  · exact none

theorem serviceWrite {a : ServiceAddr} {op : State → Status × State} (hop : ∀ u, WriteEffect u (op u).2) :
    WordDone s (s.serviceWrite a op) := serviceWrite' hop fun _ => nofun

theorem enableWrite (r : Fin 24) : WordDone s (s.enableWrite r) := serviceWrite (WriteEffect.ruleEnable · r)

theorem disableWrite (r : Fin 24) : WordDone s (s.disableWrite r) := serviceWrite (WriteEffect.ruleDisable · r)

theorem registerWrite (v : Word) :
    WordDone s (match s.nextWrite with
      | some (a, f) => (s.setFrame f).writeWord a (State.targetWrite (targetOf a) v)
      | Option.none => s) := by
  split
  next a f hx =>
    obtain ⟨left, hf, rfl⟩ := nextWrite_eq_some hx
    exact writeWord hf (WriteEffect.targetWrite · _ v) (targetWrite_mark _ v)
  · exact none

theorem onPower {f : State → State} (hf : WordDone s (f s)) : WordDone s (s.onPower f) := by
  unfold State.onPower
  split
  · exact hf
  · exact none

theorem whenPowered {f : State → State} {t : State} (hf : WordDone s (f s)) (ht : whenPowered f s = .next t) :
    WordDone s t := by
  obtain rfl : s.onPower f = t := Host.Outcome.next.inj ht
  exact onPower hf

end WordDone

/-! ### The commands that are one write word -/

/-- The command is a write word: the row REGISTER_WRITE, or the row of one word. -/
def isWord : Instr → Bool
  | .registerWrite _ | .ruleDefinitionWrite .. | .enable _ | .disable _ | .clearHits _ | .defaultActionsWrite _
  | .unmatchedCaptureWrite _ | .responseLimitWrite _ | .queueConfigurationWrite .. | .queueOn _ | .queueOff _ | .flush _
  | .tbStart | .tbStop | .timebaseConfigurationWrite _ | .timestampPreset _ | .timerConfigurationWrite .. | .start _ | .stop _
  | .preset _ | .inputConfigurationWrite .. | .gateHold | .gateRelease | .gateConfigurationWrite _ | .clearFlags _
  | .alertEnableWrite _ | .alertConfigurationWrite _ | .lockWordWrite _ | .accessCodeWrite _ | .save | .restart
  | .pathReset => true
  | _ => false

/-- Every such command does what a write word can do, and nothing else. -/
theorem wordDone_of_exec {i : Instr} {s t : State} (hi : isWord i = true) (h : exec i s = .next t) : WordDone s t := by
  cases i with
  | registerWrite v => exact .whenPowered (.registerWrite v) h
  | ruleDefinitionWrite r w v => exact .whenPowered (.serviceWrite (WriteEffect.ruleWordWrite · r w v)) h
  | enable r => exact .whenPowered (.enableWrite r) h
  | disable r => exact .whenPowered (.disableWrite r) h
  | clearHits r => exact .whenPowered (.serviceWrite fun _ => .hitsCleared r) h
  | defaultActionsWrite v => exact .whenPowered (.serviceWrite (WriteEffect.defaultActionsWriteOp · v)) h
  | unmatchedCaptureWrite v => exact .whenPowered (.serviceWrite (WriteEffect.unmatchedWriteOp · v)) h
  | responseLimitWrite v => exact .whenPowered (.serviceWrite (WriteEffect.responseLimitWriteOp · v)) h
  | queueConfigurationWrite n v => exact .whenPowered (.serviceWrite (WriteEffect.queueConfigWrite · n v)) h
  | queueOn n => exact .whenPowered (.serviceWrite (WriteEffect.queueTurnOn · n)) h
  | queueOff n => exact .whenPowered (.serviceWrite (WriteEffect.queueTurnOff · n)) h
  | flush n => exact .whenPowered (.serviceWrite fun _ => .flush n) h
  | tbStart => exact .whenPowered (.serviceWrite WriteEffect.tbStartOp) h
  | tbStop => exact .whenPowered (.serviceWrite WriteEffect.tbStopOp) h
  | timebaseConfigurationWrite v => exact .whenPowered (.serviceWrite (WriteEffect.tbConfigWrite · v)) h
  | timestampPreset v => exact .whenPowered (.serviceWrite (WriteEffect.timestampWrite · v)) h
  | timerConfigurationWrite t w v => exact .whenPowered (.serviceWrite (WriteEffect.timerConfigWrite · t w v)) h
  | start t => exact .whenPowered (.serviceWrite (WriteEffect.timerStart · t)) h
  | stop t => exact .whenPowered (.serviceWrite fun _ => .timerStopped t) h
  | preset t => exact .whenPowered (.serviceWrite (WriteEffect.timerPresetOp · t)) h
  | inputConfigurationWrite e v => exact .whenPowered (.serviceWrite (WriteEffect.inputConfigWrite · e v)) h
  | gateHold => exact .whenPowered (.serviceWrite fun _ => .held) h
  | gateRelease => exact .whenPowered (.serviceWrite fun _ => .released) h
  | gateConfigurationWrite v => exact .whenPowered (.serviceWrite (WriteEffect.gateConfigWrite · v)) h
  | clearFlags v => exact .whenPowered (.serviceWrite fun _ => .flagsCleared v) h
  | alertEnableWrite v => exact .whenPowered (.serviceWrite fun _ => .enables v) h
  | alertConfigurationWrite v => exact .whenPowered (.serviceWrite (WriteEffect.alertConfigOp · v)) h
  | lockWordWrite v => exact .whenPowered (.serviceWrite (WriteEffect.lockWordOp · v)) h
  | accessCodeWrite v => exact .whenPowered (.serviceWrite fun _ => .code v) h
  | save => exact .whenPowered (.serviceWrite WriteEffect.saveOp) h
  | restart => exact .whenPowered (.serviceWrite' WriteEffect.restartOp WordDone.restart_mark) h
  | pathReset => exact .whenPowered (.serviceWrite WriteEffect.pathResetOp) h
  | _ => exact absurd hi nofun

end Sys2Proof.Machine
end

section
/-! Relations that hold across every step. The commands are taken apart once, down to the single changes of the blocks; each
invariant is then a matter of these. -/

namespace Sys2Proof.Machine.State

/-! ### RESTART and the gate -/

/-- `R` holds across what the gate takes from its causes, and across what RESTART does in each block. -/
structure BlockClosed (R : State → State → Prop) : Prop extends MomentClosed R where
  path : ∀ (s : State) (p : Path), p.limitWord = s.path.limitWord → R s { s with path := p }
  drained : ∀ s : State, R s s.gateEndDrain
  holdSet : ∀ s : State, R s s.gateSetHold
  holdCleared : ∀ s : State, R s s.gateClearHold
  alertRestarted : ∀ s : State, R s { s with alert := s.alert.restart }
  queuesRestarted : ∀ s : State, R s s.restartQueues
  rulesRestarted : ∀ s : State, R s (s.mapRules fun _ x => x.restart)
  timersRestarted : ∀ s : State, R s (s.mapTimers fun _ ch => ch.restart)
  inputsRestarted : ∀ (s : State) (pin : Fin 2 → Bool), R s (s.mapInputs fun e i => i.restart (pin e))
  answered : ∀ (s : State) (st : Status) (b : Bool), (b = true → st = .busy) → R s (s.setStatus st b)

namespace BlockClosed

variable {R : State → State → Prop} (h : BlockClosed R)
include h

theorem settlePending (s : State) : R s s.settlePending := by
  unfold State.settlePending
  split
  · exact h.answered s .accepted false nofun
  · exact h.refl s

theorem restartEffect (s : State) : R s s.restartEffect := by
  have cleared : ∀ u : State, R u { u with path := u.path.restart, alert := u.alert.restart } := fun u =>
    h.trans (h.path u u.path.restart rfl) (h.alertRestarted _)
  have tables : ∀ (u : State) (pin : Fin 2 → Bool), R u
      (((u.restartQueues.mapRules fun _ x => x.restart).mapTimers fun _ ch => ch.restart).mapInputs
        fun e i => i.restart (pin e)) := fun u pin =>
    h.trans (h.trans (h.trans (h.queuesRestarted u) (h.rulesRestarted _)) (h.timersRestarted _)) (h.inputsRestarted _ pin)
  unfold State.restartEffect
  dsimp only
  refine h.trans (h.trans (h.trans ?_ (h.settlePending _)) (h.holdCleared _)) (h.endCommand s _)
  exact h.trans (h.trans (h.drained s) (cleared _)) (tables _ _)

theorem finishTxn (s : State) (a : Option Answer) : R s (s.finishTxn a) := h.path s _ (by rfl)

end BlockClosed

/-! ### Decisions -/

/-- The hits of a decision. -/
def hitsOf (t : Txn) (before : Option Word) (s : State) : List (Fin 24) :=
  (s.scan t (if before.isSome then effectiveNew t (before.getD 0) else t.data) (before.getD 0) allRules).1

theorem decision_hits (t : Txn) (before : Option Word) (sub : Bool) (s : State) :
    (s.decision t before sub).changes.hits = s.hitsOf t before := rfl

theorem decision_zeroed (t : Txn) (before : Option Word) (sub : Bool) (s : State) :
    (s.decision t before sub).changes.zeroed = (s.hitsOf t before).filter fun r => (s.rule r).countdown == 1 := rfl

theorem decision_between (t : Txn) (before : Option Word) (sub : Bool) (s : State) :
    (s.decision t before sub).changes.between = t.between := rfl

theorem MomentClosed.takeDecisionParts {R : State → State → Prop} (h : MomentClosed R)
    {reserve : State → State × Verdict} (hr : ∀ s, R s (reserve s).1) (l : List DecisionPart) (q : State × Verdict) :
    R q.1 (takeDecisionParts reserve l q).1 := by
  induction l generalizing q with
  | nil => exact h.refl _
  | cons p ps ih =>
    refine h.trans ?_ (ih _)
    cases p with
    | reserve => exact hr q.1
    | trigger c => exact h.triggerTimer q.1 c
    | read => exact h.refl _
    | meet m => exact h.takeMeeting m q.1

/-- After its hits a decision is a matter of the placement and of what meets it. -/
theorem MomentClosed.decision {R : State → State → Prop} (h : MomentClosed R)
    (hr : ∀ (t : Txn) (before : Option Word) (sub : Bool) (a : Action) (d : Word) (vs : List Reservation) (k : Nat) (w : Word)
      (s : State), R s (s.reserve t before sub a d vs k w).1)
    (t : Txn) (before : Option Word) (sub : Bool) (s : State) :
    R ((s.hitsOf t before).foldl State.hitRule s) (s.decision t before sub).state := by
  unfold State.decision
  dsimp only
  exact h.trans (h.trans (h.foldl (fun s t => h.triggerTimer s t) _ _) (h.draw _))
    (h.takeDecisionParts (q := (_, Verdict.forward)) (fun s => hr t before sub _ _ _ _ _ s) _)

/-- What falls between a decision and its changes. -/
theorem MomentClosed.meetAll {R : State → State → Prop} (h : MomentClosed R) (enable : ∀ s r, R s (State.enableWrite r s))
    (disable : ∀ s r, R s (State.disableWrite r s)) (bs : List Between) (s : State) : R s (s.meetAll bs) := by
  induction bs generalizing s with
  | nil => exact h.refl s
  | cons b bs ih =>
    refine h.trans ?_ (ih _)
    cases b with
    | expiry t => exact h.onPower (h.timerExpires t) s
    | overdue t => exact h.onPower (h.measureOverdue t) s
    | pin e c => exact h.pinChanges e c s
    | tick => exact h.onPower h.tickIfRunning s
    | enable r => exact h.onPower (fun s => enable s r) s
    | disable r => exact h.onPower (fun s => disable s r) s
    | inside m => exact h.refl s
    | atEnd m => exact h.refl s

/-! ### The three commands that can decide -/

/-- `t` is left by a command begun in `s` that decides nothing, or decides one transaction, having reached `u`. -/
def DecidedFrom (s u t : State) : Prop :=
  t = s.endCommand u ∨ ∃ x before sub, t = s.thenChanges (u.decideAndCarryOut x before sub)

namespace BlockClosed

variable {R : State → State → Prop} (h : BlockClosed R) (refused : ∀ s : State, R s s.countRefused)
include h refused

theorem startTxn (s u : State) (t : Txn) : ∃ v, R u v ∧ DecidedFrom s v (s.thenChanges (u.startTxn t)) := by
  unfold State.startTxn
  split
  · exact ⟨_, h.trans (refused u) (h.finishTxn _ _), .inl (thenChanges_undecided ..)⟩
  · split
    · split
      · exact ⟨u, h.refl u, .inr ⟨t, none, true, rfl⟩⟩
      · exact ⟨_, h.path u _ (by rfl), .inl (thenChanges_undecided ..)⟩
    · exact ⟨u, h.refl u, .inr ⟨t, none, false, rfl⟩⟩

theorem take (s u : State) (r : Request) : ∃ v, R u v ∧ DecidedFrom s v (s.thenChanges (u.take r)) := by
  obtain ⟨v, hv, hd⟩ := h.startTxn refused s { u.gateEndDrain with path := { u.gateEndDrain.path with
    number := u.gateEndDrain.path.number + 1, held := none, abandoned := false, answer := none } }
    (captureRequest (u.gateEndDrain.path.number + 1) r)
  exact ⟨v, h.trans (h.trans (h.drained u) (h.path _ _ (by rfl))) hv, hd⟩

theorem upstreamRequest {r : Request} {s t : State} (ht : exec (.upstreamRequest r) s = .next t) :
    ∃ u, R s u ∧ (t = s ∨ DecidedFrom s u t) := by
  have hx : exec (.upstreamRequest r) s = execUpstreamRequest r s := rfl
  rw [hx, execUpstreamRequest] at ht
  split at ht
  · exact absurd ht nofun
  · obtain rfl := Host.Outcome.next.inj ht
    split
    · exact ⟨s, h.refl s, .inl rfl⟩
    · have asked : R s { s with path := { s.path with answer := none } } := h.path s _ (by rfl)
      unfold State.present
      dsimp only
      split
      · obtain ⟨v, hv, hd⟩ := h.take refused s { s with path := { s.path with answer := none } } r
        exact ⟨v, h.trans asked hv, .inr hd⟩
      · exact ⟨_, h.trans asked (h.path _ _ (by rfl)), .inr (.inl (thenChanges_undecided ..))⟩

theorem heldRequestTaken {s t : State} (ht : exec .heldRequestTaken s = .next t) : ∃ u, R s u ∧ DecidedFrom s u t := by
  obtain rfl : s.thenChanges s.takeHeld = t := Host.Outcome.next.inj ht
  have stays : ∃ u, R s u ∧ DecidedFrom s u (s.thenChanges s.undecided) :=
    ⟨s, h.refl s, .inl (thenChanges_undecided ..)⟩
  unfold State.takeHeld
  split
  · split
    · exact h.take refused s s _
    · exact stays
  · exact stays

omit refused in
theorem flagMemErr (c : Completion) (s : State) : R s (s.flagMemErr c) := by
  cases c with
  | ok w => exact h.refl s
  | memErr => exact h.flag s .path

omit refused in
theorem prereadComplete {c : Completion} {s t : State} (ht : exec (.prereadComplete c) s = .next t) :
    ∃ u, R s u ∧ DecidedFrom s u t := by
  obtain rfl : s.thenChanges (s.completePreread c) = t := Host.Outcome.next.inj ht
  unfold State.completePreread
  split
  · have ended : R s ({ s with path := s.path.accessDone }.flagMemErr c) := h.trans (h.path s _ (by rfl)) (h.flagMemErr c _)
    unfold State.prereadEnds
    dsimp only
    split
    · exact ⟨_, h.trans ended (h.finishTxn _ _), .inl (thenChanges_undecided ..)⟩
    · cases c with
      | memErr => exact ⟨_, h.trans ended (h.finishTxn _ _), .inl (thenChanges_undecided ..)⟩
      | ok w => exact ⟨_, ended, .inr ⟨_, some w, false, rfl⟩⟩
  · exact ⟨s, h.refl s, .inl (thenChanges_undecided ..)⟩

end BlockClosed

/-! ### Every step -/

/-- `R` holds across the single changes of all commands but a reset. The end of loading stands apart: what it leaves depends on the
reset values that it finds. -/
structure RunClosed (R : State → State → Prop) : Prop extends BlockClosed R where
  refused : ∀ s : State, R s s.countRefused
  told : ∀ s : State, R s { s with gate := { s.gate with inFlight := false } }
  completed : ∀ (s : State) (before : Vector Nat 4) (o : TxnOutcome) (d : Option Word), R s (s.completeAll before o d)
  written : ∀ s u : State, WriteEffect s u → R s u
  decided : ∀ (s u : State) (x : Txn) (before : Option Word) (sub : Bool),
    R u (s.thenChanges (u.decideAndCarryOut x before sub))
  pins : ∀ (s : State) (p : Pins), p.scsLow = s.pins.scsLow → R s { s with pins := p }
  selected : ∀ s : State, R s { s with pins := { s.pins with scsLow := true } }
  headed : ∀ (s : State) (kind : HeaderKind) (a : ServiceAddr) (count : BitVec 8), s.pins.scsLow = true →
    R s (s.beginFrame kind a count)
  deselected : ∀ s : State, R s ({ s with pins := { s.pins with scsLow := false }, copy := Option.none }.setFrame .idle)
  wordTaken : ∀ (s : State) (a : ServiceAddr) (left : Nat), s.link.frame = .data .write a (left + 1) →
    R s (s.setFrame (.data .write (a + 1) left))
  copyMade : ∀ (s : State) (k : WindowKind) (n : Fin 4), R s (s.makeCopy k n)
  popped : ∀ (s : State) (n : Fin 4) (f : Frame), s.popWord5 n = some f → R s (s.removeCopied.setFrame f)
  clocked : ∀ s : State, R s s.clockOut
  power : ∀ (s : State) (b : Bool), R s { s with powered := b }
  pfailTaken : ∀ s : State, R s s.gatePfailAssert
  pfailReleased : ∀ s : State, R s s.gatePfailDeassert
  torn : ∀ (s : State) (r : SaveResult), R s (s.tearSave r)
  saved : ∀ s : State, R s s.endSave
  periodBegun : ∀ s : State, R s s.beginFirstPeriod

/-- The commands that put every block at its reset value. -/
def Resets (i : Instr) : Prop := i = .powerOnReset ∨ i = .partReset

namespace RunClosed

variable {R : State → State → Prop} (h : RunClosed R)
include h

theorem word {s u : State} (hw : WordDone s u) : R s u := by
  cases hw with
  | none => exact h.refl s
  | refused a left st hf => exact h.trans (h.wordTaken s a left hf) (h.answered _ st false nofun)
  | done a left st mark u hf _ he hm =>
    exact h.trans (h.trans (h.wordTaken s a left hf) (h.written _ u he)) (h.answered u st mark hm)

theorem decidedFrom {s u t : State} (hu : R s u) (hd : DecidedFrom s u t) : R s t := by
  obtain rfl | ⟨x, before, sub, rfl⟩ := hd
  · exact h.trans hu (h.endCommand s u)
  · exact h.trans hu (h.decided s u x before sub)

theorem gateToldEnd (t : Txn) (s : State) : R s (s.gateToldEnd t) := by
  unfold State.gateToldEnd
  split
  · exact h.told s
  · exact h.refl s

theorem applyEndPart (t : Txn) (o : TxnOutcome) (d : Option Word) (p : EndPart) (s : State) :
    R s (s.applyEndPart t o d p) := by
  cases p with
  | complete => exact h.completed s _ o d
  | fault => exact h.offerTo s _ _ (by nofun)
  | drain => exact h.drained s
  | meet m => exact h.takeMeeting m s

theorem takeEndParts (t : Txn) (o : TxnOutcome) (d : Option Word) (ps : List EndPart) (s : State) :
    R s (State.takeEndParts t o d ps s) := by
  induction ps generalizing s with
  | nil => exact h.refl s
  | cons p ps ih =>
    have rest : R s (State.takeEndParts t o d ps (State.applyEndPart t o d p s)) := h.trans (h.applyEndPart t o d p s) (ih _)
    cases p with
    | drain =>
      cases ps with
      | nil => exact h.refl s
      | cons q qs => exact rest
    | complete | fault | meet m => exact rest

theorem raceEndParts (t : Txn) (o : TxnOutcome) (d : Option Word) (ps : List EndPart) (s : State) :
    R s (s.raceEndParts t o d ps) := h.trans (h.draw s) (h.takeEndParts t o d _ _)

theorem forwardEnds (t : Txn) (c : Completion) (s : State) : R s (s.forwardEnds t c) := by
  have ended : R s ({ s with path := s.path.accessDone }.flagMemErr c) := h.trans (h.path s _ (by rfl)) (h.flagMemErr c _)
  exact h.trans (h.trans (h.trans ended (h.gateToldEnd t _)) (h.raceEndParts t _ _ _ _)) (h.finishTxn _ _)

theorem limitExpires (t : Txn) (s : State) : R s (s.limitExpires t) := by
  have late : R s ({ s with path := s.path.late t }.setFlag .path) := h.trans (h.path s _ (by rfl)) (h.flag _ _)
  refine h.trans (h.trans late (h.trans ?_ (h.raceEndParts t _ _ _ _))) (h.finishTxn _ _)
  split
  · exact h.gateToldEnd t _
  · exact h.refl _

theorem secondLimitExpires (s : State) : R s s.secondLimitExpires :=
  h.trans (h.trans (h.path s _ (by rfl)) (h.flag _ _)) (h.offerTo _ _ _ (by nofun))

theorem whenPowered {f : State → State} (hf : ∀ s, R s (f s)) {s t : State} (ht : whenPowered f s = .next t) : R s t := by
  obtain rfl := Host.Outcome.next.inj ht
  exact h.onPower hf s

theorem takePfail (s : State) : R s s.takePfail := h.trans (h.torn s _) (h.pfailTaken _)

/-- Every command keeps the relation, once a reset and the end of a loading in progress do. -/
theorem exec {i : Instr} {s t : State} (hr : Resets i → ∀ s : State, R s s.resetBlocks)
    (hl : s.store.state = .loading → R s s.endLoading) (ht : exec i s = .next t) : R s t := by
  have inj : ∀ {u : State}, (.next u : Result) = .next t → R s u → R s t := fun e hu => Host.Outcome.next.inj e ▸ hu
  cases i with
  | upstreamRequest r =>
    obtain ⟨u, hu, rfl | hd⟩ := h.toBlockClosed.upstreamRequest h.refused ht
    · exact h.refl _
    · exact h.decidedFrom hu hd
  | requestWithdrawn => exact inj ht (h.path s _ (by rfl))
  | heldRequestTaken =>
    obtain ⟨u, hu, hd⟩ := h.toBlockClosed.heldRequestTaken h.refused ht
    exact h.decidedFrom hu hd
  | prereadComplete c =>
    obtain ⟨u, hu, hd⟩ := h.toBlockClosed.prereadComplete ht
    exact h.decidedFrom hu hd
  | forwardComplete c =>
    refine h.whenPowered (fun s => ?_) ht
    split
    · exact h.trans (h.forwardEnds _ c s) (h.endCommand s _)
    · exact h.refl s
  | responseLimitExpiry =>
    refine h.whenPowered (fun s => ?_) ht
    split
    · exact h.trans (h.limitExpires _ s) (h.endCommand s _)
    · exact h.refl s
  | secondLimitExpiry =>
    refine h.whenPowered (fun s => ?_) ht
    split
    · exact h.trans (h.secondLimitExpires s) (h.endCommand s _)
    · exact h.refl s
  | strayCompletion c =>
    refine h.whenPowered (fun s => ?_) ht
    split
    · exact h.path s _ (by rfl)
    · exact h.refl s
  | completionIgnored c => exact inj ht (h.refl s)
  | urstAssert =>
    refine inj ht ?_
    split
    · exact h.trans (h.pins s _ (by rfl)) (h.path _ _ (by rfl))
    · exact h.pins s _ (by rfl)
  | urstDeassert => exact inj ht (h.pins s _ (by rfl))
  | powerOnReset => exact inj ht (h.trans (h.trans (h.torn s _) (hr (.inl rfl) _)) (h.power _ _))
  | partReset =>
    refine inj ht ?_
    split
    · exact h.trans (h.pins s _ (by rfl)) (h.trans (h.torn _ _) (hr (.inr rfl) _))
    · exact h.pins s _ (by rfl)
  | loadingEnd =>
    obtain rfl := Host.Outcome.next.inj ht
    unfold State.onPower
    split
    · dsimp only
      split
      next hs => exact hl hs
      · exact h.refl s
    · exact h.refl s
  | tick => exact h.whenPowered h.tickIfRunning ht
  | timerExpiry c => exact h.whenPowered (h.timerExpires c) ht
  | measureOverdue c => exact h.whenPowered (h.measureOverdue c) ht
  | evPinChange e c => exact inj ht (h.pinChanges e c s)
  | pfailAssert =>
    refine inj ht ?_
    dsimp only
    split
    · exact h.refl s
    · split
      · exact h.trans (h.trans (h.pins s _ (by rfl)) (h.takePfail _)) (h.endCommand _ _)
      · exact h.pins s _ (by rfl)
  | pfailDeassert =>
    refine inj ht ?_
    dsimp only
    split
    · split
      · exact h.trans (h.trans (h.pins s _ (by rfl)) (h.pfailReleased _)) (h.endCommand _ _)
      · exact h.pins s _ (by rfl)
    · exact h.refl s
  | gateDrainEnd => exact h.whenPowered (fun s => h.trans (h.drained s) (h.endCommand s _)) ht
  | gateHoldOffEnd => exact h.whenPowered h.gateEndHoldOff ht
  | alertPulseEnd =>
    refine h.whenPowered (fun s => ?_) ht
    split
    next ho => exact h.pulseEnded s ho
    · exact h.refl s
  | serviceFrameHeader kind a count =>
    refine inj ht ?_
    dsimp only
    split
    · exact h.refl s
    · split
      · exact h.trans (h.selected s) (h.headed _ kind a count (by rfl))
      · exact h.selected s
  | popWindowRead n => exact h.whenPowered (fun s => h.copyMade s .pop n) ht
  | popRemove n =>
    refine h.whenPowered (fun s => ?_) ht
    split
    next f hf => exact h.popped s n f hf
    · exact h.refl s
  | peek n => exact h.whenPowered (fun s => h.copyMade s .peek n) ht
  | saveEnd => exact h.whenPowered h.saved ht
  | restartTakesEffect =>
    refine h.whenPowered (fun s => ?_) ht
    split
    · exact h.restartEffect s
    · exact h.refl s
  | scsNRise => exact inj ht (h.deselected s)
  | rstDeassert => exact inj ht (h.pins s _ (by rfl))
  | lossOfPower => exact inj ht (h.trans (h.torn s _) (h.power _ _))
  | _ => exact h.word (wordDone_of_exec rfl ht)

theorem idle (s : State) : R s s.idle := by
  unfold State.idle
  split
  · split
    · dsimp only
      split
      · exact h.trans (h.draw s) (h.periodBegun _)
      · exact h.trans (h.draw s) (h.clocked _)
    · exact h.periodBegun s
  · exact h.clocked s

end RunClosed

/-- `R` holds across the single changes of all commands, a reset among them. -/
structure StepClosed (R : State → State → Prop) : Prop extends RunClosed R where
  reset : ∀ s : State, R s s.resetBlocks

namespace StepClosed

variable {R : State → State → Prop} (h : StepClosed R)
include h

theorem exec {i : Instr} {s t : State} (hl : s.store.state = .loading → R s s.endLoading) (ht : exec i s = .next t) :
    R s t := h.toRunClosed.exec (fun _ => h.reset) hl ht

/-- Every step keeps the relation; the queue of commands is outside it. -/
theorem step {s t : State} (hp : ∀ l : List Instr, R s { s with pending := l })
    (hl : ∀ l : List Instr, s.store.state = .loading → R { s with pending := l } { s with pending := l }.endLoading)
    (ht : step s = .next t) : R s t := by
  unfold Machine.step at ht
  split at ht
  · exact Host.Outcome.next.inj ht ▸ h.idle s
  next c rest _ => exact h.trans (hp rest) (h.exec (hl rest) ht)

end StepClosed

end Sys2Proof.Machine.State
end

section
/-! Properties that see neither the records nor the causes of the gate: it is enough that the single updates of the other blocks keep
them. -/

namespace Sys2Proof.Machine

namespace State

/-- A change keeps a property. -/
def Keeps (P : State → Prop) (s t : State) : Prop := P s → P t

theorem Keeps.mapRules {P : State → Prop} (h : ∀ (s : State) (v : Vector Rule 24), Keeps P s { s with rules := v }) (s : State)
    (f : Fin 24 → Rule → Rule) : Keeps P s (s.mapRules f) := h s _

theorem Keeps.mapTimers {P : State → Prop} (h : ∀ (s : State) (v : Vector Timer 8), Keeps P s { s with timers := v })
    (s : State) (f : Fin 8 → Timer → Timer) : Keeps P s (s.mapTimers f) := h s _

theorem Keeps.mapInputs {P : State → Prop} (h : ∀ (s : State) (v : Vector EventInput 2), Keeps P s { s with inputs := v })
    (s : State) (f : Fin 2 → EventInput → EventInput) : Keeps P s (s.mapInputs f) := h s _

/-- `t` differs from `s` at most in records, flags and the pulse: no configuration word changes. -/
def RecordsOnly (s t : State) : Prop :=
  RecordFrame s t ∧ (∀ n, (t.queue n).config = (s.queue n).config) ∧ t.alert.config = s.alert.config

/-! ### Records and flags change no configuration word -/

namespace RecordsOnly

theorem refl (s : State) : RecordsOnly s s := ⟨.refl s, fun _ => rfl, rfl⟩

theorem trans {s t u : State} (h : RecordsOnly s t) (h' : RecordsOnly t u) : RecordsOnly s u :=
  ⟨h.1.trans h'.1, fun n => (h'.2.1 n).trans (h.2.1 n), h'.2.2.trans h.2.2⟩

/-- A change of the queues alone. -/
theorem of_queues {s t : State} (h : RecordFrame s t) (ha : t.alert = s.alert)
    (hq : ∀ n, (t.queue n).config = (s.queue n).config) : RecordsOnly s t := ⟨h, hq, by rw [ha]⟩

/-- A change of the alert controller alone. -/
theorem of_alert (s : State) (a : Alert) (ha : a.config = s.alert.config) : RecordsOnly s { s with alert := a } :=
  ⟨alert_frame s a, fun _ => rfl, ha⟩

end RecordsOnly

end State

namespace Alert

@[simp] theorem followLevel_config (a : Alert) : a.followLevel.config = a.config := rfl
@[simp] theorem endPulse_config (a : Alert) : a.endPulse.config = a.config := rfl
@[simp] theorem tickEnds_config (a : Alert) : a.tickEnds.config = a.config := rfl
@[simp] theorem restart_config (a : Alert) : a.restart.config = a.config := rfl

@[simp] theorem takeTick_config (a : Alert) : a.takeTick.config = a.config := by
  unfold takeTick
  split
  · rfl
  · split <;> rfl

@[simp] theorem startPulse_config (c : BitVec 16) (a : Alert) : (a.startPulse c).config = a.config := by
  unfold startPulse
  dsimp only
  split
  · exact takeTick_config _
  · rfl

@[simp] theorem setFlag_config (c : BitVec 16) (f : Flag) (a : Alert) : (a.setFlag c f).config = a.config := by
  unfold setFlag
  dsimp only
  split
  · split
    · exact startPulse_config c _
    · rfl
  · rfl

@[simp] theorem commandEnds_config (start : LastTick) (a : Alert) : (a.commandEnds start).config = a.config := by
  obtain ⟨p, h⟩ := State.commandEnds_frame start a
  rw [h]

@[simp] theorem writeEnables_config (c : BitVec 16) (v : Word) (a : Alert) : (a.writeEnables c v).config = a.config := by
  unfold writeEnables
  dsimp only
  split
  · split <;> split
    · exact startPulse_config c _
    · exact startPulse_config c _
    · rfl
    · rfl
  · rfl

@[simp] theorem clearFlags_config (v : Word) (a : Alert) : (a.clearFlags v).config = a.config := by
  rw [clearFlags_eq]

end Alert

namespace State

theorem setFlag_records (s : State) (g : Flag) : RecordsOnly s (s.setFlag g) :=
  ⟨setFlag_frame s g, fun _ => rfl, Alert.setFlag_config _ g _⟩

theorem loseIn_records (s : State) (n : Fin 4) : RecordsOnly s (s.loseIn n) := by
  refine .trans (.of_queues (setQueue_frame s n (s.queue n).lose) rfl fun m => ?_) (setFlag_records _ _)
  rw [queue_setQueue]
  split
  next h => rw [← h, Queue.lose_config]
  · rfl

theorem append_records (s : State) (w : Word) (n : Fin 4) (b : RecordBody) : RecordsOnly s (s.append w n b) := by
  refine .of_queues (append_frame s w n b) rfl fun m => ?_
  rw [append_queue]
  split
  next h => rw [← h]
  · rfl

theorem dropOldest_records (s : State) (n : Fin 4) : RecordsOnly s (s.dropOldest n) := by
  refine .of_queues (dropOldest_frame s n) rfl fun m => ?_
  rw [dropOldest_queue]
  split
  next h => rw [← h]
  · rfl

theorem placeAt_records (s : State) (w : Word) (n : Fin 4) (b : RecordBody) : RecordsOnly s (s.placeAt w n b).1 := by
  unfold placeAt
  split
  · exact append_records s w n b
  · exact ((dropOldest_records s n).trans (loseIn_records _ n)).trans (append_records _ w n b)
  · exact loseIn_records s n

theorem placeAll_records (t : Txn) (before : Option Word) (w : Word) (vs : List Reservation) (p : State × Bool) :
    RecordsOnly p.1 (placeAll t before w vs p).1 := by
  induction vs generalizing p with
  | nil => exact .refl _
  | cons v vs ih => exact (placeAt_records p.1 w v.queue _).trans (ih _)

theorem judgeNotify_records (s : State) (n : Fin 4) (k : Nat) : RecordsOnly s (s.judgeNotify n k) := by
  unfold judgeNotify
  dsimp only
  split
  · exact setFlag_records s _
  · exact .refl s

theorem offerTo_records (s : State) (q : Option (Fin 4)) (b : RecordBody) : RecordsOnly s (s.offerTo q b) := by
  cases q with
  | none => exact .refl s
  | some n => exact (placeAt_records s _ n b).trans (judgeNotify_records _ n _)

theorem mapQueues_records (s : State) (f : Fin 4 → Queue → Queue) (hf : ∀ n q, (f n q).config = q.config) :
    RecordsOnly s (s.mapQueues f) :=
  .of_queues (mapQueues_frame s f) rfl fun n => by rw [queue_mapQueues, hf]

theorem completeAll_records (s : State) (before : Vector Nat 4) (o : TxnOutcome) (d : Option Word) :
    RecordsOnly s (s.completeAll before o d) :=
  (mapQueues_records s (fun _ q => { q with list := q.list.map (completeRecord o d) }) fun _ _ => rfl).trans
    (foldl_frame .refl .trans (fun s n => judgeNotify_records s n before[n]) _ _)

/-- A placement touches records, and the gate as its consultation leaves it. -/
theorem reserve_records (t : Txn) (before : Option Word) (sub : Bool) (a : Action) (d : Word) (vs : List Reservation)
    (k : Nat) (w : Word) (s : State) :
    ∃ u, RecordsOnly s u ∧ (s.reserve t before sub a d vs k w).1 = u.consulted (s.reserve t before sub a d vs k w).2 := by
  have h := placeAll_records t before (s.accessStamp k w vs) vs (s, false)
  unfold reserve
  dsimp only
  split <;> rename_i hv
  · exact ⟨_, h, by rw [hv]; rfl⟩
  · exact ⟨_, h.trans (completeAll_records _ _ _ _), rfl⟩

end State

theorem Gate.takeTick_config (g : Gate) : g.takeTick.config = g.config := by
  unfold takeTick
  split
  · rfl
  · split <;> rfl

namespace State

/-! ### The moves of the gate -/

/-- `R` holds across what effects do, and across each change of the gate apart from its configuration. -/
structure GateClosed (R : State → State → Prop) : Prop extends EffectClosed R where
  gate : ∀ (s : State) (g : Gate), g.config = s.gate.config → R s { s with gate := g }

namespace GateClosed

variable {R : State → State → Prop} (h : GateClosed R)
include h

theorem enterOpen (s : State) : R s s.gateEnterOpen := h.trans (h.gate s _ (by rfl)) (h.offerTo _ _ _ nofun)

theorem enterClosed (s : State) : R s s.gateEnterClosed :=
  h.trans (h.gate s _ (by rfl)) (h.trans (h.flag _ _) (h.offerTo _ _ _ nofun))

theorem leaveClosed (s : State) : R s s.gateLeaveClosed := by
  unfold gateLeaveClosed
  split
  · split
    · exact h.gate s _ (by rfl)
    · exact h.enterOpen s
  · exact h.refl s

theorem causeArrival (s : State) : R s s.gateCauseArrival := by
  unfold gateCauseArrival
  split
  · split
    · exact h.gate s _ (by rfl)
    · exact h.enterClosed s
  · exact h.gate s _ (by rfl)
  · exact h.refl s

theorem endDrain (s : State) : R s s.gateEndDrain := by
  unfold gateEndDrain
  split
  · exact h.trans (h.enterClosed s) (h.leaveClosed _)
  · exact h.refl s

theorem setHold (s : State) : R s s.gateSetHold := by
  unfold gateSetHold
  split
  · exact h.refl s
  · exact h.trans (h.gate s _ (by rfl)) (h.causeArrival _)

theorem clearHold (s : State) : R s s.gateClearHold := by
  unfold gateClearHold
  split
  · exact h.trans (h.gate s _ (by rfl)) (h.leaveClosed _)
  · exact h.refl s

theorem pfailAssert (s : State) : R s s.gatePfailAssert := h.trans (h.gate s _ (by rfl)) (h.causeArrival _)

theorem pfailDeassert (s : State) : R s s.gatePfailDeassert := h.trans (h.gate s _ (by rfl)) (h.leaveClosed _)

theorem lookAtPfail (s : State) : R s s.gateLookAtPfail := by
  unfold gateLookAtPfail
  split
  · exact h.pfailAssert s
  · exact h.refl s

end GateClosed

/-! ### The single updates -/

/-- The property is kept by every single update of a block that a step can make. -/
structure UpdateClosed (P : State → Prop) : Prop where
  records : ∀ s t : State, RecordsOnly s t → Keeps P s t := by rintro s _ ⟨⟨_, _, _, rfl⟩, _⟩; exact id
  gate : ∀ (s : State) (g : Gate), g.config = s.gate.config → Keeps P s { s with gate := g } := by intros; exact id
  draw : ∀ (s : State) (d : Nat), Keeps P s { s with draw := d } := by intros; exact id
  arm : ∀ (s : State) (src : ArmSource), Keeps P s (s.armFrom src) := by
    exact fun s _ => .mapRules (by intros; exact id) s _
  disarm : ∀ (s : State) (src : DisarmSource), Keeps P s (s.disarmFrom src) := by
    exact fun s _ => .mapRules (by intros; exact id) s _
  windows : ∀ (s : State) (t : Fin 8), Keeps P s (s.resetWindowsOf t) := by
    exact fun s _ => .mapRules (by intros; exact id) s _
  expired : ∀ (s : State) (t : Fin 8), Keeps P s (s.setTimer t (s.timer t).expired) := by intros; exact id
  triggered : ∀ (s : State) (t : Fin 8), Keeps P s (s.setTimer t (s.timer t).triggered) := by intros; exact id
  ticked : ∀ (s : State) (t : Fin 8), Keeps P s (s.setTimer t (s.timer t).takeTick) := by intros; exact id
  sampled : ∀ (s : State) (e : Fin 2) (m : Sampler), (s.input e).sampler.isSome = true →
    Keeps P s (s.setInput e { s.input e with sampler := some m }) := by intros; exact id
  counted : ∀ (s : State) (e : Fin 2) (k : BitVec 8), Keeps P s (s.setInput e { s.input e with count := k }) := by
    intros; exact id
  stamped : ∀ (s : State) (e : Fin 2) (w : Word), Keeps P s (s.setInput e { s.input e with lastEvent := w }) := by
    intros; exact id
  tick : ∀ s : State, s.timebase.running = true → Keeps P s { s with timebase := s.timebase.tick } := by intros; exact id
  pins : ∀ (s : State) (p : Pins), p.scsLow = s.pins.scsLow → Keeps P s { s with pins := p } := by intros; exact id
  path : ∀ (s : State) (p : Path), p.limitWord = s.path.limitWord → Keeps P s { s with path := p } := by intros; exact id
  rulesRestarted : ∀ s : State, Keeps P s (s.mapRules fun _ x => x.restart) := by
    exact fun s => .mapRules (by intros; exact id) s _
  timersRestarted : ∀ s : State, Keeps P s (s.mapTimers fun _ ch => ch.restart) := by
    exact fun s => .mapTimers (by intros; exact id) s _
  inputsRestarted : ∀ (s : State) (pin : Fin 2 → Bool), Keeps P s (s.mapInputs fun e i => i.restart (pin e)) := by
    exact fun s _ => .mapInputs (by intros; exact id) s _
  answered : ∀ (s : State) (st : Status) (b : Bool), (b = true → st = .busy) → Keeps P s (s.setStatus st b) := by
    intros; exact id

namespace UpdateClosed

variable {P : State → Prop} (h : UpdateClosed P)
include h

theorem effects : EffectClosed (Keeps P) where
  refl _ := id
  trans h h' := h' ∘ h
  draw s := h.draw s _
  flag s g := h.records s _ (setFlag_records s g)
  place s n b _ := h.records s _ (placeAt_records s _ n b)
  arm := h.arm
  disarm := h.disarm
  windows := h.windows
  expired s t _ := h.expired s t
  triggered := h.triggered
  sampled := h.sampled
  counted s e := h.counted s e _
  stamped s e := h.stamped s e _
  reopened s _ _ := h.gate s _ (by rfl)
  pulseEnded s _ := h.records s _ (.of_alert s _ (by rfl))

theorem ends (s : State) (start : LastTick) : Keeps P s { s with alert := s.alert.commandEnds start } :=
  h.records s _ (.of_alert s _ (Alert.commandEnds_config start _))

/-- An effect placed in either order with ALC's tap tick. -/
theorem inTickOrder {f : State → State} (s : State)
    (hf : ∀ p, Keeps P { s with draw := s.draw + 1, alert := { s.alert with lastTick := p } }
      (f { s with draw := s.draw + 1, alert := { s.alert with lastTick := p } })) : Keeps P s (s.inTickOrder f) := by
  have placed : ∀ p, Keeps P s { s with draw := s.draw + 1, alert := { s.alert with lastTick := p } } := fun p =>
    h.effects.trans (h.draw s (s.draw + 1)) (h.records _ _ (.of_alert _ { s.alert with lastTick := p } rfl))
  exact h.effects.trans (h.effects.trans (placed _) (hf _)) (h.ends _ _)

theorem moments : MomentClosed (Keeps P) where
  toEffectClosed := h.effects
  orderExpire s t ht := h.inTickOrder s fun _ => h.effects.expire _ t ht
  orderOpen s hs ho := h.inTickOrder s fun _ => h.effects.gateEnterOpen _ hs ho
  orderOwed s p := h.inTickOrder s fun _ => h.effects.takeOwed p _
  ends := h.ends
  ticked := h.ticked
  gateTicked s := h.gate s _ (Gate.takeTick_config _)
  alertTicked s _ := h.records s _ (.of_alert s _ (Alert.takeTick_config _))
  alertTaken s _ := h.records s _ (.of_alert s _ (by rfl))
  tick s hr := h.effects.trans (h.tick s hr) (h.records _ _ (.of_alert _ _ (by rfl)))
  pin s e b := h.pins s _ (by rfl)

theorem gates : GateClosed (Keeps P) where
  toEffectClosed := h.effects
  gate := h.gate

theorem blocks : BlockClosed (Keeps P) where
  toMomentClosed := h.moments
  path := h.path
  drained := h.gates.endDrain
  holdSet := h.gates.setHold
  holdCleared := h.gates.clearHold
  alertRestarted s := h.records s _ (.of_alert s _ (by rfl))
  queuesRestarted s := h.records s _ (mapQueues_records s (fun _ q => { q with list := [], loss := 0 }) fun _ _ => rfl)
  rulesRestarted := h.rulesRestarted
  timersRestarted := h.timersRestarted
  inputsRestarted := h.inputsRestarted
  answered := h.answered

/-! ### Decisions -/

theorem reserve (t : Txn) (before : Option Word) (sub : Bool) (a : Action) (d : Word) (vs : List Reservation) (k : Nat)
    (w : Word) (s : State) : Keeps P s (s.reserve t before sub a d vs k w).1 := by
  obtain ⟨u, hu, he⟩ := reserve_records t before sub a d vs k w s
  rw [he]
  refine h.effects.trans (h.records s u hu) ?_
  unfold State.consulted
  split
  · exact h.gate u _ (by rfl)
  · exact id

theorem carryOut (t : Txn) (v : Verdict) (s : State) : Keeps P s (s.carryOut t v) := by
  cases v with
  | forward =>
    have begun : Keeps P s { s with path := s.path.begin .forward { t with between := afterDeciding t.between } } :=
      h.path s _ rfl
    unfold State.carryOut
    dsimp only
    split
    · exact h.effects.trans begun (h.gate _ _ (by rfl))
    · exact begun
  | ended o a => exact h.path s _ (by rfl)

/-- A decision and its changes, when every hit and every end of a countdown keeps the property as well. -/
theorem decided (hit : ∀ (s : State) (r : Fin 24), Keeps P s (s.setRule r (s.rule r).hit))
    (zeroed : ∀ (s : State) (r : Fin 24), Keeps P s (s.setRule r (s.rule r).disarm)) (hw : ∀ s u, WordDone s u → Keeps P s u)
    (s u : State) (x : Txn) (before : Option Word) (sub : Bool) :
    Keeps P u (s.thenChanges (u.decideAndCarryOut x before sub)) := by
  have hits : ∀ (s : State) (r : Fin 24), Keeps P s (s.hitRule r) := fun s r => by
    have h1 := hit s r
    have flag : ∀ (s : State) (g : Flag), Keeps P s (s.setFlag g) := h.effects.flag
    unfold State.hitRule
    dsimp only
    split <;> split
    · exact flag _ _ ∘ flag _ _ ∘ h1
    · exact flag _ _ ∘ h1
    · exact flag _ _ ∘ h1
    · exact h1
  have changes : ∀ (c : Changes) (s : State), Keeps P s (s.afterDecision c) := fun c s =>
    h.effects.trans (h.effects.foldl (fun s r => zeroed s r) _ _) (h.effects.foldl (fun s r => h.arm s _) _ _)
  have done : Keeps P u (u.decideAndCarryOut x before sub).1 :=
    h.effects.trans (h.effects.trans (h.effects.foldl hits _ _) (h.moments.decision h.reserve x before sub u))
      (h.carryOut _ _ _)
  unfold State.thenChanges
  dsimp only
  split
  · exact h.effects.trans done (h.ends _ _)
  · have met := h.moments.meetAll (fun s r => hw _ _ (.enableWrite r)) (fun s r => hw _ _ (.disableWrite r)) x.between
    exact h.effects.trans (h.effects.trans (h.effects.trans done (h.ends _ _)) (met _)) (changes _ _)

end UpdateClosed

end State

end Sys2Proof.Machine
end

section
/-! Properties that every step keeps, once the single updates of the commands keep them; and the first such property, that no command
touches the queue of commands. -/

namespace Sys2Proof.Machine

namespace State

theorem removeCopied_records (s : State) : RecordsOnly s s.removeCopied := by
  unfold removeCopied
  split
  · split
    · split
      · exact dropOldest_records s _
      · exact .refl s
    · exact .refl s
  · exact .refl s

/-- The property is kept by every single update that the effect of a write word makes. -/
structure WordUpdates (P : State → Prop) : Prop extends UpdateClosed P where
  definition : ∀ (s : State) (r : Fin 24) (w : RuleWord) (v : Word), (s.rule r).state = .disabled →
    Keeps P s (s.setRule r { s.rule r with defn := (s.rule r).defn.setWord w v }) := by intros; exact id
  enabled : ∀ (s : State) (r : Fin 24), (s.rule r).defn.enableOk r = true → Keeps P s (s.setRule r (s.rule r).enabled) := by
    intros; exact id
  disabled : ∀ (s : State) (r : Fin 24), Keeps P s (s.setRule r (s.rule r).disabled) := by intros; exact id
  hitsCleared : ∀ (s : State) (r : Fin 24), Keeps P s (s.setRule r { s.rule r with hits := 0, alerted := false }) := by
    intros; exact id
  defaults : ∀ (s : State) (v : Word), defaultActionsOk v = true →
    Keeps P s { s with defaultActions := v &&& defaultActionsMask } := by intros; exact id
  unmatchedSet : ∀ (s : State) (v : Word), unmatchedOk v = true → Keeps P s { s with unmatched := v &&& unmatchedMask } := by
    intros; exact id
  limit : ∀ (s : State) (v : Word), Path.limitOk v = true →
    Keeps P s { s with path := { s.path with limitWord := v &&& Path.limitMask } } := by intros; exact id
  queueConfig : ∀ (s : State) (n : Fin 4) (v : Word), Queue.configOk v = true →
    Keeps P s (s.setQueue n { s.queue n with config := v &&& Queue.configMask }) := by intros; exact id
  timebaseStarted : ∀ s : State, Keeps P s { s with timebase := s.timebase.started } := by intros; exact id
  timebaseStopped : ∀ s : State, Keeps P s { s with timebase := s.timebase.stopped } := by intros; exact id
  timebaseConfig : ∀ (s : State) (v : Word), Timebase.configOk v = true →
    Keeps P s { s with timebase := { s.timebase with config := v &&& Timebase.configMask } } := by intros; exact id
  timestamp : ∀ (s : State) (v : Word), Keeps P s { s with timebase := { s.timebase with timestamp := v } } := by
    intros; exact id
  timerConfig : ∀ (s : State) (t : Fin 8) (v : Word), (s.timer t).state = .stopped → Timer.configOk v = true →
    Keeps P s (s.setTimer t { s.timer t with config := v &&& Timer.configMask }) := by intros; exact id
  timerReload : ∀ (s : State) (t : Fin 8) (x : BitVec 16), x ≠ 0 → Keeps P s (s.setTimer t { s.timer t with reload := x }) := by
    intros; exact id
  timerStarted : ∀ (s : State) (t : Fin 8), (s.timer t).state = .stopped → Keeps P s (s.setTimer t (s.timer t).started) := by
    intros; exact id
  timerStopped : ∀ (s : State) (t : Fin 8), Keeps P s (s.setTimer t (s.timer t).stopped) := by intros; exact id
  timerPreset : ∀ (s : State) (t : Fin 8), Keeps P s (s.setTimer t { s.timer t with counter := (s.timer t).reload }) := by
    intros; exact id
  inputConfig : ∀ (s : State) (e : Fin 2) (v : Word) (pin : Bool), EventInput.configOk v = true →
    Keeps P s (s.setInput e { s.input e with
      config := v &&& EventInput.configMask, sampler := if wbit v 0 then some (.seed pin) else none }) := by
    intros; exact id
  gateConfig : ∀ (s : State) (v : Word), Gate.configOk v = true →
    Keeps P s { s with gate := { s.gate with config := v &&& Gate.configMask } } := by intros; exact id
  alertConfig : ∀ (s : State) (v : Word), Alert.configOk v = true → Keeps P s { s with alert := s.alert.writeConfig v } := by
    intros; exact id
  locked : ∀ (s : State) (b : Bool), Keeps P s { s with link := { s.link with locked := b } } := by intros; exact id
  code : ∀ (s : State) (v : Word), Keeps P s { s with link := { s.link with code := v } } := by intros; exact id
  copyTaken : ∀ (s : State) (c : Image), Keeps P s { s with store :=
    { s.store with state := .saving, copy := some c, saveResult := .none, check := none } } := by intros; exact id

/-- The property is kept by every single update that a step makes, but for a reset and those of a decision. -/
structure RunUpdates (P : State → Prop) : Prop extends WordUpdates P where
  power : ∀ (s : State) (b : Bool), Keeps P s { s with powered := b } := by intros; exact id
  framed : ∀ (s : State) (f : Frame), Keeps P s (s.setFrame f) := by intros; exact id
  selected : ∀ (s : State) (b : Bool), Keeps P s { s with pins := { s.pins with scsLow := b } } := by intros; exact id
  copied : ∀ (s : State) (c : Option ReadCopy), Keeps P s { s with copy := c } := by intros; exact id
  torn : ∀ (s : State) (r : SaveResult), Keeps P s (s.tearSave r) := by
    intro s r; unfold tearSave; split <;> exact id
  saved : ∀ s : State, Keeps P s s.endSave := by
    intro s; unfold endSave; split <;> exact id
  periodBegun : ∀ s : State, Keeps P s s.beginFirstPeriod := by intros; exact id

/-- The property is kept by every single update that a step makes, but for those of a decision. -/
structure PlainUpdates (P : State → Prop) : Prop extends RunUpdates P where
  reset : ∀ s : State, Keeps P s s.resetBlocks

/-- The property is kept by every single update that a step makes. -/
structure StepUpdates (P : State → Prop) : Prop extends PlainUpdates P where
  hit : ∀ (s : State) (r : Fin 24), Keeps P s (s.setRule r (s.rule r).hit) := by intros; exact id
  zeroed : ∀ (s : State) (r : Fin 24), Keeps P s (s.setRule r (s.rule r).disarm) := by intros; exact id

namespace WordUpdates

variable {P : State → Prop} (h : WordUpdates P)
include h

theorem queueUpdated (s : State) (n : Fin 4) (q : Queue) (hq : q.config = (s.queue n).config) : Keeps P s (s.setQueue n q) := by
  refine h.records s _ (.of_queues (setQueue_frame s n q) rfl fun m => ?_)
  rw [queue_setQueue]
  split
  next e => rw [hq, e]
  · rfl

theorem written (s u : State) (hw : WriteEffect s u) : Keeps P s u := by
  cases hw with
  | nothing => exact id
  | definition r w v hd => exact h.definition s r w v hd
  | enabled r _ hok => exact h.enabled s r hok
  | disabled r _ => exact h.disabled s r
  | hitsCleared r => exact h.hitsCleared s r
  | defaultActions v hok => exact h.defaults s v hok
  | unmatched v hok => exact h.unmatchedSet s v hok
  | limit v hok => exact h.limit s v hok
  | queueConfig n v _ hok => exact h.queueConfig s n v hok
  | queueOn n => exact h.queueUpdated s n _ rfl
  | queueOff n => exact h.queueUpdated s n _ rfl
  | flush n => exact h.queueUpdated s n _ rfl
  | timebaseStarted => exact h.timebaseStarted s
  | timebaseStopped => exact h.timebaseStopped s
  | timebaseConfig v _ hok => exact h.timebaseConfig s v hok
  | timestamp v => exact h.effects.trans (h.moments.settleOwed s) (h.timestamp _ v)
  | timerConfig t v hs hok => exact h.timerConfig s t v hs hok
  | timerReload t x _ hx => exact h.timerReload s t x hx
  | timerStarted t hs => exact h.timerStarted s t hs
  | timerStopped t => exact h.timerStopped s t
  | timerPreset t => exact h.timerPreset s t
  | inputConfig e v hok => exact h.inputConfig s e v _ hok
  | held => exact h.effects.trans (h.blocks.holdSet s) (h.ends _ _)
  | released => exact h.effects.trans (h.blocks.holdCleared s) (h.ends _ _)
  | gateConfig v hok => exact h.gateConfig s v hok
  | flagsCleared v => exact h.records s _ (.of_alert s _ (Alert.clearFlags_config v _))
  | enables v => exact h.effects.trans (h.records s _ (.of_alert s _ (Alert.writeEnables_config _ v _))) (h.ends _ _)
  | alertConfig v hok => exact h.alertConfig s v hok
  | locked b => exact h.locked s b
  | code v => exact h.code s v
  | saved => exact h.copyTaken s _
  | restarted => exact h.blocks.restartEffect s
  | restartHeld => exact h.path s _ (by rfl)
  | portReset => exact h.path s _ (by rfl)

end WordUpdates

namespace RunUpdates

variable {P : State → Prop} (h : RunUpdates P)
include h

theorem word (s u : State) (hw : WordDone s u) : Keeps P s u := by
  cases hw with
  | none => exact id
  | refused a left st _ => exact h.effects.trans (h.framed s _) (h.answered _ st false nofun)
  | done a left st mark u _ _ he hm =>
    exact h.effects.trans (h.effects.trans (h.framed s _) (h.written _ u he)) (h.answered u st mark hm)

theorem removeCopied (s : State) : Keeps P s s.removeCopied := h.records s _ (removeCopied_records s)

theorem makeCopy (s : State) (k : WindowKind) (n : Fin 4) : Keeps P s (s.makeCopy k n) := by
  unfold State.makeCopy
  split
  · split
    · exact h.effects.trans (h.effects.trans (h.removeCopied s) (h.copied _ _)) (h.framed _ _)
    · exact id
  · exact id

theorem beginFrame (s : State) (kind : HeaderKind) (a : ServiceAddr) (count : BitVec 8) :
    Keeps P s (s.beginFrame kind a count) := by
  have isVoid : Keeps P s ((s.setFrame .void).setStatus .invalid false) :=
    h.effects.trans (h.framed s _) (h.answered _ _ _ nofun)
  unfold State.beginFrame
  split
  · exact isVoid
  · cases kind with
    | read => exact h.framed s _
    | write => exact h.framed s _
    | unnamed => exact isVoid

theorem clockOut (s : State) : Keeps P s s.clockOut := by
  unfold State.clockOut
  split
  · exact h.framed s _
  · exact id

/-- A property that decisions keep as well is kept by every command but a reset. -/
theorem runsDeciding (hd : ∀ (s u : State) (x : Txn) (before : Option Word) (sub : Bool),
    Keeps P u (s.thenChanges (u.decideAndCarryOut x before sub))) : RunClosed (Keeps P) where
  toBlockClosed := h.blocks
  refused s := h.gate s _ (by rfl)
  told s := h.gate s _ (by rfl)
  completed s before o d := h.records s _ (completeAll_records s before o d)
  written := h.written
  decided := hd
  pins := h.pins
  power := h.power
  selected s := h.selected s true
  headed s kind a count _ := h.beginFrame s kind a count
  deselected s :=
    h.effects.trans (h.effects.trans (h.selected s false) (h.copied _ Option.none)) (h.framed _ .idle)
  wordTaken s _ _ _ := h.framed s _
  copyMade := h.makeCopy
  popped s _ f _ := h.effects.trans (h.removeCopied s) (h.framed _ f)
  clocked := h.clockOut
  pfailTaken := h.gates.pfailAssert
  pfailReleased := h.gates.pfailDeassert
  torn := h.torn
  saved := h.saved
  periodBegun := h.periodBegun

end RunUpdates

/-- A property that decisions keep as well is kept by every command. -/
theorem PlainUpdates.stepsDeciding {P : State → Prop} (h : PlainUpdates P)
    (hd : ∀ (s u : State) (x : Txn) (before : Option Word) (sub : Bool),
      Keeps P u (s.thenChanges (u.decideAndCarryOut x before sub))) : StepClosed (Keeps P) where
  toRunClosed := h.runsDeciding hd
  reset := h.reset

theorem StepUpdates.steps {P : State → Prop} (h : StepUpdates P) : StepClosed (Keeps P) :=
  h.stepsDeciding (h.decided h.hit h.zeroed h.word)

end State

/-! ### Every command leaves the queue of commands alone -/

theorem State.resetBlocks_pending (s : State) : s.resetBlocks.pending = s.pending := by
  unfold State.resetBlocks
  rfl

/-- The queue of commands is no part of what any block updates. -/
theorem State.stepUpdates_pending (l : List Instr) : State.StepUpdates fun s => s.pending = l where
  reset s h := (resetBlocks_pending s).trans h

theorem State.gateLookAtPfail_frame (s : State) : State.TickFrame s s.gateLookAtPfail := by
  unfold State.gateLookAtPfail
  split
  · exact (State.gate_frame s _).trans (State.gateCauseArrival_frame _)
  · exact .refl s

theorem State.loadQueueOn_frame (i : Image) (s : State) (n : Fin 4) : State.RecordFrame s (State.loadQueueOn i s n) := by
  have turned : State.RecordFrame s (queueTurnOn n s).2 := by
    unfold queueTurnOn
    dsimp only
    split
    · exact .refl s
    · split
      · exact .refl s
      · exact State.setQueue_frame s n _
  unfold State.loadQueueOn
  split
  · dsimp only
    split
    · exact turned.trans (State.setQueue_frame _ n _)
    · exact .refl s
  · exact .refl s

theorem State.loadConfiguration_pending (i : Image) (s : State) : (s.loadConfiguration i).pending = s.pending := by
  unfold State.loadConfiguration
  rfl

theorem State.loadStarts_pending (i : Image) (s : State) : (s.loadStarts i).pending = s.pending := by
  have queues := (State.foldl_frame .refl .trans (State.loadQueueOn_frame i) allQueues s).pending
  unfold State.loadStarts
  exact queues

theorem State.loadLockAndGate_pending (s : State) : s.loadLockAndGate.pending = s.pending :=
  (State.gateLookAtPfail_frame _).pending

theorem State.applyImage_pending (ok : Bool) (i : Image) (s : State) : (s.applyImage ok i).pending = s.pending := by
  unfold State.applyImage
  dsimp only
  rw [State.loadLockAndGate_pending]
  split
  · rw [State.loadStarts_pending, State.loadConfiguration_pending]
  · rw [State.setFlag_pending, State.loadStarts_pending, State.loadConfiguration_pending]

theorem State.endLoading_pending (s : State) : s.endLoading.pending = s.pending := by
  unfold State.endLoading
  rw [State.endCommand_pending]
  split <;> exact State.applyImage_pending _ _ s

theorem exec_pending {c : Instr} {s t : State} (h : exec c s = .next t) : t.pending = s.pending :=
  (State.stepUpdates_pending s.pending).steps.exec (fun _ _ => State.endLoading_pending s) h rfl

/-- Only an UPSTREAM_REQUEST for a WRITE without a lane is refused; every other command answers a next state. -/
theorem exec_of_wf {c : Instr} (s : State) (h : c.wf = true) : ∃ t, exec c s = .next t := by
  cases c with
  | upstreamRequest r =>
    have hwf : ¬ (!r.wf) = true := by
      rw [show r.wf = true from h]
      exact nofun
    exact ⟨_, if_neg hwf⟩
  | _ => exact ⟨_, rfl⟩

/-- Settles O2: which commands answer is read off their form, and none of them reaches the queue of commands. -/
theorem allowedCommandsAlwaysComplete : Obligations.AllowedCommandsAlwaysComplete :=
  ⟨fun _ s hwf => (exec_of_wf s hwf).imp fun _ ht => ⟨ht, exec_pending ht⟩, fun _ _ _ _ => rfl⟩

end Sys2Proof.Machine
end

section
/-! The forms of timers, inputs, timebase, store and link, and the words they hold: each form is kept by the single updates of its
block (R113, R136, R108, R185, R178, R174, R189, R192). -/

namespace Sys2Proof.Machine

/-! ### A table whose entries all have a property -/

namespace State

theorem forall_rule_setRule {Q : Fin 24 → Rule → Prop} {s : State} (h : ∀ i, Q i (s.rule i)) {r : Fin 24} {x : Rule}
    (hx : Q r x) (i : Fin 24) : Q i ((s.setRule r x).rule i) := by
  rw [rule_setRule]
  split
  next e => exact e ▸ hx
  · exact h i

theorem forall_rule_mapRules {Q : Fin 24 → Rule → Prop} {s : State} (h : ∀ i, Q i (s.rule i)) {f : Fin 24 → Rule → Rule}
    (hf : ∀ i x, Q i x → Q i (f i x)) (i : Fin 24) : Q i ((s.mapRules f).rule i) := by
  rw [rule_mapRules]
  exact hf i _ (h i)

theorem forall_queue_setQueue {Q : Queue → Prop} {s : State} (h : ∀ n, Q (s.queue n)) {n : Fin 4} {x : Queue} (hx : Q x)
    (m : Fin 4) : Q ((s.setQueue n x).queue m) := by
  rw [queue_setQueue]
  split
  · exact hx
  · exact h m

theorem forall_timer_setTimer {Q : Timer → Prop} {s : State} (h : ∀ t, Q (s.timer t)) {t : Fin 8} {x : Timer} (hx : Q x)
    (c : Fin 8) : Q ((s.setTimer t x).timer c) := by
  rw [timer_setTimer]
  split
  · exact hx
  · exact h c

theorem forall_timer_mapTimers {Q : Timer → Prop} {s : State} (h : ∀ t, Q (s.timer t)) {f : Fin 8 → Timer → Timer}
    (hf : ∀ t x, Q x → Q (f t x)) (c : Fin 8) : Q ((s.mapTimers f).timer c) := by
  rw [timer_mapTimers]
  exact hf c _ (h c)

theorem forall_input_setInput {Q : EventInput → Prop} {s : State} (h : ∀ e, Q (s.input e)) {e : Fin 2} {x : EventInput}
    (hx : Q x) (c : Fin 2) : Q ((s.setInput e x).input c) := by
  rw [input_setInput]
  split
  · exact hx
  · exact h c

theorem forall_input_mapInputs {Q : EventInput → Prop} {s : State} (h : ∀ e, Q (s.input e))
    {f : Fin 2 → EventInput → EventInput} (hf : ∀ e x, Q x → Q (f e x)) (c : Fin 2) : Q ((s.mapInputs f).input c) := by
  rw [input_mapInputs]
  exact hf c _ (h c)

/-! ### The end of loading -/

theorem loadQueueOn_records (i : Image) (s : State) (n : Fin 4) : RecordsOnly s (loadQueueOn i s n) := by
  have set : ∀ (s : State) (q : Queue), q.config = (s.queue n).config → RecordsOnly s (s.setQueue n q) := fun s q hq => by
    refine .of_queues (setQueue_frame s n q) rfl fun m => ?_
    rw [queue_setQueue]
    split
    next e => rw [hq, e]
    · rfl
  have turned : RecordsOnly s (queueTurnOn n s).2 := by
    unfold queueTurnOn
    dsimp only
    split
    · exact .refl s
    · split
      · exact .refl s
      · exact set s _ rfl
  unfold loadQueueOn
  split
  · dsimp only
    split
    · exact turned.trans (set _ _ rfl)
    · exact .refl s
  · exact .refl s

theorem loadQueues_records (i : Image) (s : State) : RecordsOnly s (allQueues.foldl (loadQueueOn i) s) :=
  foldl_frame .refl .trans (loadQueueOn_records i) _ _

@[simp] theorem loadStarts_rule (i : Image) (s : State) (r : Fin 24) : (s.loadStarts i).rule r = Rule.load r i.rules[r] := by
  simp [loadStarts, rule]

@[simp] theorem loadStarts_timer (i : Image) (s : State) (t : Fin 8) : (s.loadStarts i).timer t = Timer.load i.timers[t] := by
  simp [loadStarts, timer]

@[simp] theorem loadStarts_timebase (i : Image) (s : State) :
    (s.loadStarts i).timebase = Timebase.load i.timebase i.timebaseRunning := rfl

@[simp] theorem loadStarts_input (i : Image) (s : State) (e : Fin 2) :
    (s.loadStarts i).input e = EventInput.load (s.evPin e) i.inputs[e] := by
  have pins : (allQueues.foldl (loadQueueOn i) s).pins = s.pins := (loadQueues_records i s).1.pins
  simp [loadStarts, input, evPin, pins]

theorem loadStarts_queue (i : Image) (s : State) (n : Fin 4) :
    (s.loadStarts i).queue n = (allQueues.foldl (loadQueueOn i) s).queue n := queue_congr (by simp only [loadStarts]) n

theorem loadStarts_queue_config (i : Image) (s : State) (n : Fin 4) :
    ((s.loadStarts i).queue n).config = (s.queue n).config := by
  rw [loadStarts_queue]
  exact (loadQueues_records i s).2.1 n

/-- Putting the stored states into effect touches the queues, the record number, and the four tables it loads. -/
theorem loadStarts_frame (i : Image) (s : State) :
    (s.loadStarts i).powered = s.powered ∧ (s.loadStarts i).pins = s.pins ∧ (s.loadStarts i).path = s.path ∧
    (s.loadStarts i).defaultActions = s.defaultActions ∧ (s.loadStarts i).unmatched = s.unmatched ∧
    (s.loadStarts i).copy = s.copy ∧ (s.loadStarts i).gate = s.gate ∧ (s.loadStarts i).link = s.link ∧
    (s.loadStarts i).store = s.store := by
  have h := (loadQueues_records i s).1
  unfold loadStarts
  generalize allQueues.foldl (loadQueueOn i) s = u at h
  exact ⟨h.powered, h.pins, h.path, h.defaultActions, h.unmatched, h.copy, h.gate, h.link, h.store⟩

/-- The end of loading keeps a property that the loaded configuration has. -/
theorem WordUpdates.endLoading {P : State → Prop} (h : WordUpdates P)
    (idle : ∀ (s : State) (b : Bool), Keeps P s { s with store := { s.store with state := .idle, loadDefaults := b } })
    (s : State) (loaded : ∀ i, P ((s.loadConfiguration i).loadStarts i)) : P s.endLoading := by
  have flagged : ∀ (ok : Bool) (s : State), Keeps P s (if ok then s else s.setFlag .config) := fun ok s => by
    split
    · exact id
    · exact h.effects.flag s _
  have applied : ∀ ok i, P (s.applyImage ok i) := fun ok i =>
    idle _ _ (h.gates.lookAtPfail _ (h.locked _ _ (flagged ok _ (loaded i))))
  unfold State.endLoading
  refine h.ends _ _ ?_
  split <;> exact applied _ _

end State

/-! ### Timers (R113, R114) -/

namespace Timer

theorem Ok.of_state {ch x : Timer} (h : ch.Ok) (hc : x.config = ch.config) (hr : x.reload = ch.reload)
    (hs : x.state = ch.state) : x.Ok := by
  obtain ⟨hl, hw, h0⟩ := h
  have hm : x.mode = ch.mode := by unfold mode; rw [hc]
  exact ⟨fun e => hm.trans (hl (hs ▸ e)), fun e => hm.trans (hw (hs ▸ e)), hr ▸ h0⟩

theorem Ok.of_plain {ch x : Timer} (h : ch.Ok) (hr : x.reload = ch.reload) (hl : x.state ≠ .lapsed) (hw : x.state ≠ .waiting) :
    x.Ok := ⟨fun e => absurd e hl, fun e => absurd e hw, hr ▸ h.2.2⟩

theorem Ok.reset : Timer.reset.Ok := by decide

theorem Ok.loadIfZero {ch : Timer} (h : ch.Ok) : ch.loadIfZero.Ok := by
  unfold Timer.loadIfZero
  split
  · exact h.of_state rfl rfl rfl
  · exact h

theorem loadIfZero_reload (ch : Timer) : ch.loadIfZero.reload = ch.reload := by
  unfold loadIfZero
  split <;> rfl

theorem Ok.takeTick {ch : Timer} (h : ch.Ok) : ch.takeTick.Ok := by
  unfold Timer.takeTick
  split
  · exact h
  · split
    · exact h.of_state rfl rfl rfl
    · split
      · exact h.of_state rfl rfl rfl
      · exact h.of_state rfl rfl rfl

theorem Ok.expired {ch : Timer} (h : ch.Ok) : ch.expired.Ok := by
  unfold Timer.expired
  split
  · exact h.of_plain rfl nofun nofun
  · exact h.of_state rfl rfl rfl
  next hm => exact ⟨fun _ => hm, nofun, h.2.2⟩
  · exact h.of_state rfl rfl rfl

theorem Ok.trigger' {ch : Timer} (h : ch.Ok) : ch.trigger'.Ok := by
  unfold Timer.trigger'
  split
  · exact h.of_plain (loadIfZero_reload ch) nofun nofun
  · exact h.of_state rfl rfl rfl
  · exact h.of_plain rfl nofun nofun
  · exact h.of_plain rfl nofun nofun
  · exact h.of_state rfl rfl rfl
  · exact h

theorem Ok.triggered {ch : Timer} (h : ch.Ok) : ch.triggered.Ok := by
  unfold Timer.triggered
  split
  · exact (h.trigger'.of_state (x := { ch.trigger' with tickOwed := false }) rfl rfl rfl).takeTick
  · exact h.trigger'

theorem Ok.started {ch : Timer} (h : ch.Ok) : ch.started.Ok := by
  unfold Timer.started
  split
  next hm => exact ⟨nofun, fun _ => hm, h.2.2⟩
  · exact h.of_plain (loadIfZero_reload ch) nofun nofun

theorem Ok.load (i : TimerImage) : (Timer.load i).Ok := by
  unfold Timer.load
  split
  next hi =>
    have hr : i.reload ≠ 0 := by simpa using (Bool.and_eq_true_iff.mp hi).2
    have hch : ∀ c : Word, Timer.Ok { Timer.reset with config := c, reload := i.reload, counter := i.reload } :=
      fun c => ⟨nofun, nofun, hr⟩
    dsimp only
    split
    · exact (hch _).started
    · exact hch _
  · exact Ok.reset

end Timer

/-- R113, R114. -/
theorem State.stepUpdates_timers : State.StepUpdates State.TimersOk where
  expired _ _ h := forall_timer_setTimer (Q := Timer.Ok) h (h _).expired
  triggered _ _ h := forall_timer_setTimer (Q := Timer.Ok) h (h _).triggered
  ticked _ _ h := forall_timer_setTimer (Q := Timer.Ok) h (h _).takeTick
  timersRestarted _ h := forall_timer_mapTimers (Q := Timer.Ok) h fun _ _ hx => hx.of_plain rfl nofun nofun
  timerConfig s t v hs _ h := forall_timer_setTimer (Q := Timer.Ok) h
    ((h t).of_plain rfl (fun e => absurd (hs.symm.trans e) nofun) fun e => absurd (hs.symm.trans e) nofun)
  timerReload s t x hx h := forall_timer_setTimer (Q := Timer.Ok) h ⟨(h t).1, (h t).2.1, hx⟩
  timerStarted _ _ _ h := forall_timer_setTimer (Q := Timer.Ok) h (h _).started
  timerStopped _ _ h := forall_timer_setTimer (Q := Timer.Ok) h ((h _).of_plain rfl nofun nofun)
  timerPreset _ _ h := forall_timer_setTimer (Q := Timer.Ok) h ((h _).of_state rfl rfl rfl)
  reset s _ t := by
    have hr : s.resetBlocks.timer t = Timer.reset := by simp [State.resetBlocks, State.timer]
    rw [hr]
    exact Timer.Ok.reset

/-! ### Inputs (R136) -/

namespace EventInput

/-- An input has a sampler exactly while it is enabled. -/
def SamplerOk (i : EventInput) : Prop := i.sampler.isSome ↔ i.enabled = true

theorem SamplerOk.of_same {i x : EventInput} (h : i.SamplerOk) (hs : x.sampler = i.sampler) (hc : x.config = i.config) :
    x.SamplerOk := by
  unfold SamplerOk enabled at *
  rw [hs, hc]
  exact h

theorem SamplerOk.of_ite {i : EventInput} (m : Sampler) (hs : i.sampler = if i.enabled then some m else none) :
    i.SamplerOk := by
  unfold SamplerOk
  rw [hs]
  cases i.enabled <;> simp

theorem SamplerOk.reset : EventInput.reset.SamplerOk := by
  unfold SamplerOk
  decide

/-- The enable is a stored bit. -/
theorem wbit_configMask (v : Word) : wbit (v &&& configMask) 0 = wbit v 0 := by
  simp [wbit, configMask]

theorem SamplerOk.configured {i : EventInput} (v : Word) (m : Sampler) (hc : i.config = v &&& configMask)
    (hs : i.sampler = if wbit v 0 then some m else none) : i.SamplerOk := by
  refine .of_ite m ?_
  rw [hs, enabled, hc, wbit_configMask]

theorem SamplerOk.load (pin : Bool) (w : Word) : (EventInput.load pin w).SamplerOk := by
  unfold EventInput.load
  split
  · exact .configured w _ rfl rfl
  · exact .reset

end EventInput

/-- R136. -/
theorem State.stepUpdates_inputs : State.StepUpdates fun s => ∀ e, (s.input e).SamplerOk where
  sampled s e m hm h := forall_input_setInput (Q := EventInput.SamplerOk) h
    ⟨fun _ => (h e).mp hm, fun _ => rfl⟩
  counted _ _ _ h := forall_input_setInput (Q := EventInput.SamplerOk) h ((h _).of_same rfl rfl)
  stamped _ _ _ h := forall_input_setInput (Q := EventInput.SamplerOk) h ((h _).of_same rfl rfl)
  inputsRestarted s pin h := forall_input_mapInputs (Q := EventInput.SamplerOk) h fun e _ _ => .of_ite (.seed (pin e)) rfl
  inputConfig s e v pin _ h := forall_input_setInput (Q := EventInput.SamplerOk) h (.configured v (.seed pin) rfl rfl)
  reset s _ e := by
    have hr : s.resetBlocks.input e = EventInput.reset := by simp [State.resetBlocks, State.input]
    rw [hr]
    exact .reset

end Sys2Proof.Machine
end

section
/-! The forms of the timebase, the store, the marker and the frames, and the words that are stored; with the forms of the timers and
the inputs they make up what every step keeps of the blocks outside the path. -/

namespace Sys2Proof.Machine

/-! ### Timebase (R108, R109) -/

namespace Timebase

theorem Ok.of_same {b c : Timebase} (h : b.Ok) (hr : c.running = b.running) (hp : c.period = b.period)
    (hc : c.config = b.config) : c.Ok := by
  unfold Timebase.Ok at *
  rwa [hr, hp, hc]

theorem Ok.beginPeriod {b : Timebase} (h : b.running = true) (hc : configOk b.config = true) : b.beginPeriod.Ok :=
  ⟨⟨fun _ => nofun, fun _ => h⟩, hc⟩

/-- The first period begins on a RUNNING timebase alone. -/
theorem firstBegun_eq (b : Timebase) : b.firstBegun = b ∨ (b.period = .starting ∧ b.firstBegun = b.beginPeriod) := by
  unfold firstBegun
  split
  next h => exact .inr ⟨h, rfl⟩
  · exact .inl rfl

theorem Ok.firstBegun {b : Timebase} (h : b.Ok) : b.firstBegun.Ok := by
  obtain e | ⟨hp, e⟩ := b.firstBegun_eq
  · rwa [e]
  · rw [e]
    exact .beginPeriod (h.1.mpr (by rw [hp]; exact nofun)) h.2

theorem firstBegun_running (b : Timebase) : b.firstBegun.running = b.running := by
  obtain e | ⟨_, e⟩ := b.firstBegun_eq
  · rw [e]
  · rw [e]
    rfl

theorem Ok.tick {b : Timebase} (h : b.Ok) (hr : b.running = true) : b.tick.Ok :=
  .beginPeriod (b.firstBegun_running.trans hr) h.firstBegun.2

theorem Ok.started {b : Timebase} (h : configOk b.config = true) : b.started.Ok := ⟨⟨fun _ => nofun, fun _ => rfl⟩, h⟩

theorem Ok.reset : Timebase.reset.Ok := by decide

end Timebase

/-! ### Masks: the bits that are stored hold every checked field -/

theorem fld_and (u v : Word) (lo len : Nat) : fld (u &&& v) lo len = fld u lo len &&& fld v lo len := by
  ext i hi
  simp [fld]

theorem fld_mask (v : Word) {m : Word} {lo len : Nat} (h : fld m lo len = BitVec.allOnes len) :
    fld (v &&& m) lo len = fld v lo len := by
  rw [fld_and, h, BitVec.and_allOnes]

theorem wbit_mask (v : Word) {m : Word} {i : Nat} (h : wbit m i = true) : wbit (v &&& m) i = wbit v i := by
  unfold wbit at *
  rw [BitVec.getLsbD_and, h, Bool.and_true]

theorem storedIn_mask (v m : Word) : storedIn m (v &&& m) := by
  rw [storedIn, BitVec.and_assoc]
  simp

theorem Queue.configOk_mask (v : Word) : configOk (v &&& configMask) = configOk v := by
  rw [Bool.eq_iff_iff, configOk_iff, configOk_iff,
    fld_mask v (by decide : fld configMask 0 9 = _), fld_mask v (by decide : fld configMask 12 2 = _),
    fld_mask v (by decide : fld configMask 16 9 = _)]

theorem Timer.configOk_mask (v : Word) : configOk (v &&& configMask) = configOk v := by
  rw [Bool.eq_iff_iff, configOk_iff, configOk_iff,
    fld_mask v (by decide : fld configMask 0 3 = _), fld_mask v (by decide : fld configMask 4 3 = _),
    fld_mask v (by decide : fld configMask 8 2 = _), fld_mask v (by decide : fld configMask 10 5 = _)]

theorem EventInput.configOk_mask (v : Word) : configOk (v &&& configMask) = configOk v := by
  rw [Bool.eq_iff_iff, configOk_iff, configOk_iff,
    fld_mask v (by decide : fld configMask 2 3 = _), fld_mask v (by decide : fld configMask 7 3 = _),
    wbit_mask v (by decide : wbit configMask 6 = true)]

theorem Gate.configOk_mask (v : Word) : configOk (v &&& configMask) = configOk v := by
  rw [Bool.eq_iff_iff, configOk_iff, configOk_iff,
    fld_mask v (by decide : fld configMask 8 8 = _), fld_mask v (by decide : fld configMask 16 3 = _),
    fld_mask v (by decide : fld configMask 0 2 = _), fld_mask v (by decide : fld configMask 21 3 = _),
    wbit_mask v (by decide : wbit configMask 20 = true)]

theorem Alert.configOk_mask (v : Word) : configOk (v &&& configMask) = configOk v := by
  rw [Bool.eq_iff_iff, configOk_iff, configOk_iff,
    fld_mask v (by decide : fld configMask 0 2 = _), fld_mask v (by decide : fld configMask 8 8 = _),
    fld_mask v (by decide : fld configMask 16 3 = _)]

theorem Timebase.configOk_mask (v : Word) : configOk (v &&& configMask) = configOk v := by
  rw [Bool.eq_iff_iff, configOk_iff, configOk_iff,
    fld_mask v (by decide : fld configMask 0 9 = _)]

theorem Path.limitOk_mask (v : Word) : limitOk (v &&& limitMask) = limitOk v := by
  rw [Bool.eq_iff_iff, limitOk_iff, limitOk_iff,
    fld_mask v (by decide : fld limitMask 0 12 = _), fld_mask v (by decide : fld limitMask 17 3 = _),
    wbit_mask v (by decide : wbit limitMask 16 = true)]

theorem defaultActionsOk_mask (v : Word) : defaultActionsOk (v &&& defaultActionsMask) = defaultActionsOk v := by
  rw [Bool.eq_iff_iff, defaultActionsOk_iff, defaultActionsOk_iff,
    fld_mask v (by decide : fld defaultActionsMask 0 2 = _), fld_mask v (by decide : fld defaultActionsMask 4 2 = _)]

theorem unmatchedOk_mask (v : Word) : unmatchedOk (v &&& unmatchedMask) = unmatchedOk v := by
  rw [Bool.eq_iff_iff, unmatchedOk_iff, unmatchedOk_iff,
    fld_mask v (by decide : fld unmatchedMask 4 2 = _), wbit_mask v (by decide : wbit unmatchedMask 0 = true)]

/-- A word kept under a mask that holds every checked field, and checked. -/
theorem storedIn_and_ok {mask : Word} {ok : Word → Bool} (hm : ∀ v, ok (v &&& mask) = ok v) {v : Word} (h : ok v = true) :
    storedIn mask (v &&& mask) ∧ ok (v &&& mask) = true := ⟨storedIn_mask v mask, (hm v).trans h⟩

/-! ### Timebase and store, step by step -/

theorem Timebase.Ok.load (w : Word) (run : Bool) : (Timebase.load w run).Ok := by
  have config : Timebase.Ok (if configOk w then { Timebase.reset with config := w &&& configMask } else Timebase.reset) := by
    split
    next h => exact ⟨⟨nofun, fun h => absurd rfl h⟩, (configOk_mask w).trans h⟩
    · exact .reset
  unfold Timebase.load
  dsimp only
  split
  · exact .started config.2
  · exact config

namespace State

/-- R108, R109. -/
theorem stepUpdates_timebase : StepUpdates fun s => s.timebase.Ok where
  tick _ hr h := h.tick hr
  timebaseStarted _ h := .started h.2
  timebaseStopped _ h := ⟨⟨nofun, fun e => absurd rfl e⟩, h.2⟩
  timebaseConfig _ v hok h := ⟨h.1, (Timebase.configOk_mask v).trans hok⟩
  timestamp _ _ h := h.of_same rfl rfl rfl
  reset _ _ := .reset
  periodBegun _ h := h.firstBegun

/-- R185. -/
theorem stepUpdates_store : StepUpdates fun s => s.store.Ok where
  copyTaken _ _ _ := ⟨⟨fun _ => rfl, fun _ => rfl⟩, fun _ => rfl⟩
  torn s r h := by
    unfold tearSave
    split
    · exact ⟨⟨nofun, nofun⟩, nofun⟩
    · exact h
  saved s h := by
    unfold endSave
    split
    · exact ⟨⟨nofun, nofun⟩, nofun⟩
    · exact h
  reset _ _ := ⟨⟨nofun, nofun⟩, nofun⟩

/-- R178. -/
theorem stepUpdates_mark : StepUpdates fun s => s.link.MarkOk where
  answered _ _ _ hb _ := hb
  reset _ _ := nofun

/-! ### Frames (R174) -/

theorem wordUpdates_frame : WordUpdates FrameOk where
  pins s p hp h := ⟨h.1, fun e => h.2.1 (hp ▸ e), h.2.2⟩

theorem windowAhead_left (c : Option ReadCopy) (left : Nat) :
    ∀ (a : ServiceAddr) (w : Reached), windowAhead c a left = some w → w.left < left := by
  induction left with
  | zero => exact fun a w h => absurd h nofun
  | succ left ih =>
    intro a w h
    unfold windowAhead at h
    split at h
    · split at h
      · exact Nat.lt_succ_of_lt (ih _ w h)
      · obtain rfl := Option.some.inj h
        exact Nat.lt_succ_self left
    · exact Nat.lt_succ_of_lt (ih _ w h)

theorem nextWindow_frame {s : State} {w : Reached} (h : s.nextWindow = some w) :
    ∃ a left, s.link.frame = .data .read a left ∧ w.left < left := by
  unfold nextWindow at h
  split at h
  next a left hf => exact ⟨a, left, hf, windowAhead_left _ left a w h⟩
  · exact absurd h nofun

theorem popWord5_frame {s : State} {n : Fin 4} {f : Frame} (h : s.popWord5 n = some f) :
    ∃ a left b left', s.link.frame = .data .read a left ∧ f = .data .read b left' ∧ left' ≤ left := by
  unfold popWord5 at h
  split at h
  next a left hf =>
    dsimp only at h
    split at h
    · obtain rfl := Option.some.inj h
      exact ⟨a, left, _, _, hf, rfl, Nat.sub_le _ _⟩
    · exact absurd h nofun
  · exact absurd h nofun

theorem plainWord_frame {s : State} {f : Frame} (h : s.plainWord = some f) :
    ∃ a left, s.link.frame = .data .read a (left + 1) ∧ f = .data .read (a + 1) left := by
  unfold plainWord at h
  split at h
  next a left _ hf =>
    split at h
    · exact absurd h nofun
    · exact ⟨a, left, hf, (Option.some.inj h).symm⟩
  · exact absurd h nofun

/-- A frame in progress that goes on to a later word, or makes its copy there, has the form still. -/
theorem FrameOk.advanced {s t : State} {k k' : FrameKind} {a b : ServiceAddr} {m n : Nat} (h : s.FrameOk)
    (hf : s.link.frame = .data k a n) (ht : t.link.frame = .data k' b m) (hle : m ≤ n) (hp : t.pins = s.pins) : t.FrameOk := by
  refine ⟨fun k a l e => ?_, fun e => ?_, fun e => ?_⟩
  · obtain ⟨-, -, rfl⟩ := Frame.data.inj (ht.symm.trans e)
    exact hle.trans (h.1 _ _ _ hf)
  · exact absurd (hf.symm.trans (h.2.1 (hp ▸ e))) nofun
  · exact absurd (ht.symm.trans e) nofun

theorem stepClosed_frame : StepClosed (Keeps FrameOk) where
  toBlockClosed := wordUpdates_frame.blocks
  refused _ := id
  told _ := id
  completed s before o d := wordUpdates_frame.records s _ (completeAll_records s before o d)
  written := wordUpdates_frame.written
  decided := wordUpdates_frame.decided (fun _ _ => id) (fun _ _ => id) fun s u hw => by
    cases hw with
    | none => exact id
    | refused a left st hf => exact fun h => h.advanced hf rfl (Nat.le_succ left) rfl
    | done a left st mark u hf _ he hm =>
      exact fun h => wordUpdates_frame.written _ u he (h.advanced hf rfl (Nat.le_succ left) rfl)
  pins := wordUpdates_frame.pins
  selected _ h := ⟨h.1, nofun, h.2.2⟩
  headed s kind a count hlow h := by
    have isVoid : ((s.setFrame .void).setStatus .invalid false).FrameOk :=
      ⟨nofun, fun e => absurd (hlow.symm.trans e) nofun, nofun⟩
    unfold beginFrame
    split
    · exact isVoid
    next hn =>
      have hcount : count.toNat ≤ 64 := Nat.not_lt.mp (not_or.mp hn).2
      have begun : ∀ k, (s.setFrame (.data k a count.toNat)).FrameOk := fun k => by
        refine ⟨fun k a l e => ?_, fun e => absurd (hlow.symm.trans e) nofun, nofun⟩
        obtain ⟨-, -, rfl⟩ := Frame.data.inj e
        exact hcount
      cases kind with
      | read => exact begun .read
      | write => exact begun .write
      | unnamed => exact isVoid
  deselected _ _ := ⟨nofun, fun _ => rfl, fun _ => rfl⟩
  wordTaken s a left hf h := h.advanced hf rfl (Nat.le_succ left) rfl
  copyMade s k n h := by
    unfold makeCopy
    split
    next w hw =>
      obtain ⟨a, left, hf, hlt⟩ := nextWindow_frame hw
      split
      · exact h.advanced hf rfl (Nat.le_of_lt hlt) (removeCopied_records s).1.pins
      · exact h
    · exact h
  popped s n f hf h := by
    obtain ⟨a, left, b, left', hs, rfl, hle⟩ := popWord5_frame hf
    exact h.advanced hs rfl hle (removeCopied_records s).1.pins
  clocked s h := by
    unfold clockOut
    split
    next f hf =>
      obtain ⟨a, left, hs, rfl⟩ := plainWord_frame hf
      exact h.advanced hs rfl (Nat.le_succ left) rfl
    · exact h
  power _ _ := id
  pfailTaken := wordUpdates_frame.gates.pfailAssert
  pfailReleased := wordUpdates_frame.gates.pfailDeassert
  torn s r h := by
    unfold tearSave
    split <;> exact h
  saved s h := by
    unfold endSave
    split <;> exact h
  reset _ _ := ⟨nofun, fun _ => rfl, fun _ => rfl⟩
  periodBegun _ := id

end State

end Sys2Proof.Machine
end

section
/-! The stored words (R189, R192), block by block, and the forms of all blocks outside the path at every step. -/

namespace Sys2Proof.Machine

/-! ### What keeps the definition of a rule -/

namespace Rule

@[simp] theorem arm_defn (x : Rule) : x.arm.defn = x.defn := by
  unfold arm
  split <;> rfl

@[simp] theorem disarm_defn (x : Rule) : x.disarm.defn = x.defn := by
  unfold disarm
  split <;> rfl

@[simp] theorem hit_defn (x : Rule) : x.hit.defn = x.defn := rfl
@[simp] theorem resetWindow_defn (x : Rule) : x.resetWindow.defn = x.defn := rfl
@[simp] theorem enabled_defn (x : Rule) : x.enabled.defn = x.defn := rfl
@[simp] theorem disabled_defn (x : Rule) : x.disabled.defn = x.defn := rfl

@[simp] theorem restart_defn (x : Rule) : x.restart.defn = x.defn := by
  unfold restart
  dsimp only
  split <;> rfl

@[simp] theorem load_defn (own : Fin 24) (i : RuleImage) : (load own i).defn = i.defn.stored := by
  unfold load
  dsimp only
  split <;> rfl

end Rule

/-- The definition holds no bit that its layout does not name. -/
def RuleDef.Stored (d : RuleDef) : Prop :=
  storedIn RuleDef.controlMask d.control ∧ storedIn RuleDef.addrMask d.base ∧ storedIn RuleDef.addrMask d.limit

theorem RuleDef.Stored.setWord {d : RuleDef} (h : d.Stored) (w : RuleWord) (v : Word) : (d.setWord w v).Stored := by
  obtain ⟨hc, hb, hl⟩ := h
  cases w with
  | control => exact ⟨storedIn_mask v _, hb, hl⟩
  | base => exact ⟨hc, storedIn_mask v _, hl⟩
  | limit => exact ⟨hc, hb, storedIn_mask v _⟩
  | dataMask | reference | fill | quotaArming => exact ⟨hc, hb, hl⟩

theorem RuleDef.stored_stored (d : RuleDef) : d.stored.Stored :=
  ⟨storedIn_mask _ _, storedIn_mask _ _, storedIn_mask _ _⟩

/-! ### The words of one timer -/

namespace Timer

@[simp] theorem loadIfZero_config (ch : Timer) : ch.loadIfZero.config = ch.config := by
  unfold loadIfZero
  split <;> rfl

@[simp] theorem takeTick_config (ch : Timer) : ch.takeTick.config = ch.config := by
  unfold takeTick
  split
  · rfl
  · split
    · rfl
    · split <;> rfl

@[simp] theorem expired_config (ch : Timer) : ch.expired.config = ch.config := by
  unfold expired
  split <;> rfl

@[simp] theorem trigger'_config (ch : Timer) : ch.trigger'.config = ch.config := by
  unfold trigger'
  split
  case h_1 => exact loadIfZero_config ch
  all_goals rfl

@[simp] theorem triggered_config (ch : Timer) : ch.triggered.config = ch.config := by
  unfold triggered
  split
  · exact (takeTick_config _).trans (trigger'_config ch)
  · exact trigger'_config ch

@[simp] theorem started_config (ch : Timer) : ch.started.config = ch.config := by
  unfold started
  split
  · rfl
  · exact loadIfZero_config ch

end Timer

/-- The configuration word is a stored and checked one. -/
def Timer.Stored (ch : Timer) : Prop := storedIn Timer.configMask ch.config ∧ Timer.configOk ch.config = true

theorem Timer.Stored.of_config {ch x : Timer} (h : ch.Stored) (hc : x.config = ch.config) : x.Stored := by
  unfold Timer.Stored
  rwa [hc]

theorem Timer.Stored.reset : Timer.reset.Stored := by
  unfold Timer.Stored
  decide

theorem Timer.Stored.load (i : TimerImage) : (Timer.load i).Stored := by
  unfold Timer.load
  split
  next hi =>
    have hok := storedIn_and_ok Timer.configOk_mask (Bool.and_eq_true_iff.mp hi).1
    dsimp only
    split
    · exact Timer.Stored.of_config (ch := { Timer.reset with
        config := i.config &&& configMask, reload := i.reload, counter := i.reload }) hok (Timer.started_config _)
    · exact hok
  · exact .reset

/-- The configuration word is a stored and checked one. -/
def EventInput.Stored (i : EventInput) : Prop :=
  storedIn EventInput.configMask i.config ∧ EventInput.configOk i.config = true

theorem EventInput.Stored.reset : EventInput.reset.Stored := by
  unfold EventInput.Stored
  decide

theorem EventInput.Stored.load (pin : Bool) (w : Word) : (EventInput.load pin w).Stored := by
  unfold EventInput.load
  split
  next h => exact storedIn_and_ok EventInput.configOk_mask h
  · exact .reset

/-- The configuration word is a stored and checked one. -/
def Queue.Stored (q : Queue) : Prop := storedIn Queue.configMask q.config ∧ Queue.configOk q.config = true

theorem Queue.Stored.reset : Queue.reset.Stored := by
  unfold Queue.Stored
  decide

/-! ### Every block, step by step -/

namespace State

theorem stepUpdates_ruleWords : StepUpdates fun s => ∀ r, (s.rule r).defn.Stored where
  arm _ _ h := forall_rule_mapRules (Q := fun _ x => x.defn.Stored) h fun _ x hx => by
    split
    · rwa [Rule.arm_defn]
    · exact hx
  disarm _ _ h := forall_rule_mapRules (Q := fun _ x => x.defn.Stored) h fun _ x hx => by
    split
    · rwa [Rule.disarm_defn]
    · exact hx
  windows _ _ h := forall_rule_mapRules (Q := fun _ x => x.defn.Stored) h fun _ x hx => by
    split
    · exact hx
    · exact hx
  rulesRestarted _ h := forall_rule_mapRules (Q := fun _ x => x.defn.Stored) h fun _ x hx => by rwa [Rule.restart_defn]
  definition s r w v _ h := forall_rule_setRule (Q := fun _ x => x.defn.Stored) h ((h r).setWord w v)
  enabled s r _ h := forall_rule_setRule (Q := fun _ x => x.defn.Stored) h (h r)
  disabled s r h := forall_rule_setRule (Q := fun _ x => x.defn.Stored) h (h r)
  hitsCleared s r h := forall_rule_setRule (Q := fun _ x => x.defn.Stored) h (h r)
  hit s r h := forall_rule_setRule (Q := fun _ x => x.defn.Stored) h (h r)
  zeroed s r h := forall_rule_setRule (Q := fun _ x => x.defn.Stored) h (by rw [Rule.disarm_defn]; exact h r)
  reset s _ r := by
    have hr : s.resetBlocks.rule r = Rule.reset := by simp [resetBlocks, rule]
    rw [hr]
    exact ⟨rfl, rfl, rfl⟩

theorem stepUpdates_queueWords : StepUpdates fun s => ∀ n, (s.queue n).Stored where
  records s t hr h n := by
    unfold Queue.Stored
    rw [hr.2.1 n]
    exact h n
  queueConfig _ _ _ hok h := forall_queue_setQueue (Q := Queue.Stored) h (storedIn_and_ok Queue.configOk_mask hok)
  reset s _ n := by
    have hr : s.resetBlocks.queue n = Queue.reset := by simp [resetBlocks, queue]
    rw [hr]
    exact .reset

theorem stepUpdates_timerWords : StepUpdates fun s => ∀ t, (s.timer t).Stored where
  expired _ _ h := forall_timer_setTimer (Q := Timer.Stored) h ((h _).of_config (Timer.expired_config _))
  triggered _ _ h := forall_timer_setTimer (Q := Timer.Stored) h ((h _).of_config (Timer.triggered_config _))
  ticked _ _ h := forall_timer_setTimer (Q := Timer.Stored) h ((h _).of_config (Timer.takeTick_config _))
  timersRestarted _ h := forall_timer_mapTimers (Q := Timer.Stored) h fun _ _ hx => hx
  timerConfig s t v _ hok h := forall_timer_setTimer (Q := Timer.Stored) h (storedIn_and_ok Timer.configOk_mask hok)
  timerReload s t _ _ h := forall_timer_setTimer (Q := Timer.Stored) h (h t)
  timerStarted s t _ h := forall_timer_setTimer (Q := Timer.Stored) h ((h t).of_config (Timer.started_config _))
  timerStopped s t h := forall_timer_setTimer (Q := Timer.Stored) h (h t)
  timerPreset s t h := forall_timer_setTimer (Q := Timer.Stored) h (h t)
  reset s _ t := by
    have hr : s.resetBlocks.timer t = Timer.reset := by simp [resetBlocks, timer]
    rw [hr]
    exact .reset

theorem stepUpdates_inputWords : StepUpdates fun s => ∀ e, (s.input e).Stored where
  sampled s e _ _ h := forall_input_setInput (Q := EventInput.Stored) h (h e)
  counted s e _ h := forall_input_setInput (Q := EventInput.Stored) h (h e)
  stamped s e _ h := forall_input_setInput (Q := EventInput.Stored) h (h e)
  inputsRestarted _ _ h := forall_input_mapInputs (Q := EventInput.Stored) h fun _ _ hx => hx
  inputConfig _ _ _ _ hok h :=
    forall_input_setInput (Q := EventInput.Stored) h (storedIn_and_ok EventInput.configOk_mask hok)
  reset s _ e := by
    have hr : s.resetBlocks.input e = EventInput.reset := by simp [resetBlocks, input]
    rw [hr]
    exact .reset

/-- The words of the gate, of the alert controller and of the timebase. -/
def BlockWords (s : State) : Prop :=
  (storedIn Gate.configMask s.gate.config ∧ Gate.configOk s.gate.config = true) ∧
  (storedIn Alert.configMask s.alert.config ∧ Alert.configOk s.alert.config = true) ∧
  (storedIn Timebase.configMask s.timebase.config ∧ Timebase.configOk s.timebase.config = true)

theorem resetBlocks_blockWords {s : State} : BlockWords s.resetBlocks := by
  have hgate : storedIn Gate.configMask Gate.reset.config ∧ Gate.configOk Gate.reset.config = true := by decide
  have halert : storedIn Alert.configMask Alert.reset.config ∧ Alert.configOk Alert.reset.config = true := by decide
  have htimebase : storedIn Timebase.configMask Timebase.reset.config ∧
      Timebase.configOk Timebase.reset.config = true := by decide
  exact ⟨hgate, halert, htimebase⟩

theorem stepUpdates_blockWords : StepUpdates BlockWords where
  records s t hr h := by
    unfold BlockWords
    rw [hr.1.gate, hr.1.timebase, hr.2.2]
    exact h
  gate s g hg h := by
    obtain ⟨h1, h2, h3⟩ := h
    refine ⟨?_, h2, h3⟩
    rwa [hg]
  tick s _ h := by
    obtain ⟨h1, h2, h3⟩ := h
    refine ⟨h1, h2, ?_⟩
    obtain e | ⟨_, e⟩ := s.timebase.firstBegun_eq
    · rwa [Timebase.tick, e]
    · rwa [Timebase.tick, e]
  periodBegun s h := by
    obtain ⟨h1, h2, h3⟩ := h
    refine ⟨h1, h2, ?_⟩
    obtain e | ⟨_, e⟩ := s.timebase.firstBegun_eq
    · rwa [beginFirstPeriod, e]
    · rwa [beginFirstPeriod, e]
  gateConfig s v hok h := ⟨storedIn_and_ok Gate.configOk_mask hok, h.2⟩
  alertConfig s v hok h := by
    have hc : (s.alert.writeConfig v).config = v &&& Alert.configMask := by
      unfold Alert.writeConfig
      dsimp only
      split
      · rfl
      · split <;> rfl
    refine ⟨h.1, ?_, h.2.2⟩
    rw [hc]
    exact storedIn_and_ok Alert.configOk_mask hok
  timebaseConfig s v hok h := ⟨h.1, h.2.1, storedIn_and_ok Timebase.configOk_mask hok⟩
  reset _ _ := resetBlocks_blockWords

/-- The words of the path and of the decision unit. -/
def PathWords (s : State) : Prop :=
  (storedIn Path.limitMask s.path.limitWord ∧ Path.limitOk s.path.limitWord = true) ∧
  (storedIn defaultActionsMask s.defaultActions ∧ defaultActionsOk s.defaultActions = true) ∧
  (storedIn unmatchedMask s.unmatched ∧ unmatchedOk s.unmatched = true)

theorem resetBlocks_pathWords {s : State} : PathWords s.resetBlocks := by
  have hlimit : storedIn Path.limitMask Path.reset.limitWord ∧ Path.limitOk Path.reset.limitWord = true := by decide
  have hdefaults : storedIn defaultActionsMask 0 ∧ defaultActionsOk 0 = true := by decide
  have hunmatched : storedIn unmatchedMask 0 ∧ unmatchedOk 0 = true := by decide
  exact ⟨hlimit, hdefaults, hunmatched⟩

theorem stepUpdates_pathWords : StepUpdates PathWords where
  path s p hp h := by
    refine ⟨?_, h.2⟩
    rw [hp]
    exact h.1
  defaults s v hok h := ⟨h.1, storedIn_and_ok defaultActionsOk_mask hok, h.2.2⟩
  unmatchedSet s v hok h := ⟨h.1, h.2.1, storedIn_and_ok unmatchedOk_mask hok⟩
  limit s v hok h := ⟨storedIn_and_ok Path.limitOk_mask hok, h.2⟩
  reset _ _ := resetBlocks_pathWords

end State

end Sys2Proof.Machine
end

section
/-! The end of loading, seen by the forms and the words; and with it what every step keeps of the blocks outside the path. -/

namespace Sys2Proof.Machine

namespace State

/-! ### The configuration that loading takes (R184, stage 1) -/

@[simp] theorem loadConfiguration_queue (i : Image) (s : State) (n : Fin 4) :
    (s.loadConfiguration i).queue n =
      if Queue.configOk i.queues[n].config then { s.queue n with config := i.queues[n].config &&& Queue.configMask }
      else s.queue n := by
  simp [loadConfiguration, queue]

@[simp] theorem loadConfiguration_gate (i : Image) (s : State) : (s.loadConfiguration i).gate = Gate.load i.gate := by
  unfold loadConfiguration
  rfl

@[simp] theorem loadConfiguration_alert (i : Image) (s : State) : (s.loadConfiguration i).alert =
    { s.alert with
      enables := i.alertEnables
      config := if Alert.configOk i.alert then i.alert &&& Alert.configMask else Alert.reset.config } := by
  unfold loadConfiguration
  rfl

@[simp] theorem loadConfiguration_path (i : Image) (s : State) : (s.loadConfiguration i).path =
    { s.path with
      limitWord := if Path.limitOk i.limitWord then i.limitWord &&& Path.limitMask else Path.reset.limitWord } := by
  unfold loadConfiguration
  rfl

@[simp] theorem loadConfiguration_defaultActions (i : Image) (s : State) : (s.loadConfiguration i).defaultActions =
    if defaultActionsOk i.defaultActions then i.defaultActions &&& defaultActionsMask else 0 := by
  unfold loadConfiguration
  rfl

@[simp] theorem loadConfiguration_unmatched (i : Image) (s : State) : (s.loadConfiguration i).unmatched =
    if unmatchedOk i.unmatched then i.unmatched &&& unmatchedMask else 0 := by
  unfold loadConfiguration
  rfl

theorem loadConfiguration_frame (i : Image) (s : State) :
    (s.loadConfiguration i).powered = s.powered ∧ (s.loadConfiguration i).pins = s.pins ∧
    (s.loadConfiguration i).copy = s.copy ∧ (s.loadConfiguration i).link = { s.link with code := i.code } ∧
    (s.loadConfiguration i).store = s.store := by
  unfold loadConfiguration
  exact ⟨rfl, rfl, rfl, rfl, rfl⟩

theorem loaded_link (i : Image) (s : State) :
    ((s.loadConfiguration i).loadStarts i).link = { s.link with code := i.code } :=
  (loadStarts_frame i _).2.2.2.2.2.2.2.1.trans (loadConfiguration_frame i s).2.2.2.1

theorem loaded_store (i : Image) (s : State) : ((s.loadConfiguration i).loadStarts i).store = s.store :=
  (loadStarts_frame i _).2.2.2.2.2.2.2.2.trans (loadConfiguration_frame i s).2.2.2.2

theorem loaded_pins (i : Image) (s : State) : ((s.loadConfiguration i).loadStarts i).pins = s.pins :=
  (loadStarts_frame i _).2.1.trans (loadConfiguration_frame i s).2.1

theorem loaded_copy (i : Image) (s : State) : ((s.loadConfiguration i).loadStarts i).copy = s.copy :=
  (loadStarts_frame i _).2.2.2.2.2.1.trans (loadConfiguration_frame i s).2.2.1

theorem loaded_gate (i : Image) (s : State) : ((s.loadConfiguration i).loadStarts i).gate = Gate.load i.gate :=
  (loadStarts_frame i _).2.2.2.2.2.2.1.trans (loadConfiguration_gate i s)

theorem loaded_path (i : Image) (s : State) :
    ((s.loadConfiguration i).loadStarts i).path = (s.loadConfiguration i).path := (loadStarts_frame i _).2.2.1

theorem loaded_alert_config (i : Image) (s : State) : ((s.loadConfiguration i).loadStarts i).alert.config =
    if Alert.configOk i.alert then i.alert &&& Alert.configMask else Alert.reset.config := by
  have h := (loadQueues_records i (s.loadConfiguration i)).2.2
  rw [loadConfiguration_alert] at h
  exact h

/-- What is set once the configuration stands touches what a tick touches, the lock and the state of the store. -/
theorem loadLockAndGate_frame (s : State) :
    ∃ b, TickFrame { s with link := { s.link with locked := b } } s.loadLockAndGate := ⟨_, gateLookAtPfail_frame _⟩

theorem loadLockAndGate_store (s : State) : s.loadLockAndGate.store = s.store := by
  obtain ⟨b, hb⟩ := loadLockAndGate_frame s
  exact hb.store

theorem applyImage_store (ok : Bool) (i : Image) (s : State) :
    (s.applyImage ok i).store = { s.store with state := .idle, loadDefaults := !ok } := by
  have h := loaded_store i s
  unfold applyImage
  generalize (s.loadConfiguration i).loadStarts i = u at h
  dsimp only
  rw [loadLockAndGate_store]
  split
  · rw [h]
  · rw [setFlag_store, h]

theorem endLoading_store (s : State) : ∃ b, s.endLoading.store = { s.store with state := .idle, loadDefaults := b } := by
  unfold endLoading
  rw [endCommand_store]
  split
  · exact ⟨_, applyImage_store _ _ s⟩
  · exact ⟨_, applyImage_store _ _ s⟩

/-! ### A property of every step -/

/-- A property that the single updates of a step and the loaded configuration keep is kept by every step. -/
theorem StepUpdates.step {P : State → Prop} (h : StepUpdates P) (loaded : ∀ s i, P s → P ((s.loadConfiguration i).loadStarts i))
    {s t : State} (ht : Machine.step s = .next t)
    (queued : ∀ (s : State) (l : List Instr), Keeps P s { s with pending := l } := by intros; exact id)
    (idle : ∀ (s : State) (b : Bool), Keeps P s { s with store := { s.store with state := .idle, loadDefaults := b } } := by
      intros; exact id) : P s → P t :=
  h.steps.step (queued s) (fun _ _ hs => h.endLoading idle _ fun i => loaded _ i hs) ht

theorem timersOk_loaded (s : State) (i : Image) : ((s.loadConfiguration i).loadStarts i).TimersOk := fun t => by
  rw [loadStarts_timer]
  exact .load _

theorem samplers_loaded (s : State) (i : Image) (e : Fin 2) : (((s.loadConfiguration i).loadStarts i).input e).SamplerOk := by
  rw [loadStarts_input]
  exact .load _ _

theorem timebaseOk_loaded (s : State) (i : Image) : ((s.loadConfiguration i).loadStarts i).timebase.Ok := .load _ _

/-- A LOADING store holds no copy, and goes IDLE. -/
theorem storeOk_step {s t : State} (h : s.store.Ok) (ht : Machine.step s = .next t) : t.store.Ok := by
  refine stepUpdates_store.steps.step (fun _ => id) (fun l hs h => ?_) ht h
  obtain ⟨b, e⟩ := endLoading_store { s with pending := l }
  rw [e]
  exact ⟨⟨nofun, fun hc => absurd (hs.symm.trans (h.1.mpr hc)) nofun⟩, nofun⟩

theorem markOk_loaded (s : State) (i : Image) (h : s.link.MarkOk) : ((s.loadConfiguration i).loadStarts i).link.MarkOk := by
  rw [loaded_link]
  exact h

theorem frameOk_loaded (s : State) (i : Image) (h : s.FrameOk) : ((s.loadConfiguration i).loadStarts i).FrameOk := by
  unfold State.FrameOk
  rw [loaded_link, loaded_pins, loaded_copy]
  exact h

theorem ruleWords_loaded (s : State) (i : Image) (r : Fin 24) : (((s.loadConfiguration i).loadStarts i).rule r).defn.Stored := by
  rw [loadStarts_rule, Rule.load_defn]
  exact RuleDef.stored_stored _

theorem queueWords_loaded (s : State) (i : Image) (h : ∀ n, (s.queue n).Stored) (n : Fin 4) :
    (((s.loadConfiguration i).loadStarts i).queue n).Stored := by
  unfold Queue.Stored
  rw [loadStarts_queue_config, loadConfiguration_queue]
  split
  next hok => exact storedIn_and_ok Queue.configOk_mask hok
  · exact h n

theorem timerWords_loaded (s : State) (i : Image) (t : Fin 8) : (((s.loadConfiguration i).loadStarts i).timer t).Stored := by
  rw [loadStarts_timer]
  exact .load _

theorem inputWords_loaded (s : State) (i : Image) (e : Fin 2) : (((s.loadConfiguration i).loadStarts i).input e).Stored := by
  rw [loadStarts_input]
  exact .load _ _

theorem blockWords_loaded (s : State) (i : Image) : BlockWords ((s.loadConfiguration i).loadStarts i) := by
  obtain ⟨hgate, halert, htimebase⟩ := resetBlocks_blockWords (s := s)
  unfold BlockWords
  rw [loaded_gate, loaded_alert_config, loadStarts_timebase]
  refine ⟨?_, ?_, ?_⟩
  · unfold Gate.load
    split
    next h => exact storedIn_and_ok Gate.configOk_mask h
    · exact hgate
  · split
    next h => exact storedIn_and_ok Alert.configOk_mask h
    · exact halert
  · have word : ∀ b : Timebase, b.config = Timebase.config (if Timebase.configOk i.timebase then
          { Timebase.reset with config := i.timebase &&& Timebase.configMask } else Timebase.reset) →
        storedIn Timebase.configMask b.config ∧ Timebase.configOk b.config = true := by
      intro b hb
      rw [hb]
      split
      next h => exact storedIn_and_ok Timebase.configOk_mask h
      · exact htimebase
    unfold Timebase.load
    dsimp only
    split
    · exact word _ rfl
    · exact word _ rfl

theorem pathWords_loaded (s : State) (i : Image) : PathWords ((s.loadConfiguration i).loadStarts i) := by
  obtain ⟨hlimit, hdefaults, hunmatched⟩ := resetBlocks_pathWords (s := s)
  obtain ⟨-, -, path, defaults, unmatched, -⟩ := loadStarts_frame i (s.loadConfiguration i)
  unfold PathWords
  rw [path, defaults, unmatched, loadConfiguration_path, loadConfiguration_defaultActions, loadConfiguration_unmatched]
  refine ⟨?_, ?_, ?_⟩
  · dsimp only
    split
    next h => exact storedIn_and_ok Path.limitOk_mask h
    · exact hlimit
  · split
    next h => exact storedIn_and_ok defaultActionsOk_mask h
    · exact hdefaults
  · split
    next h => exact storedIn_and_ok unmatchedOk_mask h
    · exact hunmatched

/-- The stored words, block by block. -/
theorem WordsOk.step {s t : State} (h : s.WordsOk) (ht : Machine.step s = .next t) : t.WordsOk := by
  have rules : ∀ r, (t.rule r).defn.Stored :=
    (stepUpdates_ruleWords.step (fun s i _ => ruleWords_loaded s i) ht) h.rules
  have queues : ∀ n, (t.queue n).Stored :=
    (stepUpdates_queueWords.step queueWords_loaded ht) h.queues
  have timers : ∀ c, (t.timer c).Stored :=
    (stepUpdates_timerWords.step (fun s i _ => timerWords_loaded s i) ht) h.timers
  have inputs : ∀ e, (t.input e).Stored :=
    (stepUpdates_inputWords.step (fun s i _ => inputWords_loaded s i) ht) h.inputs
  obtain ⟨gate, alert, timebase⟩ := (stepUpdates_blockWords.step (fun s i _ => blockWords_loaded s i) ht)
    ⟨h.gate, h.alert, h.timebase⟩
  obtain ⟨limit, defaults, unmatched⟩ := (stepUpdates_pathWords.step (fun s i _ => pathWords_loaded s i) ht)
    ⟨h.limit, h.defaults, h.unmatched⟩
  exact ⟨rules, queues, timers, inputs, gate, alert, timebase, limit, defaults, unmatched⟩

theorem FrameOk.step {s t : State} (h : s.FrameOk) (ht : Machine.step s = .next t) : t.FrameOk :=
  stepClosed_frame.step (fun _ => id)
    (fun _ _ hs => wordUpdates_frame.endLoading (fun _ _ => id) _ fun i => frameOk_loaded _ i hs) ht h

end State

/-- Settles O60: each form by the single updates of its own block, the end of loading included. -/
theorem blocksAndWordsKeepTheirForm : Obligations.BlocksAndWordsKeepTheirForm := fun _ _ ht =>
  ⟨State.stepUpdates_timers.step (fun s i _ => State.timersOk_loaded s i) ht,
    State.stepUpdates_inputs.step (fun s i _ => State.samplers_loaded s i) ht,
    State.stepUpdates_timebase.step (fun s i _ => State.timebaseOk_loaded s i) ht,
    fun h => State.storeOk_step h ht,
    State.stepUpdates_mark.step State.markOk_loaded ht,
    fun h => State.FrameOk.step h ht, fun h => State.WordsOk.step h ht⟩

end Sys2Proof.Machine
end

section
/-! The bounds of the rules (R11, R13, R16, R147). Between a decision and its changes a rule whose countdown has come to zero may
still be LIVE, so the bounds are kept there with those rules excepted. -/

namespace Sys2Proof.Machine

/-! ### The hits of a decision -/

namespace State

theorem hitRule_rule (s : State) (r j : Fin 24) :
    (s.hitRule r).rule j = if r = j then (s.rule r).hit else s.rule j := by
  have flag : ∀ (u : State) (g : Flag), (u.setFlag g).rule j = u.rule j := fun _ _ => rfl
  unfold hitRule
  dsimp only
  split <;> split <;> simp only [flag, rule_setRule]

/-- A rule hit in a decision takes the hit once, and every other rule stays. -/
theorem hits_rule {l : List (Fin 24)} (hl : l.Nodup) (s : State) (j : Fin 24) :
    (l.foldl hitRule s).rule j = if j ∈ l then (s.rule j).hit else s.rule j := by
  induction l generalizing s with
  | nil => rfl
  | cons r rs ih =>
    obtain ⟨hr, hrs⟩ := List.nodup_cons.mp hl
    rw [List.foldl_cons, ih hrs, hitRule_rule]
    by_cases e : r = j
    · subst e
      simp [hr]
    · have e' : j ≠ r := Ne.symm e
      simp [e, e']

theorem scan_sublist (s : State) (t : Txn) (new old : Word) (l : List (Fin 24)) : (s.scan t new old l).1.Sublist l := by
  induction l with
  | nil => exact .slnil
  | cons r rs ih =>
    unfold scan
    dsimp only
    split
    · split
      · exact ih.cons_cons r
      · exact (List.nil_sublist rs).cons_cons r
    · exact ih.cons r

/-- Every hit is a candidate that matches (R33). -/
theorem scan_candidate (s : State) (t : Txn) (new old : Word) (l : List (Fin 24)) :
    ∀ r ∈ (s.scan t new old l).1, (s.rule r).candidate t.kind t.addr = true ∧
      (s.rule r).defn.matchesWords new old = true := by
  induction l with
  | nil => exact nofun
  | cons r rs ih =>
    unfold scan
    dsimp only
    split
    next hc =>
      have this := Bool.and_eq_true_iff.mp hc
      split
      · rintro x (_ | ⟨_, hx⟩)
        · exact this
        · exact ih x hx
      · rintro x (_ | ⟨_, hx⟩)
        · exact this
        · exact absurd hx nofun
    · exact ih

theorem hitsOf_nodup (t : Txn) (before : Option Word) (s : State) : (s.hitsOf t before).Nodup :=
  (scan_sublist s t _ _ allRules).nodup (List.nodup_finRange 24)

/-- A rule that is hit is LIVE (R26). -/
theorem hitsOf_live {t : Txn} {before : Option Word} {s : State} {r : Fin 24} (h : r ∈ s.hitsOf t before) :
    (s.rule r).state = .live := by
  have hc := (scan_candidate s t _ _ allRules r h).1
  simp only [Rule.candidate, Bool.and_eq_true, beq_iff_eq] at hc
  exact hc.1.1

end State

/-! ### One rule -/

/-- A LIVE rule with disarm source HITS has hits left (R147). -/
def Rule.HitsLeft (x : Rule) : Prop := x.state = .live → x.defn.countdownLoad ≠ 0 → x.countdown ≠ 0

/-- The bounds of a rule, with hits left where `p` asks for them. -/
structure Rule.OkBut (own : Fin 24) (p : Prop) (x : Rule) : Prop where
  checked : x.state ≠ .disabled → x.defn.enableOk own = true
  cleared : x.state = .disabled → x.window = 0 ∧ x.overQuota = false ∧ x.countdown = 0
  window : x.state ≠ .disabled → x.window ≤ x.defn.quotaLimit ∨ x.window = 0
  countdown : x.countdown ≤ x.defn.countdownLoad ∨ x.state = .disabled
  hitsLeft : p → x.HitsLeft

namespace Rule

variable {own : Fin 24} {p : Prop} {x : Rule}

theorem okBut_iff : OkBut own True x ↔ x.Ok own :=
  ⟨fun h => ⟨h.checked, h.cleared, h.window, h.countdown, h.hitsLeft trivial⟩,
    fun h => ⟨h.checked, h.cleared, h.window, h.countdown, fun _ => h.hitsLeft⟩⟩

theorem OkBut.mono {q : Prop} (h : OkBut own p x) (hq : q → p ∨ x.state ≠ .live) : OkBut own q x :=
  { h with hitsLeft := fun hx => (hq hx).elim h.hitsLeft fun hn hl => absurd hl hn }

theorem OkBut.of_disabled (h : x.state = .disabled) (hw : x.window = 0) (ho : x.overQuota = false) (hc : x.countdown = 0) :
    OkBut own p x where
  checked hn := absurd h hn
  cleared _ := ⟨hw, ho, hc⟩
  window hn := absurd h hn
  countdown := .inr h
  hitsLeft _ hl := absurd (h.symm.trans hl) nofun

/-- An enabled rule with a full countdown. -/
theorem OkBut.of_loaded (hs : x.state ≠ .disabled) (hk : x.defn.enableOk own = true)
    (hw : x.window ≤ x.defn.quotaLimit ∨ x.window = 0) (hc : x.countdown = x.defn.countdownLoad) : OkBut own p x where
  checked _ := hk
  cleared h := absurd h hs
  window _ := hw
  countdown := .inl (BitVec.le_of_eq hc)
  hitsLeft _ _ hl := hc ▸ hl

theorem OkBut.reset : OkBut own p Rule.reset := .of_disabled rfl rfl rfl rfl

theorem OkBut.arm (h : OkBut own p x) : OkBut own p x.arm := by
  rw [arm_eq_ite]
  split
  next hs => exact .of_loaded nofun (h.checked hs) (h.window hs) rfl
  · exact h

theorem disarm_not_live (x : Rule) : x.disarm.state ≠ .live := by
  rw [disarm_eq_ite]
  split
  · exact nofun
  next h => exact h

theorem OkBut.disarm (h : OkBut own p x) : OkBut own p x.disarm := by
  rw [disarm_eq_ite]
  split
  next hs =>
    have hn : x.state ≠ .disabled := by rw [hs]; exact nofun
    exact ⟨fun _ => h.checked hn, nofun, fun _ => h.window hn, .inl (h.countdown.resolve_right hn), fun _ => nofun⟩
  · exact h

theorem OkBut.resetWindow (h : OkBut own p x) : OkBut own p x.resetWindow :=
  ⟨h.checked, fun hd => ⟨rfl, rfl, (h.cleared hd).2.2⟩, fun _ => .inr rfl, h.countdown, h.hitsLeft⟩

theorem OkBut.hitsCleared (h : OkBut own p x) : OkBut own p { x with hits := 0, alerted := false } :=
  ⟨h.checked, h.cleared, h.window, h.countdown, h.hitsLeft⟩

theorem startState_ne_disabled (d : RuleDef) : d.startState ≠ .disabled := by
  unfold RuleDef.startState
  split <;> exact nofun

theorem OkBut.enabled (h : x.defn.enableOk own = true) : OkBut own p x.enabled :=
  .of_loaded (startState_ne_disabled _) h (.inr rfl) rfl

theorem OkBut.disabled : OkBut own p x.disabled := .of_disabled rfl rfl rfl rfl

theorem OkBut.restart (h : OkBut own p x) : OkBut own p x.restart := by
  unfold Rule.restart
  dsimp only
  split
  next he => exact .enabled (x := { x with hits := 0, alerted := false }) (h.checked (isEnabled_iff.mp he))
  · exact h.hitsCleared

theorem OkBut.definition (h : OkBut own p x) (hd : x.state = .disabled) (d : RuleDef) : OkBut own p { x with defn := d } := by
  obtain ⟨hw, ho, hc⟩ := h.cleared hd
  exact .of_disabled hd hw ho hc

theorem OkBut.load (i : RuleImage) : OkBut own p (Rule.load own i) := by
  unfold Rule.load
  dsimp only
  split
  next h => exact .enabled (x := { Rule.reset with defn := i.defn.stored }) (Bool.and_eq_true_iff.mp h).2
  · exact .of_disabled rfl rfl rfl rfl

/-- A hit keeps the window within the quota (R11). -/
theorem hit_window (h : x.window ≤ x.defn.quotaLimit ∨ x.window = 0) :
    x.hit.window ≤ x.defn.quotaLimit ∨ x.hit.window = 0 := by
  unfold hit hitOverQuota
  dsimp only
  split
  next hq =>
    have hlt : ¬ x.defn.quotaLimit ≤ x.window := by
      simp only [Bool.and_eq_true, Bool.not_eq_true', Bool.and_eq_false_iff, decide_eq_false_iff_not] at hq
      exact hq.2.resolve_left (by simp [hq.1])
    left
    bv_omega
  · exact h

/-- A hit takes one off the countdown and leaves hits, unless it was the last one (R13). -/
theorem OkBut.hit (h : OkBut own True x) (hl : x.state = .live) : OkBut own (x.countdown ≠ 1) x.hit where
  checked := h.checked
  cleared hd := absurd (hl.symm.trans hd) nofun
  window hn := hit_window (h.window hn)
  countdown := by
    left
    have hc := h.countdown.resolve_right (by rw [hl]; exact nofun)
    change (if x.countdown = 0 then 0 else x.countdown - 1) ≤ x.defn.countdownLoad
    split
    · simp [BitVec.le_def]
    · bv_omega
  hitsLeft hn _ hload := by
    have h0 := h.hitsLeft trivial hl hload
    change (if x.countdown = 0 then 0 else x.countdown - 1) ≠ 0
    rw [if_neg h0]
    bv_omega

end Rule

/-! ### All rules -/

namespace State

/-- The bounds of all rules, with hits left outside the list. -/
def RulesOkBut (z : List (Fin 24)) (s : State) : Prop := ∀ r, (s.rule r).OkBut r (r ∉ z)

theorem rulesOkBut_nil {s : State} : RulesOkBut [] s ↔ s.RulesOk :=
  forall_congr' fun r => by
    rw [← Rule.okBut_iff]
    simp

theorem resetBlocks_rule (s : State) (r : Fin 24) : s.resetBlocks.rule r = Rule.reset := by simp [resetBlocks, rule]

theorem plainUpdates_rules (z : List (Fin 24)) : PlainUpdates (RulesOkBut z) where
  arm _ _ h := forall_rule_mapRules (Q := fun r x => x.OkBut r (r ∉ z)) h fun _ x hx => by
    split
    · exact hx.arm
    · exact hx
  disarm _ _ h := forall_rule_mapRules (Q := fun r x => x.OkBut r (r ∉ z)) h fun _ x hx => by
    split
    · exact hx.disarm
    · exact hx
  windows _ _ h := forall_rule_mapRules (Q := fun r x => x.OkBut r (r ∉ z)) h fun _ x hx => by
    split
    · exact hx.resetWindow
    · exact hx
  rulesRestarted _ h := forall_rule_mapRules (Q := fun r x => x.OkBut r (r ∉ z)) h fun _ x hx => hx.restart
  definition s r w v hd h := forall_rule_setRule (Q := fun r x => x.OkBut r (r ∉ z)) h ((h r).definition hd _)
  enabled s r hok h := forall_rule_setRule (Q := fun r x => x.OkBut r (r ∉ z)) h (.enabled hok)
  disabled s r h := forall_rule_setRule (Q := fun r x => x.OkBut r (r ∉ z)) h .disabled
  hitsCleared s r h := forall_rule_setRule (Q := fun r x => x.OkBut r (r ∉ z)) h (h r).hitsCleared
  reset s _ r := by
    rw [resetBlocks_rule]
    exact .reset

/-- The hits leave the bounds, but for the rules whose countdown they bring to zero. -/
theorem rulesOkBut_hits {s : State} (h : s.RulesOk) (t : Txn) (before : Option Word) :
    RulesOkBut ((s.hitsOf t before).filter fun r => (s.rule r).countdown == 1)
      ((s.hitsOf t before).foldl hitRule s) := fun r => by
  have hr := Rule.okBut_iff.mpr (h r)
  rw [hits_rule (hitsOf_nodup t before s)]
  split
  next hm => exact (hr.hit (hitsOf_live hm)).mono fun hz => .inl fun h1 => hz (List.mem_filter.mpr ⟨hm, by simp [h1]⟩)
  · exact hr.mono fun _ => .inl trivial

/-- Those rules go DORMANT first of all changes (R45). -/
theorem rulesOkBut_zeroed (z : List (Fin 24)) {s : State} (h : RulesOkBut z s) :
    RulesOkBut [] (z.foldl (fun s r => s.setRule r (s.rule r).disarm) s) := by
  induction z generalizing s with
  | nil => exact h
  | cons r z ih =>
    refine ih fun j => ?_
    rw [rule_setRule]
    split
    next e => exact e ▸ (h r).disarm.mono fun _ => .inr (Rule.disarm_not_live _)
    next e => exact (h j).mono fun hz => .inl fun hj => (List.mem_cons.mp hj).elim (fun e' => e e'.symm) hz

/-- A decision and its changes, with what falls between them. -/
theorem rulesOk_decided (s u : State) (x : Txn) (before : Option Word) (sub : Bool) :
    Keeps RulesOk u (s.thenChanges (u.decideAndCarryOut x before sub)) := by
  intro h
  have z := plainUpdates_rules ((u.hitsOf x before).filter fun r => (u.rule r).countdown == 1)
  have hits := rulesOkBut_hits h x before
  have done : RulesOkBut ((u.hitsOf x before).filter fun r => (u.rule r).countdown == 1)
      (s.endCommand (u.decideAndCarryOut x before sub).1) :=
    z.ends _ _ (z.carryOut _ _ _ (z.moments.decision z.reserve x before sub u hits))
  rw [← rulesOkBut_nil]
  unfold thenChanges
  dsimp only
  split
  next none =>
    have empty : u.hitsOf x before = [] := List.isEmpty_iff.mp none
    simpa [empty] using done
  · have zeroed := rulesOkBut_zeroed _ (z.moments.meetAll (fun s r => z.word _ _ (.enableWrite r))
      (fun s r => z.word _ _ (.disableWrite r)) x.between _ done)
    exact (plainUpdates_rules []).effects.foldl (fun s r => (plainUpdates_rules []).arm s _) _ _ zeroed

theorem stepClosed_rules : StepClosed (Keeps RulesOk) := by
  have h : RulesOk = RulesOkBut [] := funext fun _ => propext rulesOkBut_nil.symm
  have decided := rulesOk_decided
  rw [h] at decided ⊢
  exact (plainUpdates_rules []).stepsDeciding decided

end State

/-- Settles O57: outside a decision rule by rule, and across a decision with the zeroed rules excepted until they go DORMANT. -/
theorem rulesKeepTheirBounds : Obligations.RulesKeepTheirBounds := fun _ _ h ht =>
  State.stepClosed_rules.step (fun _ => id) (fun _ _ _ =>
    State.rulesOkBut_nil.mp ((State.plainUpdates_rules []).endLoading (fun _ _ => id) _ fun i r => by
      rw [State.loadStarts_rule]
      exact .load _)) ht h

end Sys2Proof.Machine
end

section
/-! The write gate and its causes (section 8.2): what each move of the gate leaves in it, and that no moment between the placement of
a decision and its forward takes the gate out of OPEN. -/

namespace Sys2Proof.Machine

namespace State

/-! ### The gate after each move -/

@[simp] theorem offerTo_gate (s : State) (q : Option (Fin 4)) (b : RecordBody) : (s.offerTo q b).gate = s.gate :=
  (offerTo_frame s q b).gate

@[simp] theorem gateEnterClosed_gate (s : State) :
    s.gateEnterClosed.gate = { s.gate with state := .closed, refused := 0 } := offerTo_gate _ _ _

@[simp] theorem gateEnterOpen_gate (s : State) : s.gateEnterOpen.gate =
    { s.gate with state := .opened, powerSeen := false, holdOff := 0, tickOwed := false } := offerTo_gate _ _ _

theorem gateLeaveClosed_gate (s : State) : s.gateLeaveClosed.gate =
    if s.gate.state = .closed ∧ s.gate.noCause then
      if s.gate.powerSeen then s.gate.reopen
      else { s.gate with state := .opened, powerSeen := false, holdOff := 0, tickOwed := false }
    else s.gate := by
  unfold gateLeaveClosed
  split
  · split
    · rfl
    · exact gateEnterOpen_gate s
  · rfl

theorem gateCauseArrival_gate (s : State) : s.gateCauseArrival.gate =
    match s.gate.state with
    | .opened => if s.gate.inFlight then { s.gate with state := .draining } else { s.gate with state := .closed, refused := 0 }
    | .reopening => s.gate.returnToClosed
    | _ => s.gate := by
  unfold gateCauseArrival
  cases s.gate.state with
  | opened =>
    dsimp only
    split
    · rfl
    · exact gateEnterClosed_gate s
  | draining | closed | reopening => rfl

/-! ### Its form after each move -/

/-- A cause that stands takes the gate out of OPEN and REOPENING. -/
theorem gateOk_causeArrival {s : State} (hc : Gate.configOk s.gate.config = true)
    (hcause : s.gate.pfail = true ∨ s.gate.hold = true) (hf : s.gate.inFlight = true → s.gate.state = .opened ∨ s.gate.state = .draining) :
    s.gateCauseArrival.gate.Ok := by
  rw [gateCauseArrival_gate]
  split
  next ho =>
    split
    · exact ⟨hc, nofun, nofun, nofun, fun _ => .inr rfl⟩
    next hn => exact ⟨hc, nofun, fun _ => hcause, nofun, fun h => absurd h hn⟩
  next hr => exact ⟨hc, nofun, fun _ => hcause, nofun, fun h => by
      obtain h' | h' := hf h
      · exact absurd (hr.symm.trans h') nofun
      · exact absurd (hr.symm.trans h') nofun⟩
  next ho hr => exact ⟨hc, fun h => absurd h ho, fun _ => hcause, fun h => absurd h hr, hf⟩

/-- Once no cause stands a CLOSED gate goes on. -/
theorem gateOk_leaveClosed {s : State} (hc : Gate.configOk s.gate.config = true)
    (ho : s.gate.state = .opened → s.gate.pfail = false ∧ s.gate.hold = false ∧ s.gate.powerSeen = false)
    (hr : s.gate.state = .reopening →
      s.gate.pfail = false ∧ s.gate.hold = false ∧ s.gate.powerSeen = true ∧ s.gate.holdOff ≠ 0)
    (hf : s.gate.inFlight = true → s.gate.state = .opened ∨ s.gate.state = .draining) : s.gateLeaveClosed.gate.Ok := by
  rw [gateLeaveClosed_gate]
  split
  next hn =>
    obtain ⟨hs, hn⟩ := hn
    obtain ⟨hp, hh⟩ : s.gate.pfail = false ∧ s.gate.hold = false := by simpa [Gate.noCause] using hn
    have quiet : s.gate.inFlight = true → False := fun h => by
      obtain h' | h' := hf h
      · exact absurd (hs.symm.trans h') nofun
      · exact absurd (hs.symm.trans h') nofun
    split
    next hseen =>
      have count : Gate.holdOffCount s.gate.config ≠ 0 := ((Gate.configOk_iff _).mp hc).1
      exact ⟨hc, nofun, nofun, fun _ => ⟨hp, hh, hseen, count⟩, fun h => (quiet h).elim⟩
    · exact ⟨hc, fun _ => ⟨hp, hh, rfl⟩, nofun, nofun, fun _ => .inl rfl⟩
  next hn =>
    refine ⟨hc, ho, fun hs => ?_, hr, hf⟩
    have : ¬ s.gate.noCause = true := fun h => hn ⟨hs, h⟩
    simpa [Gate.noCause, Classical.or_iff_not_imp_left] using this

theorem gateOk_endDrain {s : State} (h : s.gate.Ok) : s.gateEndDrain.gate.Ok := by
  unfold gateEndDrain
  split
  next hd =>
    have hf : s.gate.inFlight = false := by
      simp only [Gate.drainDue, Bool.and_eq_true, Bool.not_eq_true'] at hd
      exact hd.2
    refine gateOk_leaveClosed ?_ ?_ ?_ ?_ <;> rw [gateEnterClosed_gate]
    · exact h.1
    · exact nofun
    · exact nofun
    · exact fun hx => absurd (hf.symm.trans hx) nofun
  · exact h

theorem gateOk_setHold {s : State} (h : s.gate.Ok) : s.gateSetHold.gate.Ok := by
  unfold gateSetHold
  split
  · exact h
  · exact gateOk_causeArrival h.1 (.inr rfl) h.2.2.2.2

theorem gateOk_clearHold {s : State} (h : s.gate.Ok) : s.gateClearHold.gate.Ok := by
  obtain ⟨hc, ho, -, hr, hf⟩ := id h
  unfold gateClearHold
  split
  · exact gateOk_leaveClosed hc (fun hs => ⟨(ho hs).1, rfl, (ho hs).2.2⟩) (fun hs => ⟨(hr hs).1, rfl, (hr hs).2.2⟩) hf
  · exact h

theorem gateOk_pfailAssert {s : State} (h : s.gate.Ok) : s.gatePfailAssert.gate.Ok :=
  gateOk_causeArrival h.1 (.inl rfl) h.2.2.2.2

theorem gateOk_pfailDeassert {s : State} (h : s.gate.Ok) : s.gatePfailDeassert.gate.Ok := by
  obtain ⟨hc, ho, -, hr, hf⟩ := h
  exact gateOk_leaveClosed hc (fun hs => ⟨rfl, (ho hs).2⟩) (fun hs => ⟨rfl, (hr hs).2⟩) hf

end State

namespace Gate

theorem Ok.reset : Gate.reset.Ok := by decide

theorem Ok.load (w : Word) : (Gate.load w).Ok := by
  unfold Gate.load
  split
  next h => exact ⟨(configOk_mask w).trans h, fun _ => ⟨rfl, rfl, rfl⟩, nofun, nofun, nofun⟩
  · exact .reset

theorem takeTick_state (g : Gate) : g.takeTick.state = g.state := by
  unfold takeTick
  split
  · rfl
  · split <;> rfl

theorem Ok.takeTick {g : Gate} (h : g.Ok) : g.takeTick.Ok := by
  obtain ⟨hc, ho, hx, hr, hf⟩ := h
  unfold Gate.takeTick
  split
  · exact ⟨hc, ho, hx, hr, hf⟩
  · split
    · exact ⟨hc, ho, hx, hr, hf⟩
    next hn =>
      refine ⟨hc, ho, hx, fun hs => ⟨(hr hs).1, (hr hs).2.1, (hr hs).2.2.1, ?_⟩, hf⟩
      dsimp only
      bv_omega

theorem Ok.reopened {g : Gate} (h : g.Ok) (hs : g.state = .reopening) :
    Gate.Ok { g with state := .opened, powerSeen := false, holdOff := 0, tickOwed := false } :=
  ⟨h.1, fun _ => ⟨(h.2.2.2.1 hs).1, (h.2.2.2.1 hs).2.1, rfl⟩, nofun, nofun, fun _ => .inl rfl⟩

end Gate

namespace State

/-! ### Moments keep an OPEN gate OPEN -/

theorem keeps_of_gate {P : Gate → Prop} {s t : State} (h : t.gate = s.gate) : Keeps (fun s => P s.gate) s t := by
  exact fun hs => (congrArg P h).mpr hs

/-- What the end of a hold-off and a tap tick of the gate keep of it, every moment keeps. -/
theorem momentClosed_gate {P : Gate → Prop} (reopened : ∀ g : Gate, g.state = .reopening → P g →
      P { g with state := .opened, powerSeen := false, holdOff := 0, tickOwed := false })
    (ticked : ∀ g : Gate, P g → P g.takeTick) : MomentClosed (Keeps fun s => P s.gate) := by
  have effects : EffectClosed (Keeps fun s => P s.gate) :=
    { refl := fun _ => id
      trans := fun h h' => h' ∘ h
      draw := fun _ => id
      flag := fun _ _ => id
      place := fun s n b _ => keeps_of_gate (placeAt_frame s _ n b).gate
      arm := fun s _ => keeps_of_gate (mapRules_gate s _)
      disarm := fun s _ => keeps_of_gate (mapRules_gate s _)
      windows := fun s _ => keeps_of_gate (mapRules_gate s _)
      expired := fun _ _ _ => id
      triggered := fun _ _ => id
      sampled := fun _ _ _ _ => id
      counted := fun _ _ => id
      stamped := fun _ _ => id
      reopened := fun s hs _ => reopened s.gate hs
      pulseEnded := fun _ _ => id }
  exact { effects.ticks (fun _ _ => id) (fun _ _ => id) fun s => ticked s.gate with
    tick := fun _ _ => id
    pin := fun _ _ _ => id }

/-- The gate keeps its form. -/
theorem momentClosed_gateOk : MomentClosed (Keeps fun s => s.gate.Ok) :=
  momentClosed_gate (P := Gate.Ok) (fun _ hs h => h.reopened hs) fun _ h => h.takeTick

/-- The gate does not leave OPEN. -/
theorem momentClosed_opened : MomentClosed (Keeps fun s => s.gate.state = .opened) :=
  momentClosed_gate (P := fun g => g.state = .opened) (fun _ _ _ => rfl) fun g h => (Gate.takeTick_state g).trans h

/-! ### The verdict of a decision and the state it leaves -/

/-- What the placement settles for its verdict holds at the end of the decision, if the moments keep it. -/
theorem MomentClosed.takeDecisionParts_result {R : State → State → Prop} (h : MomentClosed R) {Q : State → Verdict → Prop}
    (hQ : ∀ s u v, R s u → Q s v → Q u v) {reserve : State → State × Verdict} (hr : ∀ s, Q (reserve s).1 (reserve s).2)
    {l : List DecisionPart} {q : State × Verdict} (hl : .reserve ∈ l ∨ Q q.1 q.2) :
    Q (State.takeDecisionParts reserve l q).1 (State.takeDecisionParts reserve l q).2 := by
  induction l generalizing q with
  | nil => exact hl.resolve_left nofun
  | cons p ps ih =>
    have later : ∀ p : DecisionPart, p ≠ .reserve → .reserve ∈ p :: ps → .reserve ∈ ps := fun p hp hm =>
      (List.mem_cons.mp hm).resolve_left (Ne.symm hp)
    refine ih ?_
    cases p with
    | reserve => exact .inr (hr q.1)
    | trigger c => exact hl.imp (later (.trigger c) nofun) (hQ _ _ q.2 (h.triggerTimer q.1 c))
    | read => exact hl.imp_left (later .read nofun)
    | meet m => exact hl.imp (later (.meet m) nofun) (hQ _ _ q.2 (h.takeMeeting m q.1))

theorem reserve_mem_decisionParts (inside : List Meeting) (ts : List (Fin 8)) (s : State) :
    .reserve ∈ s.decisionParts inside ts := by
  unfold decisionParts
  split <;> exact List.mem_cons_self

theorem MomentClosed.decision_result {R : State → State → Prop} (h : MomentClosed R) {Q : State → Verdict → Prop}
    (hQ : ∀ s u v, R s u → Q s v → Q u v) {t : Txn} (before : Option Word) (sub : Bool)
    (hr : ∀ (a : Action) (d : Word) (vs : List Reservation) (k : Nat) (w : Word) (s : State),
      Q (s.reserve t before sub a d vs k w).1 (s.reserve t before sub a d vs k w).2) (s : State) :
    Q (State.decision t before sub s).state (State.decision t before sub s).verdict := by
  unfold State.decision
  dsimp only
  exact h.takeDecisionParts_result hQ (fun s => hr _ _ _ _ _ s)
    (.inl ((mem_orderParts _ _ _ _).mpr (reserve_mem_decisionParts _ _ _)))

theorem verdict_forward {s : State} {t : Txn} {sub : Bool} {a : Action} {d : Word} {b : Bool}
    (h : s.verdict t sub a d b = .forward) : s.forwardVerdict t = .forward := by
  unfold verdict at h
  split at h
  · exact absurd h nofun
  · cases a with
    | discard | fault => exact absurd h nofun
    | audit =>
      dsimp only at h
      split at h
      · exact h
      · exact absurd h nofun
    | pass | observe => exact h

/-- A write goes to FORWARD through an OPEN gate alone (R62). -/
theorem forwardVerdict_forward {s : State} {t : Txn} (h : s.forwardVerdict t = .forward) :
    s.path.port ≠ .down ∧ (t.kind = .write → s.gate.state = .opened) := by
  unfold forwardVerdict at h
  split at h
  · exact absurd h nofun
  next hp =>
    split at h
    · exact absurd h nofun
    next hg => exact ⟨hp, fun hk => Classical.byContradiction fun hn => hg ⟨hk, hn⟩⟩

/-- A placement whose verdict is a forward leaves the state in which the gate was consulted. -/
theorem reserve_forward {t : Txn} {before : Option Word} {sub : Bool} {a : Action} {d : Word} {vs : List Reservation} {k : Nat}
    {w : Word} {s : State} (h : (s.reserve t before sub a d vs k w).2 = .forward) :
    (s.reserve t before sub a d vs k w).1.forwardVerdict t = .forward := by
  unfold reserve at h ⊢
  dsimp only at h ⊢
  split at h
  next hv =>
    rw [hv]
    exact verdict_forward hv
  next hv => exact absurd (hv.symm.trans h) nofun

theorem decision_gate_opened {t : Txn} (before : Option Word) (sub : Bool) (s : State) :
    (s.decision t before sub).verdict = .forward → t.kind = .write → (s.decision t before sub).state.gate.state = .opened :=
  momentClosed_opened.decision_result (Q := fun u v => v = .forward → t.kind = .write → u.gate.state = .opened)
    (fun _ _ _ hst h hv hk => hst (h hv hk)) before sub
    (fun _ _ _ _ _ _ hv hk => (forwardVerdict_forward (reserve_forward hv)).2 hk) s

/-! ### Every step -/

theorem blockClosed_gate : BlockClosed (Keeps fun s => s.gate.Ok) where
  toMomentClosed := momentClosed_gateOk
  path _ _ _ := id
  drained _ := gateOk_endDrain
  holdSet _ := gateOk_setHold
  holdCleared _ := gateOk_clearHold
  alertRestarted _ := id
  queuesRestarted s := keeps_of_gate (mapQueues_gate s _)
  rulesRestarted s := keeps_of_gate (mapRules_gate s _)
  timersRestarted s := keeps_of_gate (mapTimers_gate s _)
  inputsRestarted s _ := keeps_of_gate (mapInputs_gate s _)
  answered _ _ _ _ := id

theorem writeEffect_gate {s u : State} (h : WriteEffect s u) : Keeps (fun s => s.gate.Ok) s u := by
  cases h with
  | timestamp v => exact momentClosed_gateOk.settleOwed s
  | held => exact gateOk_setHold
  | released => exact gateOk_clearHold
  | gateConfig v hok => exact fun h => ⟨(Gate.configOk_mask v).trans hok, h.2⟩
  | restarted => exact blockClosed_gate.restartEffect s
  | _ => exact id

/-- The hits and the changes of a decision leave the gate. -/
theorem gate_hits (l : List (Fin 24)) (s : State) : (l.foldl hitRule s).gate = s.gate :=
  (foldl_frame .refl .trans hitRule_frame l s).gate

theorem wordDone_gate {s u : State} (h : WordDone s u) : Keeps (fun s => s.gate.Ok) s u := by
  cases h with
  | none | refused => exact id
  | done a left st mark u _ _ he _ =>
    have written := writeEffect_gate he
    exact written

/-- A forward of a write begins while the gate is OPEN (R62). -/
theorem gateOk_carryOut {t : Txn} {v : Verdict} {s : State} (h : s.gate.Ok)
    (hv : v = .forward → t.kind = .write → s.gate.state = .opened) : (s.carryOut t v).gate.Ok := by
  cases v with
  | ended o a => exact h
  | forward =>
    unfold carryOut
    dsimp only
    split
    next hk => exact ⟨h.1, h.2.1, h.2.2.1, h.2.2.2.1, fun _ => .inl (hv rfl hk)⟩
    · exact h

theorem gateOk_decided (s u : State) (x : Txn) (before : Option Word) (sub : Bool) :
    Keeps (fun s => s.gate.Ok) u (s.thenChanges (u.decideAndCarryOut x before sub)) := by
  intro h
  have reserved : ∀ (t : Txn) (before : Option Word) (sub : Bool) (a : Action) (d : Word) (vs : List Reservation) (k : Nat)
      (w : Word) (s : State), Keeps (fun s => s.gate.Ok) s (s.reserve t before sub a d vs k w).1 := by
    intro t before sub a d vs k w s h
    rw [reserve_gate]
    unfold consulted
    split <;> exact h
  have done : (s.endCommand (u.decideAndCarryOut x before sub).1).gate.Ok := by
    have hits : ((u.hitsOf x before).foldl hitRule u).gate.Ok := by rwa [gate_hits]
    exact gateOk_carryOut (momentClosed_gateOk.decision reserved x before sub u hits) (decision_gate_opened before sub u)
  unfold thenChanges
  dsimp only
  split
  · exact done
  · rw [(afterDecision_frame _ _).gate]
    exact momentClosed_gateOk.meetAll (fun _ r => wordDone_gate (.enableWrite r))
      (fun _ r => wordDone_gate (.disableWrite r)) _ _ done

theorem stepClosed_gate : StepClosed (Keeps fun s => s.gate.Ok) where
  toBlockClosed := blockClosed_gate
  refused _ := id
  told _ h := ⟨h.1, h.2.1, h.2.2.1, h.2.2.2.1, nofun⟩
  completed s before o d := keeps_of_gate (completeAll_frame s before o d).gate
  written _ _ := writeEffect_gate
  decided := gateOk_decided
  pins _ _ _ := id
  selected _ := id
  headed s kind a count _ := by
    unfold beginFrame
    split
    · exact id
    · cases kind <;> exact id
  deselected _ := id
  wordTaken _ _ _ _ := id
  copyMade s k n := by
    unfold makeCopy
    split
    · split
      · exact keeps_of_gate (removeCopied_records s).1.gate
      · exact id
    · exact id
  popped s _ _ _ := keeps_of_gate (removeCopied_records s).1.gate
  clocked s := by
    unfold clockOut
    split <;> exact id
  power _ _ := id
  pfailTaken _ := gateOk_pfailAssert
  pfailReleased _ := gateOk_pfailDeassert
  torn s r := by
    unfold tearSave
    split <;> exact id
  saved s := by
    unfold endSave
    split <;> exact id
  reset _ _ := .reset
  periodBegun _ := id

/-- The gate that loading leaves has looked at PFAIL. -/
theorem gateOk_endLoading (s : State) : s.endLoading.gate.Ok := by
  have look : ∀ u : State, u.gate.Ok → u.gateLookAtPfail.gate.Ok := fun u h => by
    unfold gateLookAtPfail
    split
    · exact gateOk_pfailAssert h
    · exact h
  have applied : ∀ ok i, (s.applyImage ok i).gate.Ok := fun ok i => by
    have loaded : ((s.loadConfiguration i).loadStarts i).gate.Ok := loaded_gate i s ▸ .load _
    unfold applyImage
    generalize (s.loadConfiguration i).loadStarts i = u at loaded
    refine look _ ?_
    dsimp only
    split <;> exact loaded
  unfold endLoading
  rw [endCommand_gate]
  split <;> exact applied _ _

end State

/-- Settles O58: each move of the gate by its causes; a write in flight begins while the gate is OPEN, which no moment ends. -/
theorem gateAgreesWithItsCauses : Obligations.GateAgreesWithItsCauses := fun _ _ h ht =>
  State.stepClosed_gate.step (fun _ => id) (fun _ _ _ => State.gateOk_endLoading _) ht h

end Sys2Proof.Machine
end

section
/-! Properties of the records and the alert controller alone: it is enough that the moves of the queues and of the pulse keep them. -/

namespace Sys2Proof.Machine.State

/-- What events do to records and flags, for a property of these alone. -/
theorem effectClosed_of_free {P : State → Prop}
    (free : ∀ s t : State, t.queues = s.queues → t.nextSerial = s.nextSerial → t.alert = s.alert → Keeps P s t)
    (flag : ∀ (s : State) (g : Flag), Keeps P s (s.setFlag g))
    (placed : ∀ (s : State) (w : Word) (n : Fin 4) (b : RecordBody), Keeps P s (s.placeAt w n b).1)
    (pulseEnded : ∀ s : State, s.alert.tickOwed = true → Keeps P s { s with alert := s.alert.tickEnds }) :
    EffectClosed (Keeps P) where
  refl _ := id
  trans h h' := h' ∘ h
  draw _ := free _ _ rfl rfl rfl
  flag := flag
  place s n b _ := placed s _ n b
  arm s _ := free _ _ (mapRules_queues s _) (mapRules_nextSerial s _) (mapRules_alert s _)
  disarm s _ := free _ _ (mapRules_queues s _) (mapRules_nextSerial s _) (mapRules_alert s _)
  windows s _ := free _ _ (mapRules_queues s _) (mapRules_nextSerial s _) (mapRules_alert s _)
  expired _ _ _ := free _ _ rfl rfl rfl
  triggered _ _ := free _ _ rfl rfl rfl
  sampled _ _ _ _ := free _ _ rfl rfl rfl
  counted _ _ := free _ _ rfl rfl rfl
  stamped _ _ := free _ _ rfl rfl rfl
  reopened _ _ _ := free _ _ rfl rfl rfl
  pulseEnded := pulseEnded

/-- The property sees records and the alert controller alone, and is kept by each of their moves. -/
structure RecordUpdates (P : State → Prop) : Prop extends TickClosed (Keeps P) where
  free : ∀ s t : State, t.queues = s.queues → t.nextSerial = s.nextSerial → t.alert = s.alert → Keeps P s t
  placed : ∀ (s : State) (w : Word) (n : Fin 4) (b : RecordBody), Keeps P s (s.placeAt w n b).1
  listsCompleted : ∀ (s : State) (o : TxnOutcome) (d : Option Word),
    Keeps P s (s.mapQueues fun _ q => { q with list := q.list.map (completeRecord o d) })
  emptied : ∀ s : State, Keeps P s s.restartQueues
  oldestRemoved : ∀ (s : State) (n : Fin 4), Keeps P s (s.dropOldest n)
  queueConfig : ∀ (s : State) (n : Fin 4) (v : Word), (s.queue n).on = false →
    Keeps P s (s.setQueue n { s.queue n with config := v &&& Queue.configMask })
  queueOn : ∀ (s : State) (n : Fin 4), (s.queue n).on = false → s.poolUsed + (s.queue n).depth ≤ 256 →
    Keeps P s (s.setQueue n { s.queue n with on := true, list := [] })
  queueOff : ∀ (s : State) (n : Fin 4), Keeps P s (s.setQueue n { s.queue n with on := false, list := [], loss := 0 })
  flush : ∀ (s : State) (n : Fin 4),
    Keeps P s (s.setQueue n { s.queue n with list := (s.queue n).list.filter Record.isPending, loss := 0 })
  tickBegun : ∀ s : State, Keeps P s { s with alert := { s.alert with lastTick := .unplaced } }
  alertCleared : ∀ s : State, Keeps P s { s with alert := s.alert.restart }
  flagsCleared : ∀ (s : State) (v : Word), Keeps P s { s with alert := s.alert.clearFlags v }
  enables : ∀ (s : State) (v : Word), Keeps P s { s with alert := s.alert.writeEnables s.timebase.tapCount v }
  alertConfig : ∀ (s : State) (v : Word), Alert.configOk v = true → Keeps P s { s with alert := s.alert.writeConfig v }
  reset : ∀ s : State, Keeps P s s.resetBlocks

namespace RecordUpdates

variable {P : State → Prop} (h : RecordUpdates P)
include h

theorem moments : MomentClosed (Keeps P) where
  toTickClosed := h.toTickClosed
  tick s _ := h.trans (h.free s { s with timebase := s.timebase.tick } rfl rfl rfl) (h.tickBegun _)
  pin _ _ _ := h.free _ _ rfl rfl rfl

theorem gates : GateClosed (Keeps P) where
  toEffectClosed := h.toEffectClosed
  gate _ _ _ := h.free _ _ rfl rfl rfl

theorem blocks : BlockClosed (Keeps P) where
  toMomentClosed := h.moments
  path _ _ _ := h.free _ _ rfl rfl rfl
  drained := h.gates.endDrain
  holdSet := h.gates.setHold
  holdCleared := h.gates.clearHold
  alertRestarted := h.alertCleared
  queuesRestarted := h.emptied
  rulesRestarted s := h.free _ _ (mapRules_queues s _) (mapRules_nextSerial s _) (mapRules_alert s _)
  timersRestarted s := h.free _ _ (mapTimers_queues s _) (mapTimers_nextSerial s _) (mapTimers_alert s _)
  inputsRestarted s _ := h.free _ _ (mapInputs_queues s _) (mapInputs_nextSerial s _) (mapInputs_alert s _)
  answered _ _ _ _ := h.free _ _ rfl rfl rfl

/-! ### Decisions -/

theorem completeAll (s : State) (before : Vector Nat 4) (o : TxnOutcome) (d : Option Word) :
    Keeps P s (s.completeAll before o d) :=
  h.trans (h.listsCompleted s o d) (h.foldl (fun s n => h.judgeNotify s n _) _ _)

theorem placeAll (t : Txn) (before : Option Word) (w : Word) (vs : List Reservation) (p : State × Bool) :
    Keeps P p.1 (State.placeAll t before w vs p).1 := by
  induction vs generalizing p with
  | nil => exact h.refl _
  | cons v vs ih =>
    have first := h.placed p.1 w v.queue (v.record t before)
    exact fun hp => ih (_, _) (first hp)

theorem reserve (t : Txn) (before : Option Word) (sub : Bool) (a : Action) (d : Word) (vs : List Reservation) (k : Nat)
    (w : Word) (s : State) : Keeps P s (s.reserve t before sub a d vs k w).1 := by
  have placed := h.placeAll t before (s.accessStamp k w vs) vs (s, false)
  have consulted : ∀ (v : Verdict) (u : State), Keeps P u (u.consulted v) := fun v u => by
    unfold State.consulted
    split
    · exact h.free _ _ rfl rfl rfl
    · exact h.refl _
  unfold State.reserve
  dsimp only
  split
  · exact placed
  · exact fun hs => consulted _ _ (h.completeAll _ _ _ _ (placed hs))

theorem hitRule (s : State) (r : Fin 24) : Keeps P s (s.hitRule r) := by
  have hit : Keeps P s (s.setRule r (s.rule r).hit) := h.free _ _ rfl rfl rfl
  unfold State.hitRule
  dsimp only
  split <;> split
  · exact h.trans hit (h.trans (h.flag _ _) (h.flag _ _))
  · exact h.trans hit (h.flag _ _)
  · exact h.trans hit (h.flag _ _)
  · exact hit

theorem carryOut (t : Txn) (v : Verdict) (s : State) : Keeps P s (s.carryOut t v) := by
  cases v with
  | forward =>
    unfold State.carryOut
    dsimp only
    split
    · exact h.free _ _ rfl rfl rfl
    · exact h.free _ _ rfl rfl rfl
  | ended o a => exact h.free _ _ rfl rfl rfl

theorem afterDecision (c : Changes) (s : State) : Keeps P s (s.afterDecision c) := by
  rw [afterDecision_rulesOnly]
  exact h.free _ _ rfl rfl rfl

/-! ### Write words -/

theorem written (s u : State) (hw : WriteEffect s u) : Keeps P s u := by
  cases hw with
  | queueConfig n v hon _ => exact h.queueConfig s n v hon
  | queueOn n hon _ hpool => exact h.queueOn s n hon hpool
  | queueOff n _ => exact h.queueOff s n
  | flush n => exact h.flush s n
  | timestamp v _ => exact h.trans (h.settleOwed s) (h.free _ _ rfl rfl rfl)
  | held => exact h.trans (h.gates.setHold s) (h.endCommand s _)
  | released => exact h.trans (h.gates.clearHold s) (h.endCommand s _)
  | flagsCleared v => exact h.flagsCleared s v
  | enables v => exact h.trans (h.enables s v) (h.endCommand s _)
  | alertConfig v hok => exact h.alertConfig s v hok
  | restarted _ => exact h.blocks.restartEffect s
  | _ => exact h.free _ _ rfl rfl rfl

theorem word (s u : State) (hw : WordDone s u) : Keeps P s u := by
  have framed : ∀ (s : State) (f : Frame), Keeps P s (s.setFrame f) := fun _ _ => h.free _ _ rfl rfl rfl
  cases hw with
  | none => exact h.refl s
  | refused a left st _ => exact h.trans (framed s _) (h.blocks.answered _ st false nofun)
  | done a left st mark u _ _ he hm => exact h.trans (h.trans (framed s _) (h.written _ u he)) (h.blocks.answered u st mark hm)

theorem decided (s u : State) (x : Txn) (before : Option Word) (sub : Bool) :
    Keeps P u (s.thenChanges (u.decideAndCarryOut x before sub)) := by
  have done : Keeps P u (s.endCommand (u.decideAndCarryOut x before sub).1) :=
    h.trans (h.trans (h.trans (h.foldl h.hitRule _ _) (h.moments.decision h.reserve x before sub u)) (h.carryOut _ _ _))
      (h.endCommand _ _)
  unfold State.thenChanges
  dsimp only
  split
  · exact done
  · exact h.trans (h.trans done (h.moments.meetAll (fun _ r => h.word _ _ (.enableWrite r))
      (fun _ r => h.word _ _ (.disableWrite r)) _ _)) (h.afterDecision _ _)

/-! ### Every step -/

theorem removeCopied (s : State) : Keeps P s s.removeCopied := by
  unfold State.removeCopied
  split
  · split
    · split
      · exact h.oldestRemoved s _
      · exact h.refl s
    · exact h.refl s
  · exact h.refl s

theorem steps : StepClosed (Keeps P) where
  toBlockClosed := h.blocks
  refused _ := h.free _ _ rfl rfl rfl
  told _ := h.free _ _ rfl rfl rfl
  completed := h.completeAll
  written := h.written
  decided := h.decided
  pins _ _ _ := h.free _ _ rfl rfl rfl
  selected _ := h.free _ _ rfl rfl rfl
  headed s kind a count _ := by
    unfold beginFrame
    split
    · exact h.free _ _ rfl rfl rfl
    · cases kind <;> exact h.free _ _ rfl rfl rfl
  deselected _ := h.free _ _ rfl rfl rfl
  wordTaken _ _ _ _ := h.free _ _ rfl rfl rfl
  copyMade s k n := by
    unfold makeCopy
    split
    · split
      · exact h.trans (h.removeCopied s) (h.free _ _ rfl rfl rfl)
      · exact h.refl s
    · exact h.refl s
  popped s _ _ _ := h.trans (h.removeCopied s) (h.free _ _ rfl rfl rfl)
  clocked s := by
    unfold clockOut
    split
    · exact h.free _ _ rfl rfl rfl
    · exact h.refl s
  power _ _ := h.free _ _ rfl rfl rfl
  pfailTaken := h.gates.pfailAssert
  pfailReleased := h.gates.pfailDeassert
  torn s _ := by
    unfold tearSave
    split
    · exact h.free _ _ rfl rfl rfl
    · exact h.refl s
  saved s := by
    unfold endSave
    split
    · exact h.free _ _ rfl rfl rfl
    · exact h.refl s
  reset := h.reset
  periodBegun _ := h.free _ _ rfl rfl rfl

/-- The end of loading keeps a property that the loaded configuration has. -/
theorem endLoading (s : State) (loaded : ∀ i, P ((s.loadConfiguration i).loadStarts i)) : P s.endLoading := by
  have lock : ∀ u : State, Keeps P u u.loadLockAndGate := fun u =>
    h.trans (h.free u { u with link := { u.link with locked := u.link.code != 0 } } rfl rfl rfl) (h.gates.lookAtPfail _)
  have idle : ∀ (u : State) (b : Bool), Keeps P u { u with store := { u.store with state := .idle, loadDefaults := b } } :=
    fun _ _ => h.free _ _ rfl rfl rfl
  have applied : ∀ ok i, P (s.applyImage ok i) := fun ok i => by
    have hi := loaded i
    unfold applyImage
    generalize (s.loadConfiguration i).loadStarts i = u at hi
    have flagged : P (if ok then u else u.setFlag .config) := by
      split
      · exact hi
      · exact h.flag u _ hi
    exact idle _ _ (lock _ flagged)
  unfold State.endLoading
  refine h.endCommand _ _ ?_
  split <;> exact applied _ _

end RecordUpdates

end Sys2Proof.Machine.State
end

section
/-! The pool of the queues and the order of the records (R77, R82): a placement never exceeds a share, and every record goes behind
those placed before it. -/

namespace Sys2Proof.Machine

/-! ### One queue -/

/-- The part of the pool that a queue takes (R77). -/
def Queue.share (q : Queue) : Nat := if q.on then q.depth else 0

/-- The records stand in the order of their numbers, all below `k`. -/
def Queue.Ordered (k : Nat) (q : Queue) : Prop :=
  (q.list.map Record.serial).Pairwise (· < ·) ∧ ∀ r ∈ q.list, r.serial < k

namespace Queue

theorem within_iff (q : Queue) : q.Within ↔ q.list.length ≤ q.share := Iff.rfl

theorem share_congr {q x : Queue} (ho : x.on = q.on) (hc : x.config = q.config) : x.share = q.share := by
  unfold share depth
  rw [ho, hc]

theorem Ordered.of_sublist {k : Nat} {q x : Queue} (h : q.Ordered k) (hl : x.list.Sublist q.list) : x.Ordered k :=
  ⟨h.1.sublist (hl.map _), fun r hr => h.2 r (hl.subset hr)⟩

theorem Ordered.mono {k m : Nat} {q : Queue} (h : q.Ordered k) (hkm : k ≤ m) : q.Ordered m :=
  ⟨h.1, fun r hr => (h.2 r hr).trans_le hkm⟩

theorem Ordered.append {k : Nat} {q : Queue} (h : q.Ordered k) (w : Word) (b : RecordBody) :
    Ordered (k + 1) { q with list := q.list ++ [⟨k, w, b⟩] } := by
  refine ⟨?_, fun r hr => ?_⟩
  · rw [List.map_append]
    refine List.pairwise_append.mpr ⟨h.1, List.pairwise_singleton _ _, ?_⟩
    rintro a ha b hb
    obtain ⟨r, hr, rfl⟩ := List.mem_map.mp ha
    obtain rfl := List.mem_singleton.mp hb
    exact h.2 r hr
  · obtain hr | hr := List.mem_append.mp hr
    · exact Nat.lt_succ_of_lt (h.2 r hr)
    · obtain rfl := List.mem_singleton.mp hr
      exact Nat.lt_succ_self k

theorem Ordered.map_of_serial {k : Nat} {q : Queue} (h : q.Ordered k) {f : Record → Record} (hf : ∀ r, (f r).serial = r.serial) :
    Ordered k { q with list := q.list.map f } := by
  refine ⟨?_, fun r hr => ?_⟩
  · have hmap : (q.list.map f).map Record.serial = q.list.map Record.serial := by simp [hf]
    rw [hmap]
    exact h.1
  · obtain ⟨x, hx, rfl⟩ := List.mem_map.mp hr
    exact (hf x).symm ▸ h.2 x hx

end Queue

namespace State

/-! ### The pool -/

theorem poolUsed_eq (s : State) : s.poolUsed = (s.queue 0).share + (s.queue 1).share + (s.queue 2).share + (s.queue 3).share := by
  have h : allQueues = [0, 1, 2, 3] := by decide
  simp only [poolUsed, h, List.map_cons, List.map_nil, List.sum_cons, List.sum_nil, Queue.share]
  omega

theorem poolUsed_setQueue (s : State) (n : Fin 4) (q : Queue) :
    (s.setQueue n q).poolUsed + (s.queue n).share = s.poolUsed + q.share := by
  rw [poolUsed_eq, poolUsed_eq]
  simp only [queue_setQueue]
  match n with
  | 0 | 1 | 2 | 3 => simp; omega

theorem poolUsed_congr {s t : State} (h : ∀ n, (t.queue n).share = (s.queue n).share) : t.poolUsed = s.poolUsed := by
  rw [poolUsed_eq, poolUsed_eq, h, h, h, h]

/-- The pool is not exceeded, no queue holds more than its share, and the records stand in order. -/
def QueuesOk (s : State) : Prop := s.poolUsed ≤ 256 ∧ ∀ n, (s.queue n).Within ∧ (s.queue n).Ordered s.nextSerial

theorem queuesOk_iff (s : State) : s.QueuesOk ↔ s.PoolOk ∧ s.SerialsOk :=
  ⟨fun h => ⟨⟨h.1, fun n => (h.2 n).1⟩, fun n => (h.2 n).2⟩, fun h => ⟨h.1.1, fun n => ⟨h.1.2 n, h.2 n⟩⟩⟩

theorem QueuesOk.congr {s t : State} (h : s.QueuesOk) (hq : t.queues = s.queues) (hk : t.nextSerial = s.nextSerial) :
    t.QueuesOk := by
  have queue : ∀ n, t.queue n = s.queue n := queue_congr hq
  refine ⟨(poolUsed_congr fun n => by rw [queue]).trans_le h.1, fun n => ?_⟩
  · rw [queue, hk]
    exact h.2 n

/-- One queue written, within its share and the pool. -/
theorem QueuesOk.setQueue {s : State} (h : s.QueuesOk) {n : Fin 4} {q : Queue}
    (hp : s.poolUsed + q.share ≤ 256 + (s.queue n).share) (hw : q.Within) (ho : q.Ordered s.nextSerial) :
    (s.setQueue n q).QueuesOk := by
  have sum := poolUsed_setQueue s n q
  exact ⟨by omega, forall_queue_setQueue (Q := fun q => q.Within ∧ q.Ordered s.nextSerial) h.2 ⟨hw, ho⟩⟩

/-- Records leave a queue, or nothing of its list changes. -/
theorem QueuesOk.shortened {s : State} (h : s.QueuesOk) {n : Fin 4} {q : Queue} (ho : q.on = (s.queue n).on)
    (hc : q.config = (s.queue n).config) (hl : q.list.Sublist (s.queue n).list) : (s.setQueue n q).QueuesOk := by
  have share := Queue.share_congr ho hc
  obtain ⟨hw, hs⟩ := h.2 n
  refine h.setQueue ?_ ?_ (hs.of_sublist hl)
  · rw [share]
    exact Nat.add_le_add_right h.1 _
  · rw [Queue.within_iff, share]
    exact hl.length_le.trans hw

/-! ### What the queues do -/

theorem QueuesOk.loseIn {s : State} (h : s.QueuesOk) (n : Fin 4) : (s.loseIn n).QueuesOk :=
  (h.shortened (n := n) (q := (s.queue n).lose) rfl rfl (.refl _)).congr rfl rfl

theorem QueuesOk.dropOldest {s : State} (h : s.QueuesOk) (n : Fin 4) : (s.dropOldest n).QueuesOk :=
  h.shortened rfl rfl (List.tail_sublist _)

theorem append_nextSerial (s : State) (w : Word) (n : Fin 4) (b : RecordBody) :
    (s.append w n b).nextSerial = s.nextSerial + 1 := rfl

/-- The lists stay in order under a placement. -/
theorem append_ordered {s : State} (h : ∀ m, (s.queue m).Ordered s.nextSerial) (w : Word) (n : Fin 4) (b : RecordBody) (m : Fin 4) :
    ((s.append w n b).queue m).Ordered (s.append w n b).nextSerial := by
  rw [append_queue, append_nextSerial]
  split
  · exact (h n).append w b
  · exact (h m).mono (Nat.le_succ _)

theorem QueuesOk.placeAt {s : State} (h : s.QueuesOk) (w : Word) (n : Fin 4) (b : RecordBody) : (s.placeAt w n b).1.QueuesOk := by
  have share : ∀ m, ((s.placeAt w n b).1.queue m).share = (s.queue m).share := fun m =>
    Queue.share_congr (placeAt_queue_config s w n m b).2 (placeAt_queue_config s w n m b).1
  refine ⟨(poolUsed_congr share).trans_le h.1, fun m => ⟨placeAt_within s w n m b (h.2 m).1, ?_⟩⟩
  · have lists : ∀ u : State, u.QueuesOk → ∀ m, (u.queue m).Ordered u.nextSerial := fun u hu m => (hu.2 m).2
    unfold State.placeAt
    split
    · exact append_ordered (lists s h) w n b m
    · exact append_ordered (lists _ ((h.dropOldest n).loseIn n)) w n b m
    · exact lists _ (h.loseIn n) m

theorem QueuesOk.mapQueues {s : State} (h : s.QueuesOk) {f : Fin 4 → Queue → Queue} (hon : ∀ n q, (f n q).on = q.on)
    (hc : ∀ n q, (f n q).config = q.config) (hl : ∀ n q, (f n q).list.length ≤ q.list.length)
    (ho : ∀ n q k, q.Ordered k → (f n q).Ordered k) : (s.mapQueues f).QueuesOk := by
  have share : ∀ n, ((s.mapQueues f).queue n).share = (s.queue n).share := fun n => by
    rw [queue_mapQueues]
    exact Queue.share_congr (hon n _) (hc n _)
  refine ⟨(poolUsed_congr share).trans_le h.1, fun n => ?_⟩
  · rw [queue_mapQueues, mapQueues_nextSerial, Queue.within_iff, Queue.share_congr (hon n _) (hc n _)]
    exact ⟨(hl n _).trans (h.2 n).1, ho n _ _ (h.2 n).2⟩

/-- Queues that are OFF and empty take nothing. -/
theorem QueuesOk.of_off {s : State} (h : ∀ n, (s.queue n).on = false ∧ (s.queue n).list = []) : s.QueuesOk := by
  have share : ∀ n, (s.queue n).share = 0 := fun n => by simp [Queue.share, (h n).1]
  refine ⟨by rw [poolUsed_eq]; simp [share], fun n => ⟨?_, ?_⟩⟩
  · rw [Queue.within_iff, (h n).2]
    exact Nat.zero_le _
  · unfold Queue.Ordered
    rw [(h n).2]
    exact ⟨.nil, nofun⟩

theorem QueuesOk.turnedOn {s : State} (h : s.QueuesOk) {n : Fin 4} (hoff : (s.queue n).on = false)
    (hp : s.poolUsed + (s.queue n).depth ≤ 256) : (s.setQueue n { s.queue n with on := true, list := [] }).QueuesOk := by
  have share : (s.queue n).share = 0 := by simp [Queue.share, hoff]
  refine h.setQueue ?_ ?_ ⟨.nil, nofun⟩
  · rw [share]
    exact hp
  · exact Nat.zero_le _

theorem effectClosed_queues : EffectClosed (Keeps QueuesOk) :=
  effectClosed_of_free (fun _ _ hq hk _ h => h.congr hq hk) (fun _ _ h => h.congr rfl rfl) (fun _ w n b h => h.placeAt w n b)
    fun _ _ h => h.congr rfl rfl

theorem recordUpdates_queues : RecordUpdates QueuesOk where
  toTickClosed := effectClosed_queues.ticks (fun _ _ h => h.congr rfl rfl) (fun _ _ h => h.congr rfl rfl)
    fun _ h => h.congr rfl rfl
  free _ _ hq hk _ h := h.congr hq hk
  placed _ w n b h := h.placeAt w n b
  listsCompleted _ o d h := h.mapQueues (fun _ _ => rfl) (fun _ _ => rfl) (fun _ _ => (List.length_map ..).le)
    fun _ _ _ hq => hq.map_of_serial (completeRecord_serial o d)
  emptied _ h := h.mapQueues (fun _ _ => rfl) (fun _ _ => rfl) (fun _ _ => Nat.zero_le _) fun _ _ _ _ => ⟨.nil, nofun⟩
  oldestRemoved _ n h := h.dropOldest n
  queueConfig s n v hoff h := by
    have share : ∀ c, Queue.share { s.queue n with config := c } = 0 := fun c => by simp [Queue.share, hoff]
    refine h.setQueue ?_ ?_ (h.2 n).2
    · rw [share]
      exact h.1.trans (Nat.le_add_right _ _)
    · have within := (h.2 n).1
      rw [Queue.within_iff, Queue.share, hoff] at within
      rw [Queue.within_iff, share]
      exact within
  queueOn _ _ hoff hp h := h.turnedOn hoff hp
  queueOff s n h := by
    refine h.setQueue ?_ (Nat.zero_le _) ⟨.nil, nofun⟩
    exact Nat.add_le_add h.1 (Nat.zero_le _)
  flush _ _ h := h.shortened rfl rfl List.filter_sublist
  tickBegun _ h := h.congr rfl rfl
  alertCleared _ h := h.congr rfl rfl
  flagsCleared _ _ h := h.congr rfl rfl
  enables _ _ h := h.congr rfl rfl
  alertConfig _ _ _ h := h.congr rfl rfl
  reset s _ := .of_off fun n => by
    have hr : s.resetBlocks.queue n = Queue.reset := by simp [resetBlocks, queue]
    rw [hr]
    exact ⟨rfl, rfl⟩

/-- Loading turns queues on one by one, each within the pool (R79, R184). -/
theorem queuesOk_loaded {s : State} (hs : ∀ n, s.queue n = Queue.reset) (i : Image) :
    ((s.loadConfiguration i).loadStarts i).QueuesOk := by
  have configured : (s.loadConfiguration i).QueuesOk := .of_off fun n => by
    rw [loadConfiguration_queue, hs]
    split <;> exact ⟨rfl, rfl⟩
  have turned : ∀ (u : State) (n : Fin 4), Keeps QueuesOk u (loadQueueOn i u n) := fun u n h => by
    have on : (queueTurnOn n u).2.QueuesOk := recordUpdates_queues.written _ _ (WriteEffect.queueTurnOn u n) h
    unfold loadQueueOn
    split
    · dsimp only
      split
      · exact on.shortened rfl rfl (.refl _)
      · exact h
    · exact h
  have queues := effectClosed_queues.foldl turned allQueues _ configured
  exact queues.congr (by simp only [loadStarts]) (by simp only [loadStarts])

end State

/-- Settles O54: placement, removal and the writes queue by queue; loading starts from queues that are OFF and empty. -/
theorem poolIsNeverExceeded : Obligations.PoolIsNeverExceeded := fun s t hl hp hs ht =>
  (State.queuesOk_iff t).mp (State.recordUpdates_queues.steps.step (fun _ => id)
    (fun l hload _ => State.recordUpdates_queues.endLoading _ fun i =>
      State.queuesOk_loaded (s := { s with pending := l }) (fun n => (hl hload).2.2.2.2.2.2.2.2.1 n) i)
    ht ((State.queuesOk_iff s).mpr ⟨hp, hs⟩))

end Sys2Proof.Machine
end

section
/-! The ALERT line (R168 to R170). Inside a command the last tick may stand before or after the command's pulse starts; the form of
the line holds all the same, and the end of the command puts the tick back in its place (log 14). -/

namespace Sys2Proof.Machine

namespace Alert

/-- The form of the line at every moment: LEVEL follows the flags, PULSE the counter, and a tick that has been taken is not owed. -/
def LineForm (a : Alert) : Prop :=
  (a.pulseMode = false → a.line = a.anyEnabled ∧ a.pulse = 0) ∧ (a.pulseMode = true → (a.line = true ↔ a.pulse ≠ 0)) ∧
  (a.tickOwed = true → a.pulse ≠ 0) ∧ (a.lastTick = .taken → a.tickOwed = false) ∧ configOk a.config = true

/-- The last tick is not placed against the pulse starts of a command. -/
def Unplaced (a : Alert) : Prop := a.lastTick ≠ .before ∧ a.lastTick ≠ .after

theorem pulseMode_congr {a b : Alert} (h : b.config = a.config) : b.pulseMode = a.pulseMode := by
  unfold pulseMode
  rw [h]

/-- Two controllers in the two modes differ in their configuration. -/
theorem pulseMode_absurd {a : Alert} (h : a.pulseMode = true) (h' : a.pulseMode = false) : False := by
  rw [h] at h'
  exact absurd h' nofun

/-! ### Line and pulse -/

/-- A state in PULSE mode, given line and pulse together. -/
theorem LineForm.of_pulse {a : Alert} (hm : a.pulseMode = true) (hl : a.line = true ↔ a.pulse ≠ 0)
    (ho : a.tickOwed = true → a.pulse ≠ 0) (ht : a.lastTick = .taken → a.tickOwed = false) (hc : configOk a.config = true) :
    a.LineForm := ⟨fun h => (pulseMode_absurd hm h).elim, fun _ => hl, ho, ht, hc⟩

/-- LEVEL mode without a pulse. -/
theorem LineForm.of_level {a : Alert} (hm : a.pulseMode = false) (hl : a.line = a.anyEnabled) (hp : a.pulse = 0)
    (ho : a.tickOwed = false) (hc : configOk a.config = true) : a.LineForm :=
  ⟨fun _ => ⟨hl, hp⟩, fun h => (pulseMode_absurd h hm).elim, fun h => absurd (ho.symm.trans h) nofun, fun _ => ho, hc⟩

/-- In LEVEL mode no tick is owed. -/
theorem LineForm.notOwed {a : Alert} (h : a.LineForm) (hm : a.pulseMode = false) : a.tickOwed = false :=
  Bool.eq_false_iff.mpr fun ho => h.2.2.1 ho (h.1 hm).2

/-- A pulse in progress is one of PULSE mode. -/
theorem LineForm.pulseMode {a : Alert} (h : a.LineForm) (hp : a.pulse ≠ 0) : a.pulseMode = true := by
  cases hm : a.pulseMode with
  | true => rfl
  | false => exact absurd (h.1 hm).2 hp

theorem LineForm.takeTick {a : Alert} (h : a.LineForm) (hn : a.lastTick ≠ .taken) : a.takeTick.LineForm := by
  unfold Alert.takeTick
  split
  · exact h
  next h0 =>
    have mode := h.pulseMode h0
    split
    · exact .of_pulse mode (h.2.1 mode) (fun _ => h0) (fun e => absurd e hn) h.2.2.2.2
    next h1 =>
      have left : a.pulse - 1 ≠ 0 := by bv_omega
      exact .of_pulse mode ⟨fun _ => left, fun _ => (h.2.1 mode).mpr h0⟩ nofun (fun _ => rfl) h.2.2.2.2

theorem LineForm.startPulse {a : Alert} (hm : a.pulseMode = true) (hc : configOk a.config = true) (c : BitVec 16) :
    (a.startPulse c).LineForm := by
  have width : widthOf a.config ≠ 0 := ((configOk_iff _).mp hc).2.1
  have started : ∀ p, LineForm { a with
      pulse := widthOf a.config, pulseTap := tapCode a.config, line := true, tickOwed := false, lastTick := p } := fun p =>
    .of_pulse hm ⟨fun _ => width, fun _ => rfl⟩ nofun (fun _ => rfl) hc
  unfold Alert.startPulse
  dsimp only
  split
  next hf =>
    have follows : a.tickFollows = true := (Bool.and_eq_true_iff.mp hf).1
    rw [follows]
    exact (started _).takeTick nofun
  · exact started _

theorem LineForm.endPulse {a : Alert} (hm : a.pulseMode = true) (hc : configOk a.config = true) : a.endPulse.LineForm :=
  .of_pulse hm ⟨nofun, fun h => absurd rfl h⟩ nofun (fun _ => rfl) hc

theorem LineForm.setFlag {a : Alert} (h : a.LineForm) (c : BitVec 16) (f : Flag) : (a.setFlag c f).LineForm := by
  unfold Alert.setFlag
  dsimp only
  split
  next hm =>
    split
    · exact .startPulse hm h.2.2.2.2 c
    · exact .of_pulse hm (h.2.1 hm) h.2.2.1 h.2.2.2.1 h.2.2.2.2
  next hm =>
    have mode := Bool.eq_false_iff.mpr hm
    exact .of_level mode rfl (h.1 mode).2 (h.notOwed mode) h.2.2.2.2

theorem LineForm.tickEnds {a : Alert} (h : a.LineForm) (ho : a.tickOwed = true) : a.tickEnds.LineForm :=
  .of_pulse (h.pulseMode (h.2.2.1 ho)) ⟨nofun, fun h => absurd rfl h⟩ nofun (fun _ => rfl) h.2.2.2.2

theorem LineForm.placed {a : Alert} (h : a.LineForm) {p : LastTick} (hp : p = .taken → a.tickOwed = false) :
    LineForm { a with lastTick := p } := ⟨h.1, h.2.1, h.2.2.1, hp, h.2.2.2.2⟩

theorem LineForm.reset : Alert.reset.LineForm := by
  have config : configOk Alert.reset.config = true := by decide
  exact .of_level rfl rfl rfl rfl config

theorem LineForm.restart {a : Alert} (h : a.LineForm) : a.restart.LineForm := by
  have config : configOk a.restart.config = true := h.2.2.2.2
  cases hm : a.pulseMode with
  | true => exact .endPulse (a := { a with flags := 0 }) hm config
  | false =>
    have quiet : a.restart.anyEnabled = false := by simp [Alert.restart, Alert.endPulse, anyEnabled]
    exact .of_level hm quiet.symm rfl rfl config

theorem LineForm.clearFlags {a : Alert} (h : a.LineForm) (v : Word) : (a.clearFlags v).LineForm := by
  unfold Alert.clearFlags
  dsimp only
  split
  next hm => exact .of_pulse hm (h.2.1 hm) h.2.2.1 h.2.2.2.1 h.2.2.2.2
  next hm =>
    have mode := Bool.eq_false_iff.mpr hm
    exact .of_level mode rfl (h.1 mode).2 (h.notOwed mode) h.2.2.2.2

theorem LineForm.writeEnables {a : Alert} (h : a.LineForm) (c : BitVec 16) (v : Word) : (a.writeEnables c v).LineForm := by
  unfold Alert.writeEnables
  dsimp only
  split
  next hm =>
    have kept : LineForm { a with enables := v.setWidth 23 } := .of_pulse hm (h.2.1 hm) h.2.2.1 h.2.2.2.1 h.2.2.2.2
    have started : LineForm (Alert.startPulse c { a with enables := v.setWidth 23 }) := .startPulse hm h.2.2.2.2 c
    have cut : ∀ b : Alert, b.config = a.config → b.endPulse.LineForm := fun b hb =>
      .endPulse ((pulseMode_congr hb).trans hm) (hb ▸ h.2.2.2.2)
    split <;> split
    · exact started
    · exact cut _ (startPulse_config c _)
    · exact kept
    · exact cut _ rfl
  next hm =>
    have mode := Bool.eq_false_iff.mpr hm
    exact .of_level mode rfl (h.1 mode).2 (h.notOwed mode) h.2.2.2.2

theorem LineForm.writeConfig {a : Alert} (h : a.LineForm) {v : Word} (hv : configOk v = true) : (a.writeConfig v).LineForm := by
  have config : configOk (v &&& configMask) = true := (configOk_mask v).trans hv
  unfold Alert.writeConfig
  dsimp only
  split
  next hs =>
    cases hm : Alert.pulseMode { a with config := v &&& configMask } with
    | true => exact .of_pulse hm (h.2.1 (hs.trans hm)) h.2.2.1 h.2.2.2.1 config
    | false => exact .of_level hm (h.1 (hs.trans hm)).1 (h.1 (hs.trans hm)).2 (h.notOwed (hs.trans hm)) config
  · split
    next hm => exact .endPulse (a := { a with config := v &&& configMask }) hm config
    next hm =>
      exact .of_level (a := ({ a with config := v &&& configMask } : Alert).endPulse.followLevel) (Bool.eq_false_iff.mpr hm) rfl rfl rfl
        config

/-! ### The place of the last tick -/

theorem Unplaced.of_eq {a b : Alert} (h : a.Unplaced) (hb : b.lastTick = a.lastTick ∨ b.lastTick = .counted) : b.Unplaced := by
  unfold Unplaced
  obtain e | e := hb
  · rw [e]
    exact h
  · rw [e]
    exact ⟨nofun, nofun⟩

theorem writeEnables_lastTick (c : BitVec 16) (v : Word) (a : Alert) :
    (a.writeEnables c v).lastTick = a.lastTick ∨ (a.writeEnables c v).lastTick = .counted := by
  have started : ∀ b : Alert, b.lastTick = a.lastTick →
      (b.startPulse c).lastTick = a.lastTick ∨ (b.startPulse c).lastTick = .counted := fun b hb => by
    rw [startPulse_lastTick]
    split
    · exact .inr rfl
    · exact .inl hb
  unfold writeEnables
  dsimp only
  split
  · split <;> split
    · exact started _ rfl
    · exact started _ rfl
    · exact .inl rfl
    · exact .inl rfl
  · exact .inl rfl

theorem writeConfig_lastTick (v : Word) (a : Alert) : (a.writeConfig v).lastTick = a.lastTick := by
  unfold writeConfig
  dsimp only
  split
  · rfl
  · split <;> rfl

theorem clearFlags_lastTick (v : Word) (a : Alert) : (a.clearFlags v).lastTick = a.lastTick := by rw [clearFlags_eq]

/-- The end of a command that found the tick unplaced, or that has not placed it. -/
theorem commandEnds_form {a : Alert} {start : LastTick} (h : a.LineForm) (hs : start = .unplaced ∨ a.Unplaced) :
    (a.commandEnds start).LineForm ∧ (a.commandEnds start).Unplaced := by
  have placed : a.lastTick = .before ∨ a.lastTick = .after → start = .unplaced := fun hp =>
    hs.resolve_right fun hu => hp.elim hu.1 hu.2
  unfold commandEnds
  split
  next e =>
    refine ⟨h, hs.elim (fun hs => ?_) id⟩
    unfold Unplaced
    rw [e, hs]
    exact ⟨nofun, nofun⟩
  · split
    · split
      · exact ⟨h.placed nofun, ⟨nofun, nofun⟩⟩
      next ho => exact ⟨h.placed fun _ => Bool.eq_false_iff.mpr ho, ⟨nofun, nofun⟩⟩
    next hb =>
      obtain rfl := placed (.inl hb)
      exact ⟨h.placed nofun, ⟨nofun, nofun⟩⟩
    next ha =>
      obtain rfl := placed (.inr ha)
      exact ⟨h.placed nofun, ⟨nofun, nofun⟩⟩
    next hu => exact ⟨h, by rw [hu]; exact nofun, by rw [hu]; exact nofun⟩
    next ht => exact ⟨h, by rw [ht]; exact nofun, by rw [ht]; exact nofun⟩

end Alert

namespace State

/-! ### At every moment -/

/-- The form of the line; where `p` asks for it, with the last tick not placed. -/
def LineOkBut (p : Prop) (s : State) : Prop := s.alert.LineForm ∧ (p → s.alert.Unplaced)

theorem LineOkBut.congr {p : Prop} {s t : State} (h : s.LineOkBut p) (ha : t.alert = s.alert) : t.LineOkBut p := by
  unfold LineOkBut
  rwa [ha]

theorem LineOkBut.setFlag {p : Prop} {s : State} (h : s.LineOkBut p) (g : Flag) : (s.setFlag g).LineOkBut p :=
  ⟨h.1.setFlag _ g, fun hp => (h.2 hp).of_eq (Alert.setFlag_lastTick _ g _)⟩

theorem LineOkBut.placeAt {p : Prop} {s : State} (h : s.LineOkBut p) (w : Word) (n : Fin 4) (b : RecordBody) :
    (s.placeAt w n b).1.LineOkBut p := by
  have lost : ∀ u : State, u.LineOkBut p → (u.loseIn n).LineOkBut p := fun u hu =>
    LineOkBut.setFlag (s := u.setQueue n (u.queue n).lose) (hu.congr rfl) _
  unfold State.placeAt
  split
  · exact h.congr rfl
  · exact (lost _ (LineOkBut.congr (t := s.dropOldest n) h rfl)).congr rfl
  · exact lost s h

theorem effectClosed_line (p : Prop) : EffectClosed (Keeps (LineOkBut p)) :=
  effectClosed_of_free (fun _ _ _ _ ha h => h.congr ha) (fun _ g h => h.setFlag g) (fun _ w n b h => h.placeAt w n b)
    fun _ ho h => ⟨h.1.tickEnds ho, fun _ => ⟨nofun, nofun⟩⟩

/-- An effect placed in either order with ALC's tap tick: placed inside, and no longer placed at its end. -/
theorem lineOk_inTickOrder {f : State → State} (s : State)
    (hf : ∀ p q, Keeps (LineOkBut p) { s with draw := s.draw + 1, alert := { s.alert with lastTick := q } }
      (f { s with draw := s.draw + 1, alert := { s.alert with lastTick := q } })) : Keeps (LineOkBut True) s (s.inTickOrder f) := by
  intro h
  have ends : ∀ u : State, s.alert.lastTick = .unplaced ∧ u.LineOkBut False ∨ u.LineOkBut True →
      (s.endCommand u).LineOkBut True := fun u hu => by
    have done := Alert.commandEnds_form (a := u.alert) (start := s.alert.lastTick)
      (hu.elim (fun hu => hu.2.1) fun hu => hu.1) (hu.imp (fun hu => hu.1) fun hu => hu.2 trivial)
    exact ⟨done.1, fun _ => done.2⟩
  refine ends _ ?_
  split
  next hu =>
    refine .inl ⟨hu, hf False _ ⟨h.1.placed ?_, False.elim⟩⟩
    split <;> exact nofun
  · exact .inr (hf True _ h)

theorem tickClosed_line : TickClosed (Keeps (LineOkBut True)) where
  toEffectClosed := effectClosed_line True
  orderExpire s t ht := lineOk_inTickOrder s fun p _ => (effectClosed_line p).expire _ t ht
  orderOpen s hs ho := lineOk_inTickOrder s fun p _ => (effectClosed_line p).gateEnterOpen _ hs ho
  orderOwed s o := lineOk_inTickOrder s fun p _ => (effectClosed_line p).takeOwed o _
  ends s start h := by
    have done := Alert.commandEnds_form (start := start) h.1 (.inr (h.2 trivial))
    exact ⟨done.1, fun _ => done.2⟩
  ticked _ _ h := h.congr rfl
  gateTicked _ h := h.congr rfl
  alertTicked s hn h := ⟨h.1.takeTick hn, fun hp => (h.2 hp).of_eq (.inl (Alert.takeTick_lastTick s.alert))⟩
  alertTaken _ ho h := ⟨h.1.placed fun _ => ho, fun _ => ⟨nofun, nofun⟩⟩

theorem recordUpdates_line : RecordUpdates (LineOkBut True) where
  toTickClosed := tickClosed_line
  free _ _ _ _ ha h := h.congr ha
  placed _ w n b h := h.placeAt w n b
  listsCompleted s _ _ h := h.congr (mapQueues_alert s _)
  emptied s h := h.congr (mapQueues_alert s _)
  oldestRemoved _ _ h := h.congr rfl
  queueConfig _ _ _ _ h := h.congr rfl
  queueOn _ _ _ _ h := h.congr rfl
  queueOff _ _ h := h.congr rfl
  flush _ _ h := h.congr rfl
  tickBegun _ h := ⟨h.1.placed nofun, fun _ => ⟨nofun, nofun⟩⟩
  alertCleared _ h := ⟨h.1.restart, h.2⟩
  flagsCleared s v h := ⟨h.1.clearFlags v, fun hp => (h.2 hp).of_eq (.inl (Alert.clearFlags_lastTick v s.alert))⟩
  enables s v h := ⟨h.1.writeEnables _ v, fun hp => (h.2 hp).of_eq (Alert.writeEnables_lastTick _ v s.alert)⟩
  alertConfig s v hv h := ⟨h.1.writeConfig hv, fun hp => (h.2 hp).of_eq (.inl (Alert.writeConfig_lastTick v s.alert))⟩
  reset _ _ := ⟨Alert.LineForm.reset, fun _ => ⟨nofun, nofun⟩⟩

/-! ### Between commands -/

/-- The last tick is still to be placed, or has been taken. -/
def Settled (s : State) : Prop := s.alert.lastTick = .unplaced ∨ s.alert.lastTick = .taken

theorem lineOk_iff (s : State) : s.alert.LineOk ↔ s.LineOkBut True ∧ s.Settled := by
  unfold Alert.LineOk LineOkBut Alert.LineForm Alert.Unplaced Settled
  grind

theorem removeCopied_alert (s : State) : s.removeCopied.alert = s.alert := by
  unfold removeCopied
  split
  · split
    · split <;> rfl
    · rfl
  · rfl

namespace Settled

variable {s : State}

theorem of_same {t : State} (h : s.Settled) (ht : t.alert.lastTick = s.alert.lastTick) : t.Settled := by
  unfold Settled
  rwa [ht]

theorem endCommand (h : s.Settled) (u : State) : (s.endCommand u).Settled := endCommand_settled u h

theorem onPower {f : State → State} (h : s.Settled) (hf : (f s).Settled) : (s.onPower f).Settled := by
  unfold State.onPower
  split
  · exact hf
  · exact h

theorem timerExpires (h : s.Settled) (t : Fin 8) : (s.timerExpires t).Settled := by
  unfold State.timerExpires
  dsimp only
  split
  · exact h.endCommand _
  · exact h

theorem measureOverdue (h : s.Settled) (t : Fin 8) : (s.measureOverdue t).Settled := by
  unfold State.measureOverdue
  dsimp only
  split
  · exact h.endCommand _
  · exact h

theorem gateEndHoldOff (h : s.Settled) : s.gateEndHoldOff.Settled := by
  unfold State.gateEndHoldOff
  split
  · exact h.endCommand _
  · exact h

theorem settleOwed (h : s.Settled) : s.settleOwed.Settled := by
  unfold State.settleOwed
  split
  · exact h
  · exact h.endCommand _

theorem tickIfRunning (h : s.Settled) : s.tickIfRunning.Settled := by
  unfold State.tickIfRunning
  split
  · exact endCommand_settled _ (.inl rfl)
  · exact h

theorem pinChanges (h : s.Settled) (e : Fin 2) (c : PinChange) : (s.pinChanges e c).Settled := by
  unfold State.pinChanges State.changePin
  split
  · exact h
  · exact h.endCommand _

theorem written {u : State} (h : s.Settled) (hw : WriteEffect s u) : u.Settled := by
  cases hw with
  | timestamp v _ => exact h.settleOwed
  | held | released | enables v | restarted _ => exact h.endCommand _
  | flagsCleared v => exact h.of_same (Alert.clearFlags_lastTick v _)
  | alertConfig v _ => exact h.of_same (Alert.writeConfig_lastTick v _)
  | _ => exact h

theorem word {u : State} (h : s.Settled) (hw : WordDone s u) : u.Settled := by
  cases hw with
  | none | refused => exact h
  | done a left st mark u _ _ he _ =>
    have written : u.Settled := Settled.written (s := s.setFrame (.data .write (a + 1) left)) h he
    exact written

theorem meetAll (h : s.Settled) (bs : List Between) : (s.meetAll bs).Settled := by
  induction bs generalizing s with
  | nil => exact h
  | cons b bs ih =>
    refine ih (s := s.meet b) ?_
    cases b with
    | expiry t => exact h.onPower (h.timerExpires t)
    | overdue t => exact h.onPower (h.measureOverdue t)
    | pin e c => exact h.pinChanges e c
    | tick => exact h.onPower h.tickIfRunning
    | enable r => exact h.onPower (h.word (.enableWrite r))
    | disable r => exact h.onPower (h.word (.disableWrite r))
    | inside m | atEnd m => exact h

theorem thenChanges (h : s.Settled) (p : State × Changes) : (s.thenChanges p).Settled := by
  unfold State.thenChanges
  dsimp only
  split
  · exact h.endCommand _
  · rw [afterDecision_rulesOnly]
    exact (h.endCommand p.1).meetAll p.2.between

theorem whenPowered {f : State → State} {t : State} (h : s.Settled) (hf : (f s).Settled)
    (ht : Machine.whenPowered f s = .next t) : t.Settled := by
  obtain rfl : s.onPower f = t := Host.Outcome.next.inj ht
  exact h.onPower hf

theorem makeCopy (h : s.Settled) (k : WindowKind) (n : Fin 4) : (s.makeCopy k n).Settled := by
  unfold State.makeCopy
  split
  · split
    · exact h.of_same (congrArg Alert.lastTick (removeCopied_alert s))
    · exact h
  · exact h

theorem tearSave (h : s.Settled) (r : SaveResult) : (s.tearSave r).Settled := by
  unfold State.tearSave
  split <;> exact h

/-- Every command ends with the last tick in one of the places that stand between commands. -/
theorem exec {i : Instr} {t : State} (h : s.Settled) (ht : exec i s = .next t) : t.Settled := by
  have inj : ∀ {u : State}, (.next u : Result) = .next t → u.Settled → t.Settled := fun e hu => Host.Outcome.next.inj e ▸ hu
  cases i with
  | upstreamRequest r =>
    have hx : Machine.exec (.upstreamRequest r) s = execUpstreamRequest r s := rfl
    rw [hx, execUpstreamRequest] at ht
    split at ht
    · exact absurd ht nofun
    · refine inj ht ?_
      split
      · exact h
      · exact h.thenChanges _
  | heldRequestTaken => exact inj ht (h.thenChanges _)
  | prereadComplete c => exact inj ht (h.thenChanges _)
  | forwardComplete c | responseLimitExpiry | secondLimitExpiry =>
    refine h.whenPowered ?_ ht
    split
    · exact h.endCommand _
    · exact h
  | strayCompletion c =>
    refine h.whenPowered ?_ ht
    split <;> exact h
  | urstAssert =>
    refine inj ht ?_
    split <;> exact h
  | requestWithdrawn | completionIgnored | urstDeassert | scsNRise | rstDeassert => exact inj ht h
  | powerOnReset => exact inj ht (.inr rfl)
  | partReset =>
    refine inj ht ?_
    split
    · exact .inr rfl
    · exact h
  | loadingEnd =>
    refine h.whenPowered ?_ ht
    split
    · exact h.endCommand _
    · exact h
  | tick => exact h.whenPowered h.tickIfRunning ht
  | timerExpiry c => exact h.whenPowered (h.timerExpires c) ht
  | measureOverdue c => exact h.whenPowered (h.measureOverdue c) ht
  | evPinChange e c => exact inj ht (h.pinChanges e c)
  | pfailAssert =>
    refine inj ht ?_
    dsimp only
    split
    · exact h
    · split
      · exact Settled.endCommand (s := { s with pins := { s.pins with pfail := true } }) h _
      · exact h
  | pfailDeassert =>
    refine inj ht ?_
    dsimp only
    split
    · split
      · exact Settled.endCommand (s := { s with pins := { s.pins with pfail := false } }) h _
      · exact h
    · exact h
  | gateDrainEnd => exact h.whenPowered (f := fun s => s.endCommand s.gateEndDrain) (h.endCommand _) ht
  | gateHoldOffEnd => exact h.whenPowered h.gateEndHoldOff ht
  | alertPulseEnd =>
    refine h.whenPowered ?_ ht
    split
    · exact .inr rfl
    · exact h
  | serviceFrameHeader kind a count =>
    refine inj ht ?_
    dsimp only
    split
    · exact h
    · split
      · unfold beginFrame
        split
        · exact h
        · cases kind <;> exact h
      · exact h
  | popWindowRead n => exact h.whenPowered (h.makeCopy .pop n) ht
  | peek n => exact h.whenPowered (h.makeCopy .peek n) ht
  | popRemove n =>
    refine h.whenPowered ?_ ht
    split
    · exact h.of_same (congrArg Alert.lastTick (removeCopied_alert s))
    · exact h
  | saveEnd =>
    refine h.whenPowered ?_ ht
    unfold endSave
    split <;> exact h
  | restartTakesEffect =>
    refine h.whenPowered ?_ ht
    split
    · exact h.endCommand _
    · exact h
  | lossOfPower => exact inj ht (h.tearSave .none)
  | _ => exact h.word (wordDone_of_exec rfl ht)

end Settled

theorem Settled.step {s t : State} (h : s.Settled) (ht : Machine.step s = .next t) : t.Settled := by
  unfold Machine.step at ht
  split at ht
  · obtain rfl := Host.Outcome.next.inj ht
    obtain ⟨b, f, d, e⟩ := idle_frame s
    rw [e]
    exact h
  next rest _ => exact Settled.exec (s := { s with pending := rest }) h ht

/-- Loading finds the controller at its reset value, so no flag is set and no pulse is in progress (R172, R184). -/
theorem lineOk_loaded {s : State} (hs : s.alert = Alert.reset) (i : Image) :
    ((s.loadConfiguration i).loadStarts i).LineOkBut True := by
  have alert : ((s.loadConfiguration i).loadStarts i).alert = (s.loadConfiguration i).alert := by
    have turned : ∀ (u : State) (n : Fin 4), (loadQueueOn i u n).alert = u.alert := fun u n => by
      unfold loadQueueOn queueTurnOn
      dsimp only
      split
      · split
        · split <;> rfl
        · split
          · split <;> rfl
          · split <;> rfl
      · rfl
    have queues : (allQueues.foldl (loadQueueOn i) (s.loadConfiguration i)).alert = (s.loadConfiguration i).alert :=
      foldl_frame (R := fun s t => t.alert = s.alert) (fun _ => rfl) (fun h h' => h'.trans h) turned _ _
    simp only [loadStarts]
    exact queues
  refine LineOkBut.congr (s := s.loadConfiguration i) ?_ alert
  unfold LineOkBut
  rw [loadConfiguration_alert, hs]
  have config : Alert.configOk (if Alert.configOk i.alert then i.alert &&& Alert.configMask else Alert.reset.config) = true := by
    split
    next h => exact (Alert.configOk_mask i.alert).trans h
    · exact Alert.LineForm.reset.2.2.2.2
  refine ⟨?_, fun _ => ⟨nofun, nofun⟩⟩
  generalize (if Alert.configOk i.alert then i.alert &&& Alert.configMask else Alert.reset.config) = c at config
  have quiet : Alert.anyEnabled { Alert.reset with enables := i.alertEnables, config := c } = false := by
    simp [Alert.anyEnabled, Alert.reset]
  exact ⟨fun _ => ⟨quiet.symm, rfl⟩, fun _ => ⟨nofun, fun h => absurd rfl h⟩, nofun, fun _ => rfl, config⟩

end State

/-- Settles O59: the form of the line at every moment, and the place of the last tick at the end of every command. -/
theorem lineFollowsFlagsOrPulse : Obligations.LineFollowsFlagsOrPulse := by
  intro s t hl h ht
  obtain ⟨form, settled⟩ := (State.lineOk_iff s).mp h
  refine (State.lineOk_iff t).mpr ⟨?_, settled.step ht⟩
  exact State.recordUpdates_line.steps.step (fun _ => id)
    (fun l hload _ => State.recordUpdates_line.endLoading _ fun i => State.lineOk_loaded (s := { s with pending := l })
      (hl hload).2.2.2.2.2.2.2.2.2.2.2.2.2.1 i) ht form

end Sys2Proof.Machine
end

section
/-! The transaction in flight (R57, R63, R65, R82, R160): what each command does to the path, to the marker of a write in flight, and to
the PENDING records. Commands outside the path are calm; a taken transaction goes on, is decided, or is over. -/

namespace Sys2Proof.Machine

/-! ### Calm commands -/

/-- The path outside a transaction's own commands: the transaction and its phase stay, and the port changes only where none is in
flight. -/
structure Path.Quiet (p q : Path) : Prop where
  phase : q.phase = p.phase
  txn : q.txn = p.txn
  abandoned : q.abandoned = p.abandoned ∨ q.abandoned = false ∨ p.phase ≠ .idle
  port : q.port = p.port ∧ q.limitTimer = p.limitTimer ∨
    (p.port ≠ .busy ∨ p.phase = .idle) ∧ (q.port = .ready ∨ q.port = .down) ∧ q.limitTimer = none

theorem Path.Quiet.refl (p : Path) : p.Quiet p := ⟨rfl, rfl, .inl rfl, .inl ⟨rfl, rfl⟩⟩

theorem Path.Quiet.trans {p q r : Path} (h : p.Quiet q) (h' : q.Quiet r) : p.Quiet r where
  phase := h'.phase.trans h.phase
  txn := h'.txn.trans h.txn
  abandoned := by
    have e := h.phase
    obtain ha | ha | ha := h'.abandoned
    · rw [ha]
      exact h.abandoned
    · exact .inr (.inl ha)
    · exact .inr (.inr (e ▸ ha))
  port := by
    obtain ⟨e1, e2⟩ | ⟨hn, hp⟩ := h'.port
    · rw [e1, e2]
      exact h.port
    · refine .inr ⟨?_, hp⟩
      obtain ⟨e1, _⟩ | ⟨hb, _⟩ := h.port
      · rwa [← e1, ← h.phase]
      · exact hb

/-- The port leaves LATE or DOWN with no transaction in flight (R67, R69). -/
theorem Path.Quiet.left {p q : Path} (hphase : q.phase = p.phase) (htxn : q.txn = p.txn) (ha : q.abandoned = p.abandoned)
    (hb : p.port ≠ .busy ∨ p.phase = .idle) (hq : q.port = .ready ∨ q.port = .down) (ht : q.limitTimer = none) : p.Quiet q :=
  ⟨hphase, htxn, .inl ha, .inr ⟨hb, hq, ht⟩⟩

namespace State

/-- Nothing happens to the transaction in flight, its marker, or the records that are not PENDING. -/
structure Calm (s t : State) : Prop where
  path : s.path.Quiet t.path
  marker : t.gate.inFlight = s.gate.inFlight
  pending : s.NonePending → t.NonePending

theorem Calm.refl (s : State) : Calm s s := ⟨.refl _, rfl, id⟩

theorem Calm.trans {s t u : State} (h : Calm s t) (h' : Calm t u) : Calm s u :=
  ⟨h.path.trans h'.path, h'.marker.trans h.marker, h'.pending ∘ h.pending⟩

theorem Calm.of_eq {s t : State} (hp : t.path = s.path) (hg : t.gate = s.gate) (hq : t.queues = s.queues) : Calm s t := by
  refine ⟨?_, by rw [hg], fun h n => by rw [queue_congr hq]; exact h n⟩
  rw [hp]
  exact .refl _

/-- The path moves, and nothing else. -/
theorem Calm.of_path {s t : State} (hp : s.path.Quiet t.path) (hg : t.gate = s.gate) (hq : t.queues = s.queues) : Calm s t :=
  ⟨hp, by rw [hg], fun h n => by rw [queue_congr hq]; exact h n⟩

/-! ### PENDING records -/

theorem pendingCount_eq_zero_iff (q : Queue) : q.pendingCount = 0 ↔ ∀ r ∈ q.list, r.isPending = false := by
  simp [Queue.pendingCount]

theorem isPending_of_not_access {k : Nat} {w : Word} {b : RecordBody} (hb : ∀ a, b ≠ .access a) :
    Record.isPending ⟨k, w, b⟩ = false := by
  cases b with
  | access a => exact absurd rfl (hb a)
  | _ => rfl

theorem nonePending_setQueue {s : State} (h : s.NonePending) {n : Fin 4} {q : Queue} (hq : q.list.Sublist (s.queue n).list) :
    (s.setQueue n q).NonePending :=
  forall_queue_setQueue (Q := fun q => q.pendingCount = 0) h
    ((pendingCount_eq_zero_iff q).mpr fun r hr => (pendingCount_eq_zero_iff _).mp (h n) r (hq.subset hr))

theorem nonePending_loseIn {s : State} (h : s.NonePending) (n : Fin 4) : (s.loseIn n).NonePending :=
  nonePending_setQueue (n := n) (q := (s.queue n).lose) h (.refl _)

theorem nonePending_append {s : State} (h : s.NonePending) (w : Word) (n : Fin 4) {b : RecordBody} (hb : ∀ a, b ≠ .access a) :
    (s.append w n b).NonePending := fun m => by
  rw [append_queue]
  split
  · refine (pendingCount_eq_zero_iff _).mpr fun r hr => ?_
    obtain hr | hr := List.mem_append.mp hr
    · exact (pendingCount_eq_zero_iff _).mp (h n) r hr
    · obtain rfl := List.mem_singleton.mp hr
      exact isPending_of_not_access hb
  · exact h m

theorem nonePending_placeAt {s : State} (h : s.NonePending) (w : Word) (n : Fin 4) {b : RecordBody} (hb : ∀ a, b ≠ .access a) :
    (s.placeAt w n b).1.NonePending := by
  unfold placeAt
  split
  · exact nonePending_append h w n hb
  · exact nonePending_append (nonePending_loseIn (nonePending_setQueue h (List.tail_sublist _)) n) w n hb
  · exact nonePending_loseIn h n

/-! ### What is calm -/

theorem Calm.placeAt (s : State) (w : Word) (n : Fin 4) {b : RecordBody} (hb : ∀ a, b ≠ .access a) : Calm s (s.placeAt w n b).1 := by
  have frame := placeAt_frame s w n b
  refine ⟨?_, by rw [frame.gate], fun h => nonePending_placeAt h w n hb⟩
  rw [frame.path]
  exact .refl _

theorem effectClosed_calm : EffectClosed Calm where
  refl := .refl
  trans := .trans
  draw _ := .of_eq rfl rfl rfl
  flag _ _ := .of_eq rfl rfl rfl
  place s n _ hb := .placeAt s _ n hb
  arm s _ := .of_eq (mapRules_path s _) (mapRules_gate s _) (mapRules_queues s _)
  disarm s _ := .of_eq (mapRules_path s _) (mapRules_gate s _) (mapRules_queues s _)
  windows s _ := .of_eq (mapRules_path s _) (mapRules_gate s _) (mapRules_queues s _)
  expired _ _ _ := .of_eq rfl rfl rfl
  triggered _ _ := .of_eq rfl rfl rfl
  sampled _ _ _ _ := .of_eq rfl rfl rfl
  counted _ _ := .of_eq rfl rfl rfl
  stamped _ _ := .of_eq rfl rfl rfl
  reopened _ _ _ := ⟨.refl _, rfl, id⟩
  pulseEnded _ _ := .of_eq rfl rfl rfl

theorem takeTick_inFlight (g : Gate) : g.takeTick.inFlight = g.inFlight := by
  unfold Gate.takeTick
  split
  · rfl
  · split <;> rfl

theorem momentClosed_calm : MomentClosed Calm where
  toTickClosed := effectClosed_calm.ticks (fun _ _ => .of_eq rfl rfl rfl) (fun _ _ => .of_eq rfl rfl rfl)
    fun s => ⟨.refl _, takeTick_inFlight s.gate, id⟩
  tick _ _ := .of_eq rfl rfl rfl
  pin _ _ _ := .of_eq rfl rfl rfl

namespace Calm

/-! The gate has a cause arrive, ends a drain or leaves CLOSED: its marker stays. -/

theorem enterOpen (s : State) : Calm s s.gateEnterOpen :=
  Calm.trans (t := { s with gate := { s.gate with state := .opened, powerSeen := false, holdOff := 0, tickOwed := false } })
    ⟨.refl _, rfl, id⟩ (effectClosed_calm.offerTo _ _ _ nofun)

theorem enterClosed (s : State) : Calm s s.gateEnterClosed :=
  Calm.trans (t := { s with gate := { s.gate with state := .closed, refused := 0 } }) ⟨.refl _, rfl, id⟩
    ((effectClosed_calm.flag _ _).trans (effectClosed_calm.offerTo _ _ _ nofun))

theorem leaveClosed (s : State) : Calm s s.gateLeaveClosed := by
  unfold gateLeaveClosed
  split
  · split
    · exact ⟨.refl _, rfl, id⟩
    · exact enterOpen s
  · exact .refl s

theorem causeArrival (s : State) : Calm s s.gateCauseArrival := by
  unfold gateCauseArrival
  split
  · split
    · exact ⟨.refl _, rfl, id⟩
    · exact enterClosed s
  · exact ⟨.refl _, rfl, id⟩
  · exact .refl s

theorem endDrain (s : State) : Calm s s.gateEndDrain := by
  unfold gateEndDrain
  split
  · exact (enterClosed s).trans (leaveClosed _)
  · exact .refl s

theorem setHold (s : State) : Calm s s.gateSetHold := by
  unfold gateSetHold
  split
  · exact .refl s
  · exact Calm.trans (t := { s with gate := { s.gate with hold := true } }) ⟨.refl _, rfl, id⟩ (causeArrival _)

theorem clearHold (s : State) : Calm s s.gateClearHold := by
  unfold gateClearHold
  split
  · exact Calm.trans (t := { s with gate := { s.gate with hold := false } }) ⟨.refl _, rfl, id⟩ (leaveClosed _)
  · exact .refl s

theorem pfailAssert (s : State) : Calm s s.gatePfailAssert :=
  Calm.trans (t := { s with gate := { s.gate with pfail := true, powerSeen := true } }) ⟨.refl _, rfl, id⟩ (causeArrival _)

theorem pfailDeassert (s : State) : Calm s s.gatePfailDeassert :=
  Calm.trans (t := { s with gate := { s.gate with pfail := false } }) ⟨.refl _, rfl, id⟩ (leaveClosed _)

theorem ends (s u : State) : Calm u (s.endCommand u) := .of_eq rfl rfl rfl

theorem onPower {f : State → State} (hf : ∀ s, Calm s (f s)) (s : State) : Calm s (s.onPower f) := momentClosed_calm.onPower hf s

/-- RESTART with no transaction in flight (R54, R76). -/
theorem restartEffect {s : State} (hs : s.path.phase = .idle) : Calm s s.restartEffect := by
  have cleared : ∀ u : State, u.path.phase = .idle → Calm u { u with path := u.path.restart, alert := u.alert.restart } := fun u hu =>
    .of_path (.left rfl rfl rfl (.inr hu) (.inl rfl) rfl) rfl rfl
  have queues : ∀ u : State, Calm u u.restartQueues := fun u => by
    refine ⟨?_, by rw [restartQueues, mapQueues_gate], fun _ n => ?_⟩
    · rw [restartQueues, mapQueues_path]
      exact .refl _
    · rw [restartQueues, queue_mapQueues]
      rfl
  have rules : ∀ u : State, Calm u (u.mapRules fun _ x => x.restart) := fun u =>
    .of_eq (mapRules_path u _) (mapRules_gate u _) (mapRules_queues u _)
  have timers : ∀ u : State, Calm u (u.mapTimers fun _ ch => ch.restart) := fun u =>
    .of_eq (mapTimers_path u _) (mapTimers_gate u _) (mapTimers_queues u _)
  have inputs : ∀ (u : State) (pin : Fin 2 → Bool), Calm u (u.mapInputs fun e i => i.restart (pin e)) := fun u pin =>
    .of_eq (mapInputs_path u _) (mapInputs_gate u _) (mapInputs_queues u _)
  have settled : ∀ u : State, Calm u u.settlePending := fun u => by
    unfold settlePending
    split
    · exact .of_eq rfl rfl rfl
    · exact .refl u
  have drained := endDrain s
  unfold State.restartEffect
  dsimp only
  refine .trans (.trans ?_ ((settled _).trans (clearHold _))) (ends s _)
  exact (drained.trans (cleared _ (drained.path.phase.trans hs))).trans
    (((queues _).trans (rules _)).trans ((timers _).trans (inputs _ _)))

theorem setQueue (s : State) (n : Fin 4) {q : Queue} (hq : q.list.Sublist (s.queue n).list) : Calm s (s.setQueue n q) :=
  ⟨.refl _, rfl, fun h => nonePending_setQueue h hq⟩

theorem written {s u : State} (h : WriteEffect s u) : Calm s u := by
  cases h with
  | limit v hv => exact .of_path ⟨rfl, rfl, .inl rfl, .inl ⟨rfl, rfl⟩⟩ rfl rfl
  | restartHeld => exact .of_path ⟨rfl, rfl, .inl rfl, .inl ⟨rfl, rfl⟩⟩ rfl rfl
  | portReset hd => exact .of_path (.left rfl rfl rfl (.inl (by rw [hd]; exact nofun)) (.inl rfl) rfl) rfl rfl
  | restarted hs => exact restartEffect hs
  | queueConfig n v => exact setQueue s n (.refl _)
  | queueOn n => exact setQueue s n (List.nil_sublist _)
  | queueOff n => exact setQueue s n (List.nil_sublist _)
  | flush n => exact setQueue s n List.filter_sublist
  | timestamp v => exact (momentClosed_calm.settleOwed s).trans (.of_eq rfl rfl rfl)
  | held => exact (setHold s).trans (ends _ _)
  | released => exact (clearHold s).trans (ends _ _)
  | gateConfig v hv => exact ⟨.refl _, rfl, id⟩
  | _ => exact .of_eq rfl rfl rfl

theorem word {s u : State} (h : WordDone s u) : Calm s u := by
  cases h with
  | none => exact .refl s
  | refused => exact .of_eq rfl rfl rfl
  | done a left st mark u _ _ he _ =>
    exact Calm.trans (Calm.trans (t := s.setFrame (.data .write (a + 1) left)) (.of_eq rfl rfl rfl) (written he))
      (.of_eq rfl rfl rfl)

theorem removeCopied (s : State) : Calm s s.removeCopied := by
  unfold State.removeCopied
  split
  · split
    · split
      · exact setQueue s _ (List.tail_sublist _)
      · exact .refl s
    · exact .refl s
  · exact .refl s

theorem makeCopy (s : State) (k : WindowKind) (n : Fin 4) : Calm s (s.makeCopy k n) := by
  unfold State.makeCopy
  split
  · split
    · exact (removeCopied s).trans (.of_eq rfl rfl rfl)
    · exact .refl s
  · exact .refl s

theorem tearSave (s : State) (r : SaveResult) : Calm s (s.tearSave r) := by
  unfold State.tearSave
  split
  · exact .of_eq rfl rfl rfl
  · exact .refl s

theorem beginFrame (s : State) (kind : HeaderKind) (a : ServiceAddr) (count : BitVec 8) : Calm s (s.beginFrame kind a count) := by
  unfold State.beginFrame
  split
  · exact .of_eq rfl rfl rfl
  · cases kind <;> exact .of_eq rfl rfl rfl

/-- What comes after a decision is calm: what falls before its changes, and the changes (R45). -/
theorem thenChanges (s : State) (p : State × Changes) : Calm p.1 (s.thenChanges p) := by
  unfold State.thenChanges
  dsimp only
  split
  · exact ends s p.1
  · rw [afterDecision_rulesOnly]
    exact ((ends s p.1).trans (momentClosed_calm.meetAll (fun _ r => word (.enableWrite r)) (fun _ r => word (.disableWrite r))
      p.2.between _)).trans (.of_eq rfl rfl rfl)

end Calm

end State

end Sys2Proof.Machine
end

section
/-! What each command does to the transaction in flight, and with it the agreement of phase, port, timer and markers (R57, R65) and the
place of the PENDING records (R82). -/

namespace Sys2Proof.Machine

namespace State

/-! ### What becomes of a transaction -/

/-- A transaction that stood at `u` is over, has entered PREREAD, or has entered FORWARD. -/
inductive Went (u v : State) : Prop where
  | ended (a : Option Answer) : v.path = u.path.finish a → v.gate.inFlight = u.gate.inFlight →
      (u.NonePending → v.NonePending) → Went u v
  | preread (x : Txn) : v.path = u.path.begin .preread x → v.gate.inFlight = u.gate.inFlight →
      (u.NonePending → v.NonePending) → Went u v
  | forward (x : Txn) : v.path = u.path.begin .forward x →
      v.gate.inFlight = (x.kind == .write || u.gate.inFlight) → Went u v

theorem decision_inFlight (x : Txn) (before : Option Word) (sub : Bool) (u : State) :
    (u.decision x before sub).state.gate.inFlight = u.gate.inFlight := by
  have moments : MomentClosed (Keeps fun s => s.gate.inFlight = u.gate.inFlight) :=
    momentClosed_gate (P := fun g => g.inFlight = u.gate.inFlight) (fun _ _ h => h) fun g h => (takeTick_inFlight g).trans h
  refine moments.decision (fun t before sub a d vs k w s h => ?_) x before sub u ?_
  · have kept : (s.reserve t before sub a d vs k w).1.gate.inFlight = s.gate.inFlight := by
      rw [reserve_gate]
      unfold consulted
      split <;> rfl
    exact kept.trans h
  · exact congrArg Gate.inFlight (gate_hits _ u)

/-- The records of a transaction that ends at its decision are complete when the decision is over (R91). -/
theorem decision_nonePending (x : Txn) (before : Option Word) (sub : Bool) (u : State) :
    (u.decision x before sub).verdict = .forward ∨ (u.decision x before sub).state.NonePending := by
  refine momentClosed_calm.decision_result (Q := fun s v => v = .forward ∨ s.NonePending)
    (fun _ _ _ hst h => h.imp_right hst.pending) before sub (fun a d vs k w s => ?_) u
  have consulted : ∀ (v : Verdict) (s : State), s.NonePending → (s.consulted v).NonePending := fun v s h => by
    unfold State.consulted
    split <;> exact h
  unfold reserve
  dsimp only
  split
  next hv => exact .inl hv
  · exact .inr (consulted _ _ (completeAll_pendingCount _ _ _ _))

theorem went_carryOut {u v : State} (x : Txn) (w : Verdict) (hp : v.path = u.path) (hg : v.gate.inFlight = u.gate.inFlight)
    (hn : w = .forward ∨ v.NonePending) : Went u (v.carryOut x w) := by
  cases w with
  | ended o a => exact .ended (some a) (congrArg (Path.finish (some a)) hp) hg fun _ => hn.resolve_left nofun
  | forward =>
    have begun := congrArg (Path.begin .forward { x with between := afterDeciding x.between }) hp
    unfold carryOut
    dsimp only
    split
    next hk => exact .forward _ begun (by simp [hk])
    next hk =>
      have read : (x.kind == .write) = false := beq_eq_false_iff_ne.mpr hk
      exact .forward _ begun (by simp [read, hg])

theorem went_decided (u : State) (x : Txn) (before : Option Word) (sub : Bool) : Went u (u.decideAndCarryOut x before sub).1 :=
  went_carryOut x _ (decision_momentFrame x before sub u).path (decision_inFlight x before sub u) (decision_nonePending x before sub u)

theorem went_started (u : State) (x : Txn) : Went u (u.startTxn x).1 := by
  unfold startTxn
  split
  · exact .ended _ rfl rfl id
  · split
    · split
      · exact went_decided u x none true
      · exact .preread x rfl rfl id
    · exact went_decided u x none false

/-- A taking first ends a drain that is due (R155). -/
theorem calm_taking (s : State) : Calm s { s.gateEndDrain with path := { s.gateEndDrain.path with
    number := s.gateEndDrain.path.number + 1, held := none, abandoned := false, answer := none } } :=
  (Calm.endDrain s).trans (.of_path ⟨rfl, rfl, .inr (.inl rfl), .inl ⟨rfl, rfl⟩⟩ rfl rfl)

/-! ### The parts at the end of a forward -/

theorem calm_faultRecord (t : Txn) (s : State) : Calm s (s.offerTo s.path.recordQueue (.pathFault .timeout t.number t.addr)) :=
  effectClosed_calm.offerTo s _ (.pathFault .timeout t.number t.addr) nofun

theorem takeEndParts_nonePending (t : Txn) (o : TxnOutcome) (d : Option Word) (l : List EndPart) (s : State)
    (h : .complete ∈ l ∨ s.NonePending) : (takeEndParts t o d l s).NonePending := by
  induction l generalizing s with
  | nil => exact h.resolve_left nofun
  | cons p ps ih =>
    have later : ∀ p : EndPart, p ≠ .complete → .complete ∈ p :: ps → .complete ∈ ps := fun p hp hm =>
      (List.mem_cons.mp hm).resolve_left (Ne.symm hp)
    cases p with
    | complete => exact ih _ (.inr (completeAll_pendingCount s _ o d))
    | fault => exact ih _ (h.imp (later .fault nofun) (calm_faultRecord t s).pending)
    | meet m => exact ih _ (h.imp (later (.meet m) nofun) (momentClosed_calm.takeMeeting m s).pending)
    | drain =>
      cases ps with
      | nil => exact h.resolve_left fun hm => absurd (later .drain nofun hm) nofun
      | cons q qs => exact ih _ (h.imp (later .drain nofun) (Calm.endDrain s).pending)

theorem takeEndParts_inFlight (t : Txn) (o : TxnOutcome) (d : Option Word) (l : List EndPart) (s : State) :
    (takeEndParts t o d l s).gate.inFlight = s.gate.inFlight := by
  induction l generalizing s with
  | nil => rfl
  | cons p ps ih =>
    cases p with
    | complete => exact (ih _).trans (congrArg Gate.inFlight (completeAll_frame s _ o d).gate)
    | fault => exact (ih _).trans (calm_faultRecord t s).marker
    | meet m => exact (ih _).trans (momentClosed_calm.takeMeeting m s).marker
    | drain =>
      cases ps with
      | nil => rfl
      | cons q qs => exact (ih _).trans (Calm.endDrain s).marker

theorem gateToldEnd_inFlight (t : Txn) (s : State) :
    (s.gateToldEnd t).gate.inFlight = (t.kind != .write && s.gate.inFlight) := by
  unfold gateToldEnd
  split
  next h => simp [h]
  next h =>
    have : (t.kind != .write) = true := bne_iff_ne.mpr h
    rw [this, Bool.true_and]

theorem gateToldEnd_queues (t : Txn) (s : State) : (s.gateToldEnd t).queues = s.queues := by
  unfold gateToldEnd
  split <;> rfl

theorem calm_flagMemErr (c : Completion) (s : State) : Calm s (s.flagMemErr c) := by
  cases c with
  | ok w => exact .refl s
  | memErr => exact .of_eq rfl rfl rfl

/-! ### Every command -/

/-- What a command does to the transaction in flight. -/
inductive TxnStep (s t : State) : Prop where
  | calm : Calm s t → TxnStep s t
  | taken (u v : State) : s.path.phase = .idle → Calm s u → Went u v → Calm v t → TxnStep s t
  | prereadEnded (u v : State) : s.path.phase = .preread → u.path = s.path.accessDone → u.gate.inFlight = s.gate.inFlight →
      (s.NonePending → u.NonePending) → Went u v → Calm v t → TxnStep s t
  | forwardEnded (x : Txn) (a : Option Answer) : s.path.phase = .forward → s.path.txn = some x →
      t.path = s.path.accessDone.finish a → t.gate.inFlight = (x.kind != .write && s.gate.inFlight) → t.NonePending → TxnStep s t
  | expired (x : Txn) (a : Option Answer) : s.path.port = .busy → s.path.txn = some x → t.path = (s.path.late x).finish a →
      t.gate.inFlight = ((s.path.phase != .forward || x.kind != .write) && s.gate.inFlight) →
      (s.path.phase = .forward ∨ s.NonePending → t.NonePending) → TxnStep s t
  | loaded : s.store.state = .loading → s.path.Quiet t.path → t.gate.inFlight = false → (s.NonePending → t.NonePending) → TxnStep s t
  | reset : t.path = s.path.resetKeepHeld → t.gate.inFlight = false → t.NonePending → TxnStep s t

namespace TxnStep

variable {s : State}

theorem take {u : State} (hs : s.path.phase = .idle) (hu : Calm s u) (r : Request) : TxnStep s (s.thenChanges (u.take r)) :=
  .taken _ _ hs (hu.trans (calm_taking u)) (went_started _ _) (Calm.thenChanges s _)

theorem canTake_phase (h : s.canTake = true) : s.path.phase = .idle := by
  simp only [canTake, Bool.and_eq_true, beq_iff_eq] at h
  exact h.1

theorem undecided {u : State} (h : Calm s u) : TxnStep s (s.thenChanges u.undecided) := .calm (h.trans (Calm.thenChanges s u.undecided))

theorem present (r : Request) : TxnStep s (s.thenChanges (s.present r)) := by
  have asked : Calm s { s with path := { s.path with answer := none } } :=
    .of_path ⟨rfl, rfl, .inl rfl, .inl ⟨rfl, rfl⟩⟩ rfl rfl
  unfold State.present
  dsimp only
  split
  next hc => exact take (s := s) (canTake_phase (s := { s with path := { s.path with answer := none } }) hc) asked r
  · exact undecided (asked.trans (.of_path ⟨rfl, rfl, .inl rfl, .inl ⟨rfl, rfl⟩⟩ rfl rfl))

theorem takeHeld : TxnStep s (s.thenChanges s.takeHeld) := by
  unfold State.takeHeld
  split
  · split
    next hc => exact take (canTake_phase hc) (.refl s) _
    · exact undecided (.refl s)
  · exact undecided (.refl s)

theorem completePreread (c : Completion) : TxnStep s (s.thenChanges (s.completePreread c)) := by
  unfold State.completePreread
  split
  next hp hph ht =>
    have flagged := calm_flagMemErr c { s with path := s.path.accessDone }
    have step : ∀ p : State × Changes, Went ({ s with path := s.path.accessDone }.flagMemErr c) p.1 →
        TxnStep s (s.thenChanges p) := fun p hp =>
      .prereadEnded _ _ hph (flagMemErr_path c _) flagged.marker (fun h => flagged.pending h) hp (Calm.thenChanges s p)
    unfold State.prereadEnds
    dsimp only
    split
    · exact step _ (.ended none rfl rfl id)
    · cases c with
      | memErr => exact step _ (.ended _ rfl rfl id)
      | ok w => exact step _ (went_decided _ _ _ _)
  · exact undecided (.refl s)

theorem forwardComplete {x : Txn} (hph : s.path.phase = .forward) (hx : s.path.txn = some x) (c : Completion) :
    TxnStep s (s.endCommand (s.forwardEnds x c)) := by
  obtain ⟨a, hpath⟩ := forwardEnds_path x c s
  refine .forwardEnded x a hph hx hpath ?_ ?_
  · refine (takeEndParts_inFlight x _ _ _ _).trans ((gateToldEnd_inFlight x _).trans ?_)
    rw [(calm_flagMemErr c _).marker]
  · exact takeEndParts_nonePending x _ _ _ _ (.inl ((mem_orderParts _ _ _ _).mpr List.mem_cons_self))

theorem limitExpiry {x : Txn} (hport : s.path.port = .busy) (hx : s.path.txn = some x) :
    TxnStep s (s.endCommand (s.limitExpires x)) := by
  by_cases hf : s.path.phase = .forward
  · have forward : (s.path.phase == .forward) = true := beq_iff_eq.mpr hf
    refine .expired x (s.endAnswer .error) hport hx ?_ ?_ fun _ => ?_
    · unfold limitExpires
      simp only [forward, if_true]
      exact congrArg (Path.finish _) ((raceEndParts_momentFrame x _ _ _ _).path.trans (gateToldEnd_path x _))
    · unfold limitExpires
      simp only [hf, bne_self_eq_false, Bool.false_or]
      exact (takeEndParts_inFlight x _ _ _ _).trans (gateToldEnd_inFlight x _)
    · unfold limitExpires
      simp only [forward, if_true]
      exact takeEndParts_nonePending x _ _ _ _ (.inl ((mem_orderParts _ _ _ _).mpr List.mem_cons_self))
  · have forward : (s.path.phase == .forward) = false := beq_eq_false_iff_ne.mpr hf
    have other : (s.path.phase != .forward) = true := bne_iff_ne.mpr hf
    refine .expired x (s.endAnswer .error) hport hx ?_ ?_ fun h => ?_
    · unfold limitExpires
      simp only [forward, Bool.false_eq_true, if_false]
      exact congrArg (Path.finish _) (raceEndParts_momentFrame x _ _ _ _).path
    · unfold limitExpires
      simp only [forward, other, Bool.false_eq_true, if_false, Bool.true_or, Bool.true_and]
      exact takeEndParts_inFlight x _ _ _ _
    · unfold limitExpires
      simp only [forward, Bool.false_eq_true, if_false]
      exact takeEndParts_nonePending x _ _ _ _ (.inr (h.resolve_left hf))

theorem secondLimitExpiry (hport : s.path.port = .late) : Calm s (s.endCommand s.secondLimitExpires) := by
  have left : Calm s ({ s with path := s.path.leave .down }.setFlag .path) :=
    .of_path (.left rfl rfl rfl (.inl (by rw [hport]; exact nofun)) (.inr rfl) rfl) rfl rfl
  have told := effectClosed_calm.offerTo ({ s with path := s.path.leave .down }.setFlag .path)
    (s.path.leave .down).recordQueue (.pathFault .downEntered (s.path.expired.getD (0, 0)).1 (s.path.expired.getD (0, 0)).2) nofun
  exact (left.trans told).trans (.ends _ _)

theorem resetBlocks {u t : State} (hu : u.path = s.path) (hp : t.path = u.resetBlocks.path) (hg : t.gate = Gate.reset)
    (hq : t.queues = u.resetBlocks.queues) : TxnStep s t := by
  refine .reset ?_ (by rw [hg]; rfl) fun n => ?_
  · rw [hp, ← hu]
    rfl
  · have hr : u.resetBlocks.queue n = Queue.reset := by simp [State.resetBlocks, queue]
    rw [queue_congr hq, hr]
    rfl

theorem tearSave_path (s : State) (r : SaveResult) : (s.tearSave r).path = s.path := by
  unfold tearSave
  split <;> rfl

theorem endLoading (hs : s.store.state = .loading) : TxnStep s s.endLoading := by
  have look : ∀ u : State, Calm u u.gateLookAtPfail := fun u => by
    unfold gateLookAtPfail
    split
    · exact .pfailAssert u
    · exact .refl u
  have queues : ∀ (u : State) (i : Image), u.NonePending → ∀ n, ((u.loadStarts i).queue n).pendingCount = 0 := fun u i h n => by
    have turned : ∀ (u : State) (n : Fin 4), Calm u (loadQueueOn i u n) := fun u n => by
      have on : Calm u (queueTurnOn n u).2 := Calm.written (WriteEffect.queueTurnOn u n)
      unfold loadQueueOn
      split
      · dsimp only
        split
        · exact on.trans (.setQueue _ n (.refl _))
        · exact .refl u
      · exact .refl u
    rw [loadStarts_queue]
    exact (foldl_frame .refl .trans turned allQueues u).pending h n
  have configured : ∀ i, s.NonePending → (s.loadConfiguration i).NonePending := fun i h n => by
    rw [loadConfiguration_queue]
    split <;> exact h n
  have applied : ∀ ok i, s.path.Quiet (s.applyImage ok i).path ∧ (s.applyImage ok i).gate.inFlight = false ∧
      (s.NonePending → (s.applyImage ok i).NonePending) := fun ok i => by
    have path := (loaded_path i s).trans (loadConfiguration_path i s)
    have gate : ((s.loadConfiguration i).loadStarts i).gate.inFlight = false := by
      rw [loaded_gate]
      unfold Gate.load
      split <;> rfl
    have pending : s.NonePending → ((s.loadConfiguration i).loadStarts i).NonePending := fun h => queues _ i (configured i h)
    unfold applyImage
    generalize (s.loadConfiguration i).loadStarts i = u at path gate pending
    have flagged : Calm u (if ok then u else u.setFlag .config) := by
      split
      · exact .refl u
      · exact .of_eq rfl rfl rfl
    have locked : ∀ u : State, Calm u u.loadLockAndGate := fun u =>
      Calm.trans (t := { u with link := { u.link with locked := u.link.code != 0 } }) (.of_eq rfl rfl rfl) (look _)
    have done := flagged.trans (locked _)
    have kept : s.path.Quiet u.path := by
      rw [path]
      exact ⟨rfl, rfl, .inl rfl, .inl ⟨rfl, rfl⟩⟩
    exact ⟨kept.trans done.path, done.marker.trans gate, fun h => done.pending (pending h)⟩
  have ended : ∀ u : State, s.path.Quiet u.path ∧ u.gate.inFlight = false ∧ (s.NonePending → u.NonePending) →
      TxnStep s (s.endCommand u) := fun u hu => .loaded hs hu.1 hu.2.1 fun h => hu.2.2 h
  unfold State.endLoading
  split
  · exact ended _ (applied _ _)
  · exact ended _ (applied _ _)

theorem whenPowered {f : State → State} {t : State} (hf : TxnStep s (f s)) (ht : Machine.whenPowered f s = .next t) :
    TxnStep s t := by
  obtain rfl : s.onPower f = t := Host.Outcome.next.inj ht
  unfold State.onPower
  split
  · exact hf
  · exact .calm (.refl s)

/-- What each command does to the transaction in flight. -/
theorem exec {i : Instr} {t : State} (ht : exec i s = .next t) : TxnStep s t := by
  have inj : ∀ {u : State}, (.next u : Result) = .next t → TxnStep s u → TxnStep s t := fun e hu => Host.Outcome.next.inj e ▸ hu
  have same : ∀ u : State, u.path = s.path → u.gate = s.gate → u.queues = s.queues → TxnStep s u := fun _ hp hg hq =>
    .calm (.of_eq hp hg hq)
  have stays : TxnStep s s := .calm (.refl s)
  have pins : ∀ p : Pins, Calm s { s with pins := p } := fun _ => .of_eq rfl rfl rfl
  cases i with
  | upstreamRequest r =>
    have hx : Machine.exec (.upstreamRequest r) s = execUpstreamRequest r s := rfl
    rw [hx, execUpstreamRequest] at ht
    split at ht
    · exact absurd ht nofun
    · refine inj ht ?_
      split
      · exact stays
      · exact present r
  | heldRequestTaken => exact inj ht takeHeld
  | prereadComplete c => exact inj ht (completePreread c)
  | forwardComplete c =>
    refine whenPowered ?_ ht
    split
    next hph hx => exact forwardComplete hph hx c
    · exact stays
  | responseLimitExpiry =>
    refine whenPowered ?_ ht
    split
    next hport hx => exact limitExpiry hport hx
    · exact stays
  | secondLimitExpiry =>
    refine whenPowered ?_ ht
    split
    next hport => exact .calm (secondLimitExpiry hport)
    · exact stays
  | strayCompletion c =>
    refine whenPowered ?_ ht
    split
    next hport => exact .calm (.of_path (.left rfl rfl rfl (.inl (by rw [hport]; exact nofun)) (.inl rfl) rfl) rfl rfl)
    · exact stays
  | urstAssert =>
    refine inj ht ?_
    split
    next hn =>
      have phase : s.path.phase ≠ .idle := bne_iff_ne.mp (Bool.and_eq_true_iff.mp hn).2
      exact .calm (.of_path ⟨rfl, rfl, .inr (.inr phase), .inl ⟨rfl, rfl⟩⟩ rfl rfl)
    · exact .calm (pins _)
  | requestWithdrawn => exact inj ht (.calm (.of_path ⟨rfl, rfl, .inl rfl, .inl ⟨rfl, rfl⟩⟩ rfl rfl))
  | completionIgnored c => exact inj ht stays
  | urstDeassert | rstDeassert => exact inj ht (.calm (pins _))
  | scsNRise => exact inj ht (same _ rfl rfl rfl)
  | powerOnReset => exact inj ht (resetBlocks (tearSave_path s .none) rfl rfl rfl)
  | partReset =>
    refine inj ht ?_
    split
    · exact resetBlocks (tearSave_path { s with pins := { s.pins with rst := true } } .none) rfl rfl rfl
    · exact .calm (pins _)
  | loadingEnd =>
    refine whenPowered ?_ ht
    split
    next hs => exact endLoading hs
    · exact stays
  | tick => exact whenPowered (.calm (momentClosed_calm.tickIfRunning s)) ht
  | timerExpiry c => exact whenPowered (.calm (momentClosed_calm.timerExpires c s)) ht
  | measureOverdue c => exact whenPowered (.calm (momentClosed_calm.measureOverdue c s)) ht
  | evPinChange e c => exact inj ht (.calm (momentClosed_calm.pinChanges e c s))
  | pfailAssert =>
    refine inj ht ?_
    dsimp only
    split
    · exact stays
    · split
      · exact .calm (((pins _).trans ((Calm.tearSave _ _).trans (.pfailAssert _))).trans (.ends _ _))
      · exact .calm (pins _)
  | pfailDeassert =>
    refine inj ht ?_
    dsimp only
    split
    · split
      · exact .calm (((pins _).trans (.pfailDeassert _)).trans (.ends _ _))
      · exact .calm (pins _)
    · exact stays
  | gateDrainEnd =>
    exact whenPowered (f := fun s => s.endCommand s.gateEndDrain) (.calm ((Calm.endDrain s).trans (.ends _ _))) ht
  | gateHoldOffEnd => exact whenPowered (.calm (momentClosed_calm.gateEndHoldOff s)) ht
  | alertPulseEnd =>
    refine whenPowered ?_ ht
    split
    · exact same _ rfl rfl rfl
    · exact stays
  | serviceFrameHeader kind a count =>
    refine inj ht ?_
    dsimp only
    split
    · exact stays
    · split
      · exact .calm ((pins _).trans (.beginFrame _ kind a count))
      · exact .calm (pins _)
  | popWindowRead n => exact whenPowered (.calm (.makeCopy s .pop n)) ht
  | peek n => exact whenPowered (.calm (.makeCopy s .peek n)) ht
  | popRemove n =>
    refine whenPowered ?_ ht
    split
    · exact .calm ((Calm.removeCopied s).trans (.of_eq rfl rfl rfl))
    · exact stays
  | saveEnd =>
    refine whenPowered ?_ ht
    unfold endSave
    split
    · exact same _ rfl rfl rfl
    · exact stays
  | restartTakesEffect =>
    refine whenPowered ?_ ht
    split
    next h => exact .calm (.restartEffect (beq_iff_eq.mp (Bool.and_eq_true_iff.mp h).2))
    · exact stays
  | lossOfPower => exact inj ht (.calm ((Calm.tearSave s .none).trans (.of_eq rfl rfl rfl)))
  | _ => exact .calm (.word (wordDone_of_exec rfl ht))

theorem step {t : State} (ht : Machine.step s = .next t) : TxnStep s t := by
  unfold Machine.step at ht
  split at ht
  · obtain rfl := Host.Outcome.next.inj ht
    obtain ⟨b, f, d, e⟩ := idle_frame s
    rw [e]
    exact .calm (.of_eq rfl rfl rfl)
  next rest _ =>
    cases TxnStep.exec (s := { s with pending := rest }) ht with
    | calm h => exact .calm ⟨h.path, h.marker, h.pending⟩
    | taken u v hs hu hw hv => exact .taken u v hs ⟨hu.path, hu.marker, hu.pending⟩ hw hv
    | prereadEnded u v hs hp hm hn hw hv => exact .prereadEnded u v hs hp hm hn hw hv
    | forwardEnded x a hs hx hp hm hn => exact .forwardEnded x a hs hx hp hm hn
    | expired x a hs hx hp hm hn => exact .expired x a hs hx hp hm hn
    | loaded hs hp hm hn => exact .loaded hs hp hm hn
    | reset hp hm hn => exact .reset hp hm hn

end TxnStep

end State

/-! ### Phase, port, timer and markers -/

namespace Path

/-- Phase, port, limit timer and abandoned marker agree (R57, R65). -/
def Agrees (p : Path) : Prop := p.PhaseOk ∧ p.TimerOk ∧ p.MarkerOk

/-- The port is free for the next access. -/
def Free (p : Path) : Prop := p.port ≠ .busy ∧ p.TimerOk

theorem Agrees.free {p : Path} (h : p.Agrees) (hp : p.phase = .idle) : p.Free :=
  ⟨fun hb => h.1.1.mp hb hp, h.2.1⟩

theorem Free.accessDone (p : Path) : p.accessDone.Free := ⟨nofun, ⟨nofun, nofun⟩⟩

theorem Free.late (x : Txn) (p : Path) : (p.late x).Free := ⟨nofun, fun _ => .inr rfl, fun _ => rfl⟩

theorem Free.finish {p : Path} (h : p.Free) (a : Option Answer) : (p.finish a).Agrees :=
  ⟨⟨⟨fun hb => absurd hb h.1, fun hn => absurd rfl hn⟩, ⟨nofun, fun hn => absurd rfl hn⟩⟩, h.2, fun _ => rfl⟩

theorem Agrees.begin {phase : Phase} (hp : phase ≠ .idle) (x : Txn) (p : Path) : (p.begin phase x).Agrees :=
  ⟨⟨⟨fun _ => hp, fun _ => rfl⟩, ⟨fun _ => hp, fun _ => rfl⟩⟩, ⟨fun _ => .inl rfl, fun _ => rfl⟩, fun hi => absurd hi hp⟩

theorem Quiet.agrees {p q : Path} (h : p.Quiet q) (hp : p.Agrees) : q.Agrees := by
  obtain ⟨hphase, htxn, habandoned, hport⟩ := h
  obtain ⟨⟨port, txn⟩, timer, marker⟩ := hp
  have marked : q.MarkerOk := fun hi => by
    rw [hphase] at hi
    obtain e | e | e := habandoned
    · exact e.trans (marker hi)
    · exact e
    · exact absurd hi e
  obtain ⟨e, et⟩ | ⟨hb, hq, ht⟩ := hport
  · unfold Agrees PhaseOk TimerOk
    rw [hphase, htxn, e, et]
    exact ⟨⟨port, txn⟩, timer, marked⟩
  · have idle : q.phase = .idle := by
      rw [hphase]
      exact hb.elim (fun hb => not_not.mp fun hn => hb (port.mpr hn)) id
    have free : q.port ≠ .busy ∧ q.port ≠ .late := by
      obtain e | e := hq <;> rw [e] <;> exact ⟨nofun, nofun⟩
    refine ⟨⟨⟨fun e => absurd e free.1, fun hn => absurd idle hn⟩, ?_⟩, ?_, marked⟩
    · rw [htxn, hphase]
      exact txn
    · unfold TimerOk
      rw [ht]
      exact ⟨nofun, fun e => (e.elim free.1 free.2).elim⟩

end Path

namespace State

theorem Went.agrees {u v : State} (h : Went u v) (hu : u.path.Free) : v.path.Agrees := by
  cases h with
  | ended a hp => exact hp ▸ hu.finish a
  | preread x hp => exact hp ▸ .begin (phase := .preread) nofun x _
  | forward x hp => exact hp ▸ .begin (phase := .forward) nofun x _

theorem TxnStep.agrees {s t : State} (h : TxnStep s t) (hs : s.path.Agrees) : t.path.Agrees := by
  cases h with
  | calm h => exact h.path.agrees hs
  | taken u v hi hu hw hv =>
    exact hv.path.agrees (hw.agrees ((hu.path.agrees hs).free (hu.path.phase.trans hi)))
  | prereadEnded u v _ hp _ _ hw hv => exact hv.path.agrees (hw.agrees (hp ▸ .accessDone _))
  | forwardEnded x a _ _ hp => exact hp ▸ (Path.Free.accessDone _).finish a
  | expired x a _ _ hp => exact hp ▸ (Path.Free.late x _).finish a
  | loaded _ hp => exact hp.agrees hs
  | reset hp =>
    rw [hp]
    exact ⟨⟨⟨nofun, fun hn => absurd rfl hn⟩, ⟨nofun, fun hn => absurd rfl hn⟩⟩, ⟨nofun, nofun⟩, fun _ => rfl⟩

/-! ### PENDING records and the marker of a write in flight -/

/-- What holds with no forward in progress. -/
def Rested (s : State) : Prop := s.NonePending ∧ s.gate.inFlight = false

/-- The two claims about FORWARD at once. -/
def ForwardOk (s : State) : Prop := s.PendingOk ∧ s.MarkerInFlight

theorem ForwardOk.rested {s : State} (h : s.ForwardOk) (hp : s.path.phase ≠ .forward) : s.Rested :=
  ⟨h.1 hp, Bool.eq_false_iff.mpr fun hf => hp (h.2.mp hf).1⟩

theorem Rested.forwardOk {s : State} (h : s.Rested) (hp : s.path.phase ≠ .forward) : s.ForwardOk :=
  ⟨fun _ => h.1, fun hf => absurd (h.2.symm.trans hf) nofun, fun hf => absurd hf.1 hp⟩

theorem Rested.calm {s t : State} (h : s.Rested) (hc : Calm s t) : t.Rested := ⟨hc.pending h.1, hc.marker.trans h.2⟩

theorem writing_congr {p q : Path} (h : q.txn = p.txn) : q.writing = p.writing := by
  unfold Path.writing
  rw [h]

theorem ForwardOk.calm {s t : State} (h : s.ForwardOk) (hc : Calm s t) : t.ForwardOk := by
  refine ⟨fun hp => hc.pending (h.1 (hc.path.phase ▸ hp)), ?_⟩
  unfold MarkerInFlight
  rw [hc.marker, hc.path.phase, writing_congr hc.path.txn]
  exact h.2

theorem Went.forwardOk {u v : State} (h : Went u v) (hu : u.Rested) : v.ForwardOk := by
  cases h with
  | ended a hp hg hn => exact Rested.forwardOk ⟨hn hu.1, hg.trans hu.2⟩ (by rw [hp]; exact nofun)
  | preread x hp hg hn => exact Rested.forwardOk ⟨hn hu.1, hg.trans hu.2⟩ (by rw [hp]; exact nofun)
  | forward x hp hg =>
    refine ⟨fun hn => absurd (by rw [hp]; rfl) hn, ?_⟩
    unfold MarkerInFlight
    rw [hg, hu.2, hp, Bool.or_false]
    exact ⟨fun hk => ⟨rfl, hk⟩, fun hk => hk.2⟩

/-- The marker of a write goes with its forward. -/
theorem ForwardOk.toldEnd {s : State} (h : s.ForwardOk) {x : Txn} (hx : s.path.txn = some x) :
    (x.kind != .write && s.gate.inFlight) = false := by
  cases hf : s.gate.inFlight with
  | false => exact Bool.and_false _
  | true =>
    have writing : (x.kind == .write) = true := by
      have := (h.2.mp hf).2
      unfold Path.writing at this
      rw [hx] at this
      exact this
    simp [bne, writing]

theorem TxnStep.forwardOk {s t : State} (h : TxnStep s t) (hl : s.LoadingOk) (hs : s.ForwardOk) :
    t.ForwardOk := by
  cases h with
  | calm h => exact hs.calm h
  | taken u v hi hu hw hv =>
    exact (hw.forwardOk ((hs.rested (by rw [hi]; exact nofun)).calm hu)).calm hv
  | prereadEnded u v hi _ hm hn hw hv =>
    have rested := hs.rested (by rw [hi]; exact nofun)
    exact (hw.forwardOk ⟨hn rested.1, hm.trans rested.2⟩).calm hv
  | forwardEnded x a _ hx hpath hm hn =>
    exact Rested.forwardOk ⟨hn, hm.trans (hs.toldEnd hx)⟩ (by rw [hpath]; exact nofun)
  | expired x a hport hx hpath hm hn =>
    refine Rested.forwardOk ?_ (by rw [hpath]; exact nofun)
    by_cases hf : s.path.phase = .forward
    · refine ⟨hn (.inl hf), hm.trans ?_⟩
      rw [hf, bne_self_eq_false, Bool.false_or]
      exact hs.toldEnd hx
    · have rested := hs.rested hf
      exact ⟨hn (.inr rested.1), hm.trans (by rw [rested.2, Bool.and_false])⟩
  | loaded hload hpath hm hn =>
    have idle : s.path.phase ≠ .forward := by
      rw [(hl hload).1]
      exact nofun
    exact Rested.forwardOk ⟨hn (hs.rested idle).1, hm⟩ (hpath.phase ▸ idle)
  | reset hpath hm hn => exact Rested.forwardOk ⟨hn, hm⟩ (by rw [hpath]; exact nofun)

end State

/-- Settles O55: each command's effect on the transaction, and the path that it leaves. -/
theorem phasePortAndTimerAgree : Obligations.PhasePortAndTimerAgree := fun _ _ hp ht hm hs =>
  (State.TxnStep.step hs).agrees ⟨hp, ht, hm⟩

/-- Settles O56: each command's effect on the transaction, its marker and its records. -/
theorem pendingOnlyDuringAForward : Obligations.PendingOnlyDuringAForward := fun _ _ hl _ hn hm hs =>
  (State.TxnStep.step hs).forwardOk hl ⟨hn, hm⟩

end Sys2Proof.Machine
end

section
/-! The reset values while LOADING (R183): a part that is not LOADING comes there by a reset alone, and in a LOADING part every command
finds its block at rest, so that nothing but the pins, the held request, the frame and the request status moves. -/

namespace Sys2Proof.Machine

namespace State

/-! ### A part that is not LOADING -/

/-- No command but a reset begins loading (R183). -/
theorem runUpdates_notLoading : RunUpdates fun s => s.store.state ≠ .loading where
  copyTaken _ _ _ := nofun
  torn s r h := by
    unfold tearSave
    split
    · exact nofun
    · exact h
  saved s h := by
    unfold endSave
    split
    · exact nofun
    · exact h

theorem notLoading_exec {i : Instr} {s t : State} (hr : ¬ Resets i) (hs : s.store.state ≠ .loading)
    (ht : Machine.exec i s = .next t) : t.store.state ≠ .loading :=
  (runUpdates_notLoading.runsDeciding
      (runUpdates_notLoading.decided (fun _ _ => id) (fun _ _ => id) runUpdates_notLoading.word)).exec
    (fun h => absurd h hr) (fun hl => absurd hl hs) ht hs

/-! ### Every block at its reset value -/

/-- Every block holds its reset value and the lock is LOCKED, whatever the store does. -/
abbrev Blank (s : State) : Prop :=
  s.path.phase = .idle ∧ s.path.port = .ready ∧ s.path.txn = none ∧ s.path.number = 0 ∧
  s.path.limitWord = Path.reset.limitWord ∧ s.defaultActions = 0 ∧ s.unmatched = 0 ∧
  (∀ r, s.rule r = .reset) ∧ (∀ n, s.queue n = .reset) ∧ s.timebase = .reset ∧ (∀ t, s.timer t = .reset) ∧
  (∀ e, s.input e = .reset) ∧ s.gate = .reset ∧ s.alert = .reset ∧ s.link.locked = true ∧ s.link.code = 0

theorem resetBlocks_blank (s : State) : s.resetBlocks.Blank := by
  refine ⟨rfl, rfl, rfl, rfl, rfl, rfl, rfl, fun r => ?_, fun n => ?_, rfl, fun t => ?_, fun e => ?_, rfl, rfl, rfl, rfl⟩
  · simp [rule, resetBlocks]
  · simp [queue, resetBlocks]
  · simp [timer, resetBlocks]
  · simp [input, resetBlocks]

theorem tearSave_of_loading {s : State} (h : s.store.state = .loading) (r : SaveResult) : s.tearSave r = s := by
  simp only [tearSave, h]

theorem endSave_of_loading {s : State} (h : s.store.state = .loading) : s.endSave = s := by
  simp only [endSave, h]

/-- A LOADING part takes no request (R52). -/
theorem canTake_of_loading {s : State} (h : s.store.state = .loading) : s.canTake = false := by
  simp [canTake, holdApplies, h]

/-- A LOCKED and LOADING part refuses every word (R177). -/
theorem linkCheck_of_loading {s : State} (hl : s.link.locked = true) (hs : s.store.state = .loading) (t : Target) :
    s.linkCheck t ≠ none := by
  simp only [linkCheck, hl, hs, true_and, true_or, if_true]
  split
  · exact nofun
  · split <;> exact nofun

theorem gateEndDrain_of_not_due {s : State} (h : s.gate.drainDue = false) : s.gateEndDrain = s := by
  rw [gateEndDrain, h]
  exact if_neg nofun

theorem gateClearHold_of_clear {s : State} (h : s.gate.hold = false) : s.gateClearHold = s := by
  rw [gateClearHold, h]
  exact if_neg nofun

theorem endCommand_of_taken {s t : State} (h : t.alert.lastTick = .taken) : s.endCommand t = t := by
  have same : t.alert.commandEnds s.alert.lastTick = t.alert := by
    unfold Alert.commandEnds
    split
    · rfl
    · simp only [h]
  rw [endCommand, same]

namespace Blank

variable {s t : State}

/-- The properties are of the blocks one by one. -/
theorem of_tables (h : s.Blank) (hpath : t.path = s.path) (hdefaults : t.defaultActions = s.defaultActions)
    (hunmatched : t.unmatched = s.unmatched) (hbase : t.timebase = s.timebase) (hgate : t.gate = s.gate)
    (halert : t.alert = s.alert) (hlink : t.link = s.link) (hrules : ∀ r, t.rule r = .reset) (hqueues : ∀ n, t.queue n = .reset)
    (htimers : ∀ c, t.timer c = .reset) (hinputs : ∀ e, t.input e = .reset) : t.Blank := by
  obtain ⟨h1, h2, h3, h4, h5, h6, h7, -, -, h10, -, -, h13, h14, h15, h16⟩ := h
  rw [Blank, hpath, hdefaults, hunmatched, hbase, hgate, halert, hlink]
  exact ⟨h1, h2, h3, h4, h5, h6, h7, hrules, hqueues, h10, htimers, hinputs, h13, h14, h15, h16⟩

theorem phase (h : s.Blank) : s.path.phase = .idle := h.1
theorem port (h : s.Blank) : s.path.port = .ready := h.2.1

theorem tables (h : s.Blank) : (∀ r, s.rule r = .reset) ∧ (∀ n, s.queue n = .reset) ∧ (∀ t, s.timer t = .reset) ∧
    ∀ e, s.input e = .reset := by
  obtain ⟨-, -, -, -, -, -, -, hrules, hqueues, -, htimers, hinputs, -⟩ := h
  exact ⟨hrules, hqueues, htimers, hinputs⟩

theorem blocks (h : s.Blank) : s.timebase = .reset ∧ s.gate = .reset ∧ s.alert = .reset := by
  obtain ⟨-, -, -, -, -, -, -, -, -, hbase, -, -, hgate, halert, -⟩ := h
  exact ⟨hbase, hgate, halert⟩

theorem locked (h : s.Blank) : s.link.locked = true := by
  obtain ⟨-, -, -, -, -, -, -, -, -, -, -, -, -, -, hlocked, -⟩ := h
  exact hlocked

theorem ends_eq (u : State) (h : s.Blank) : u.endCommand s = s := by
  obtain ⟨-, -, halert⟩ := h.blocks
  refine endCommand_of_taken ?_
  rw [halert]
  rfl

theorem drain_eq (h : s.Blank) : s.gateEndDrain = s := by
  obtain ⟨-, hgate, -⟩ := h.blocks
  refine gateEndDrain_of_not_due ?_
  rw [hgate]
  rfl

theorem nextQueues (h : s.Blank) : s.restartQueues.Blank := by
  obtain ⟨hrules, hqueues, htimers, hinputs⟩ := h.tables
  unfold restartQueues
  exact h.of_tables (mapQueues_path s _) (mapQueues_defaultActions s _) (mapQueues_unmatched s _) (mapQueues_timebase s _)
    (mapQueues_gate s _) (mapQueues_alert s _) (mapQueues_link s _)
    (fun r => (rule_congr (mapQueues_rules s _) r).trans (hrules r)) (fun n => by rw [queue_mapQueues, hqueues]; rfl)
    (fun c => (timer_congr (mapQueues_timers s _) c).trans (htimers c))
    (fun e => (input_congr (mapQueues_inputs s _) e).trans (hinputs e))

theorem nextRules (h : s.Blank) : (s.mapRules fun _ x => x.restart).Blank := by
  obtain ⟨hrules, hqueues, htimers, hinputs⟩ := h.tables
  exact h.of_tables (mapRules_path s _) (mapRules_defaultActions s _) (mapRules_unmatched s _) (mapRules_timebase s _)
    (mapRules_gate s _) (mapRules_alert s _) (mapRules_link s _)
    (fun r => by rw [rule_mapRules, hrules]; rfl) (fun n => (queue_congr (mapRules_queues s _) n).trans (hqueues n))
    (fun c => (timer_congr (mapRules_timers s _) c).trans (htimers c))
    (fun e => (input_congr (mapRules_inputs s _) e).trans (hinputs e))

theorem nextTimers (h : s.Blank) : (s.mapTimers fun _ ch => ch.restart).Blank := by
  obtain ⟨hrules, hqueues, htimers, hinputs⟩ := h.tables
  exact h.of_tables (mapTimers_path s _) (mapTimers_defaultActions s _) (mapTimers_unmatched s _) (mapTimers_timebase s _)
    (mapTimers_gate s _) (mapTimers_alert s _) (mapTimers_link s _)
    (fun r => (rule_congr (mapTimers_rules s _) r).trans (hrules r))
    (fun n => (queue_congr (mapTimers_queues s _) n).trans (hqueues n)) (fun c => by rw [timer_mapTimers, htimers]; rfl)
    (fun e => (input_congr (mapTimers_inputs s _) e).trans (hinputs e))

theorem nextInputs (h : s.Blank) (pin : Fin 2 → Bool) : (s.mapInputs fun e i => i.restart (pin e)).Blank := by
  obtain ⟨hrules, hqueues, htimers, hinputs⟩ := h.tables
  exact h.of_tables (mapInputs_path s _) (mapInputs_defaultActions s _) (mapInputs_unmatched s _) (mapInputs_timebase s _)
    (mapInputs_gate s _) (mapInputs_alert s _) (mapInputs_link s _)
    (fun r => (rule_congr (mapInputs_rules s _) r).trans (hrules r))
    (fun n => (queue_congr (mapInputs_queues s _) n).trans (hqueues n))
    (fun c => (timer_congr (mapInputs_timers s _) c).trans (htimers c)) (fun e => by rw [input_mapInputs, hinputs]; rfl)

theorem settled (h : s.Blank) : s.settlePending.Blank := by
  unfold settlePending
  split
  · exact h
  · exact h

theorem clearHold_eq (h : s.Blank) : s.gateClearHold = s := by
  obtain ⟨-, hgate, -⟩ := h.blocks
  refine gateClearHold_of_clear ?_
  rw [hgate]
  rfl

/-- RESTART gives a block at its reset value the same value again. -/
theorem restartEffect (h : s.Blank) : s.restartEffect.Blank := by
  have cleared : ({ s with path := s.path.restart, alert := s.alert.restart }).Blank := by
    obtain ⟨h1, _, h3, _, h5, h6, h7, hrules, hqueues, hbase, htimers, hinputs, hgate, halert, hlink⟩ := h
    exact ⟨h1, rfl, h3, rfl, h5, h6, h7, hrules, hqueues, hbase, htimers, hinputs, hgate, by rw [halert]; rfl, hlink⟩
  have whole := fun pin => ((cleared.nextQueues.nextRules).nextTimers.nextInputs pin).settled
  unfold State.restartEffect
  dsimp only
  rw [h.drain_eq, (whole _).clearHold_eq, (whole _).ends_eq]
  exact whole _

/-! ### The commands that find their block at rest -/

theorem tick_eq (h : s.Blank) : s.tickIfRunning = s := by
  obtain ⟨hbase, -, -⟩ := h.blocks
  rw [tickIfRunning, hbase]
  exact if_neg nofun

theorem timer_owes_nothing (h : s.Blank) (c : Fin 8) : (s.timer c).tickOwed = false := by
  obtain ⟨-, -, htimers, -⟩ := h.tables
  rw [htimers]
  rfl

theorem timerExpires_eq (h : s.Blank) (c : Fin 8) : s.timerExpires c = s := by
  simp [timerExpires, h.timer_owes_nothing c]

theorem measureOverdue_eq (h : s.Blank) (c : Fin 8) : s.measureOverdue c = s := by
  simp [measureOverdue, h.timer_owes_nothing c]

theorem holdOff_eq (h : s.Blank) : s.gateEndHoldOff = s := by
  obtain ⟨-, hgate, -⟩ := h.blocks
  rw [gateEndHoldOff, hgate]
  exact if_neg nofun

theorem followPin_eq (h : s.Blank) (k : EventMeetings) (e : Fin 2) (level : Bool) : s.followPin k e level = s := by
  obtain ⟨-, -, -, hinputs⟩ := h.tables
  have none : (s.input e).sampler = .none := by rw [hinputs]; rfl
  simp only [followPin, none]

theorem changePin (h : s.Blank) (k : EventMeetings) (e : Fin 2) (level : Bool) : (s.changePin k e level).Blank := by
  have moved : (s.setEvPin e level).Blank := h
  unfold State.changePin
  split
  · exact h
  · unfold onPower
    split
    · rw [moved.followPin_eq, moved.ends_eq]
      exact moved
    · rw [moved.ends_eq]
      exact moved

theorem removeCopied_eq (h : s.Blank) : s.removeCopied = s := by
  obtain ⟨-, hqueues, -⟩ := h.tables
  unfold removeCopied
  split
  · rw [hqueues]
    rfl
  · rfl

theorem makeCopy (h : s.Blank) (k : WindowKind) (n : Fin 4) : (s.makeCopy k n).Blank := by
  unfold State.makeCopy
  split
  · split
    · rw [h.removeCopied_eq]
      exact h
    · exact h
  · exact h

theorem beginFrame (h : s.Blank) (kind : HeaderKind) (a : ServiceAddr) (count : BitVec 8) :
    (s.beginFrame kind a count).Blank := by
  unfold State.beginFrame
  split
  · exact h
  · cases kind <;> exact h

/-- Every word is refused: nothing but the frame and the request status changes. -/
theorem word (h : s.Blank) (hs : s.store.state = .loading) (hw : WordDone s t) : t.Blank := by
  cases hw with
  | none => exact h
  | refused => exact h
  | done a left st mark u _ hc => exact absurd hc (linkCheck_of_loading h.locked hs _)

/-- No request is taken, so nothing is decided. -/
theorem undecided (u : State) (h : s.Blank) : (u.thenChanges s.undecided).Blank := by
  rw [thenChanges_undecided, h.ends_eq]
  exact h

theorem present (h : s.Blank) (hs : s.store.state = .loading) (r : Request) : (s.thenChanges (s.present r)).Blank := by
  have waits : ({ s with path := { s.path with answer := none } }).canTake = false := canTake_of_loading hs
  unfold State.present
  dsimp only
  rw [waits]
  exact undecided (s := { s with path := { s.path with answer := none, held := some r } }) s h

theorem takeHeld (h : s.Blank) (hs : s.store.state = .loading) : (s.thenChanges s.takeHeld).Blank := by
  unfold State.takeHeld
  split
  · rw [canTake_of_loading hs]
    exact h.undecided s
  · exact h.undecided s

theorem completePreread (h : s.Blank) (c : Completion) : (s.thenChanges (s.completePreread c)).Blank := by
  unfold State.completePreread
  split
  next hp _ => exact absurd (h.phase.symm.trans hp) nofun
  · exact h.undecided s

/-! ### Every command -/

theorem whenPowered {f : State → State} (hf : (f s).LoadingOk) (h : s.Blank) (ht : Machine.whenPowered f s = .next t) :
    t.LoadingOk := by
  obtain rfl : s.onPower f = t := Host.Outcome.next.inj ht
  unfold State.onPower
  split
  · exact hf
  · exact fun _ => h

/-- A command in a LOADING part: loading ends, or the blocks still hold their reset values. -/
theorem exec {i : Instr} (h : s.Blank) (hs : s.store.state = .loading) (ht : Machine.exec i s = .next t) : t.LoadingOk := by
  have inj : ∀ {u : State}, (.next u : Result) = .next t → u.Blank → t.LoadingOk :=
    fun e hu => Host.Outcome.next.inj e ▸ fun _ => hu
  cases i with
  | upstreamRequest r =>
    have hx : Machine.exec (.upstreamRequest r) s = execUpstreamRequest r s := rfl
    rw [hx, execUpstreamRequest] at ht
    split at ht
    · exact absurd ht nofun
    · refine inj ht ?_
      split
      · exact h
      · exact h.present hs r
  | heldRequestTaken => exact inj ht (h.takeHeld hs)
  | prereadComplete c => exact inj ht (h.completePreread c)
  | forwardComplete c =>
    refine whenPowered ?_ h ht
    split
    next hp _ => exact absurd (h.phase.symm.trans hp) nofun
    · exact fun _ => h
  | responseLimitExpiry =>
    refine whenPowered ?_ h ht
    split
    next hp _ => exact absurd (h.port.symm.trans hp) nofun
    · exact fun _ => h
  | secondLimitExpiry =>
    refine whenPowered ?_ h ht
    split
    next hp => exact absurd (h.port.symm.trans hp) nofun
    · exact fun _ => h
  | strayCompletion c =>
    refine whenPowered ?_ h ht
    split
    next hp => exact absurd (h.port.symm.trans hp) nofun
    · exact fun _ => h
  | urstAssert =>
    refine inj ht ?_
    split <;> exact h
  | powerOnReset => exact inj ht (resetBlocks_blank _)
  | partReset =>
    refine inj ht ?_
    split
    · exact resetBlocks_blank _
    · exact h
  | loadingEnd =>
    refine whenPowered ?_ h ht
    obtain ⟨b, hb⟩ := endLoading_store s
    rw [if_pos hs]
    exact fun hl => absurd hl (by rw [hb]; exact nofun)
  | tick => exact whenPowered (by rw [h.tick_eq]; exact fun _ => h) h ht
  | timerExpiry c => exact whenPowered (by rw [h.timerExpires_eq]; exact fun _ => h) h ht
  | measureOverdue c => exact whenPowered (by rw [h.measureOverdue_eq]; exact fun _ => h) h ht
  | evPinChange e c => exact inj ht (h.changePin _ e _)
  | pfailAssert =>
    refine inj ht ?_
    dsimp only
    split
    · exact h
    · rw [if_neg (by simp [hs])]
      exact h
  | pfailDeassert =>
    refine inj ht ?_
    dsimp only
    split
    · rw [if_neg (by simp [hs])]
      exact h
    · exact h
  | gateDrainEnd =>
    refine whenPowered (f := fun s => s.endCommand s.gateEndDrain) ?_ h ht
    rw [h.drain_eq, h.ends_eq]
    exact fun _ => h
  | gateHoldOffEnd => exact whenPowered (by rw [h.holdOff_eq]; exact fun _ => h) h ht
  | alertPulseEnd =>
    obtain ⟨-, -, halert⟩ := h.blocks
    refine whenPowered ?_ h ht
    rw [if_neg (by rw [halert]; exact nofun)]
    exact fun _ => h
  | serviceFrameHeader kind a count =>
    refine inj ht ?_
    dsimp only
    split
    · exact h
    · split
      · exact beginFrame (s := { s with pins := { s.pins with scsLow := true } }) h kind a count
      · exact h
  | popWindowRead n => exact whenPowered (fun _ => h.makeCopy .pop n) h ht
  | peek n => exact whenPowered (fun _ => h.makeCopy .peek n) h ht
  | popRemove n =>
    refine whenPowered ?_ h ht
    split
    · rw [h.removeCopied_eq]
      exact fun _ => h
    · exact fun _ => h
  | saveEnd => exact whenPowered (by rw [endSave_of_loading hs]; exact fun _ => h) h ht
  | restartTakesEffect =>
    refine whenPowered ?_ h ht
    split
    · exact fun _ => h.restartEffect
    · exact fun _ => h
  | lossOfPower =>
    refine inj ht ?_
    rw [tearSave_of_loading hs]
    exact h
  | requestWithdrawn | completionIgnored | urstDeassert | scsNRise | rstDeassert => exact inj ht h
  | _ => exact fun _ => h.word hs (wordDone_of_exec rfl ht)

end Blank

/-- Every command keeps the reset values of a LOADING part, and only a reset makes a part LOADING. -/
theorem LoadingOk.exec {i : Instr} {s t : State} (h : s.LoadingOk) (ht : Machine.exec i s = .next t) : t.LoadingOk := by
  by_cases hs : s.store.state = .loading
  · exact Blank.exec (h hs) hs ht
  · by_cases hr : Resets i
    · obtain rfl | rfl := hr
      · exact Host.Outcome.next.inj ht ▸ fun _ => resetBlocks_blank _
      · obtain rfl := Host.Outcome.next.inj ht
        split
        · exact fun _ => resetBlocks_blank _
        · exact h
    · exact fun hl => absurd hl (notLoading_exec hr hs ht)

/-- With no command waiting the link and the timebase alone go on; a timebase at its reset value is STOPPED. -/
theorem LoadingOk.idle {s : State} (h : s.LoadingOk) : s.idle.LoadingOk := by
  have clocked : s.clockOut.LoadingOk := by
    unfold clockOut
    split <;> exact h
  by_cases hs : s.store.state = .loading
  · have quiet : s.firstPeriodDue = false := by
      obtain ⟨hbase, -, -⟩ := Blank.blocks (h hs)
      simp [firstPeriodDue, hbase, Timebase.reset]
    rw [State.idle, quiet]
    exact clocked
  · obtain ⟨b, f, d, e⟩ := idle_frame s
    exact fun hl => absurd (by rwa [e] at hl) hs

end State

/-- Settles O53. -/
theorem blocksKeepResetValuesWhileLoading : Obligations.BlocksKeepResetValuesWhileLoading := by
  intro s t h ht
  unfold step at ht
  split at ht
  · exact Host.Outcome.next.inj ht ▸ h.idle
  next c rest _ => exact State.LoadingOk.exec (s := { s with pending := rest }) h ht

end Sys2Proof.Machine
end

section
/-! Write words of an open part (R176, R177): a word that passes the checks of the link is answered by the operation of its object, so each
statement about a write word is an equation about that operation. -/

namespace Sys2Proof.Machine

/-! ### A word answered by its object -/

/-- The operation answers as it would with the frame left where it was. -/
theorem word_passed {s t : State} {a : ServiceAddr} {left : Nat} {st : Status} {op : State → Status × State}
    (hw : s.AwaitsWord a left) (hc : s.linkCheck (targetOf a) = none)
    (hop : op (s.setFrame (.data .write (a + 1) left)) = (st, t.setFrame (.data .write (a + 1) left))) :
    whenPowered (State.serviceWrite a op) s = .next (t.answered a left st false) := by
  rw [whenPowered_on hw.1]
  exact congrArg _ (State.serviceWrite_answered hw hc hop)

theorem word_answered {s t : State} {a : ServiceAddr} {left : Nat} {st : Status} {op : State → Status × State}
    (ho : s.WritesOpen) (hm : targetOf a ≠ .unmapped) (hw : s.AwaitsWord a left)
    (hop : op (s.setFrame (.data .write (a + 1) left)) = (st, t.setFrame (.data .write (a + 1) left))) :
    whenPowered (State.serviceWrite a op) s = .next (t.answered a left st false) :=
  word_passed hw (State.linkCheck_open ho hm) hop

/-! ### Path (R65, R69) -/

theorem pathResetOp_ready {s : State} (h : s.path.port = .ready) : pathResetOp s = (.accepted, s) := by
  simp only [pathResetOp, h]

theorem pathResetOp_in_use {s : State} (h : s.path.port = .busy ∨ s.path.port = .late) : pathResetOp s = (.busy, s) := by
  obtain h | h := h <;> simp only [pathResetOp, h]

theorem pathResetOp_down {s : State} (h : s.path.port = .down) :
    pathResetOp s = (.accepted, { s with path := s.path.leave .ready }) := by simp only [pathResetOp, h]

theorem responseLimitWriteOp_ok {v : Word} (h : Path.limitOk v = true) (s : State) :
    responseLimitWriteOp v s = (.accepted, { s with path := { s.path with limitWord := v &&& Path.limitMask } }) := if_pos h

theorem responseLimitWriteOp_bad {v : Word} (h : ¬ Path.limitOk v = true) (s : State) :
    responseLimitWriteOp v s = (.invalid, s) := if_neg h

/-- Settles O20. -/
theorem pathResetAndResponseLimitWrites : Obligations.PathResetAndResponseLimitWrites := by
  refine ⟨fun s left hw ho => ⟨fun hp => ?_, fun hp => ?_, fun hp => ?_⟩, fun s left v hw ho => ⟨fun hmin hqueue => ?_, fun hbad => ?_⟩⟩
  · exact word_answered ho (by simp) hw (pathResetOp_ready hp)
  · exact word_answered ho (by simp) hw (pathResetOp_in_use hp)
  · exact word_answered ho (by simp) hw (pathResetOp_down hp)
  · exact word_answered ho (by simp) hw (responseLimitWriteOp_ok ((Path.limitOk_iff v).mpr ⟨hmin, hqueue⟩) _)
  · refine word_answered ho (by simp) hw (responseLimitWriteOp_bad (fun hok => ?_) _)
    obtain ⟨hmin, hqueue⟩ := (Path.limitOk_iff v).mp hok
    obtain h | ⟨hpresent, h⟩ := hbad
    · omega
    · exact absurd (hqueue hpresent) (by omega)

/-! ### Definition words (R2, R15) -/

theorem ruleDefWrite_of_enabled {s : State} {r : Fin 24} (h : (s.rule r).state ≠ .disabled) (w : RuleWord) (v : Word) :
    ruleDefWrite r w v s = (.active, s) := if_pos (Rule.isEnabled_iff.mpr h)

/-- Settles O21. -/
theorem definitionWriteNeedsADisabledRule : Obligations.DefinitionWriteNeedsADisabledRule := by
  refine fun s r w v left hw ho hwf => ⟨fun hd => ?_, fun he => ?_⟩
  · rw [exec_ruleDefinitionWrite_of_disabled hw ho hwf hd]
    cases w <;> rfl
  · refine word_answered ho (by simp) hw ?_
    rw [ruleWordWrite_of_wf hwf]
    exact ruleDefWrite_of_enabled (s := s.setFrame _) (by exact he) w v

/-! ### The two words of the decision (R35, R36) -/

theorem defaultActionsWriteOp_ok {v : Word} (h : defaultActionsOk v = true) (s : State) :
    defaultActionsWriteOp v s = (.accepted, { s with defaultActions := v &&& defaultActionsMask }) := if_pos h

theorem defaultActionsWriteOp_bad {v : Word} (h : ¬ defaultActionsOk v = true) (s : State) :
    defaultActionsWriteOp v s = (.invalid, s) := if_neg h

theorem unmatchedWriteOp_ok {v : Word} (h : unmatchedOk v = true) (s : State) :
    unmatchedWriteOp v s = (.accepted, { s with unmatched := v &&& unmatchedMask }) := if_pos h

theorem unmatchedWriteOp_bad {v : Word} (h : ¬ unmatchedOk v = true) (s : State) : unmatchedWriteOp v s = (.invalid, s) := if_neg h

/-- Settles O26. -/
theorem defaultActionsAndUnmatchedWrites : Obligations.DefaultActionsAndUnmatchedWrites := by
  refine ⟨fun s v left hw ho => ⟨fun hwrite hread => ?_, fun hbad => ?_⟩, fun s v left hw ho => ⟨fun hok => ?_, fun hbad => ?_⟩⟩
  · exact word_answered ho (by simp) hw (defaultActionsWriteOp_ok ((defaultActionsOk_iff v).mpr ⟨hwrite, hread⟩) _)
  · refine word_answered ho (by simp) hw (defaultActionsWriteOp_bad (fun hok => ?_) _)
    obtain ⟨hwrite, hread⟩ := (defaultActionsOk_iff v).mp hok
    exact hbad.elim hwrite hread
  · refine word_answered ho (by simp) hw (unmatchedWriteOp_ok ((unmatchedOk_iff v).mpr fun hp => ?_) _)
    exact hok.resolve_left (by simp [hp])
  · refine word_answered ho (by simp) hw (unmatchedWriteOp_bad (fun hok => ?_) _)
    obtain ⟨hp, hcode⟩ := hbad
    obtain h | h := (unmatchedOk_iff v).mp hok hp <;> simp [h] at hcode

/-! ### Queues (R78 to R80, R96) -/

theorem queueConfigWrite_on {s : State} {n : Fin 4} (h : (s.queue n).on = true) (v : Word) : queueConfigWrite n v s = (.active, s) :=
  if_pos h

theorem queueConfigWrite_ok {s : State} {n : Fin 4} {v : Word} (h : (s.queue n).on = false) (hv : Queue.configOk v = true) :
    queueConfigWrite n v s = (.accepted, s.setQueue n { s.queue n with config := v &&& Queue.configMask }) := by
  simp [queueConfigWrite, h, hv]

theorem queueConfigWrite_bad {s : State} {n : Fin 4} {v : Word} (h : (s.queue n).on = false) (hv : ¬ Queue.configOk v = true) :
    queueConfigWrite n v s = (.invalid, s) := by simp [queueConfigWrite, h, hv]

theorem queueTurnOn_on {s : State} {n : Fin 4} (h : (s.queue n).on = true) : queueTurnOn n s = (.active, s) := if_pos h

theorem queueTurnOn_refused {s : State} {n : Fin 4} (h : (s.queue n).on = false)
    (hd : (s.queue n).depth = 0 ∨ 256 < s.poolUsed + (s.queue n).depth) : queueTurnOn n s = (.invalid, s) := by
  simp [queueTurnOn, h, hd]

theorem queueTurnOn_taken {s : State} {n : Fin 4} (h : (s.queue n).on = false)
    (hd : ¬ ((s.queue n).depth = 0 ∨ 256 < s.poolUsed + (s.queue n).depth)) :
    queueTurnOn n s = (.accepted, s.setQueue n { s.queue n with on := true, list := [] }) := by
  unfold queueTurnOn
  dsimp only
  rw [h, if_neg nofun, if_neg hd]

theorem queueTurnOff_pending {s : State} {n : Fin 4} (h : (s.queue n).pendingCount ≠ 0) : queueTurnOff n s = (.busy, s) := if_pos h

theorem queueTurnOff_taken {s : State} {n : Fin 4} (h : (s.queue n).pendingCount = 0) :
    queueTurnOff n s = (.accepted, s.setQueue n { s.queue n with on := false, list := [], loss := 0 }) := if_neg (not_not.mpr h)

/-- Settles O27. -/
theorem queueWordsByTheQueueState : Obligations.QueueWordsByTheQueueState := by
  refine ⟨fun s n v left hw ho => ⟨fun hon => ?_, fun hoff hok => ?_, fun hoff hbad => ?_⟩, fun s n left hw ho =>
    ⟨fun hon => ?_, fun hoff hd => ?_, fun hoff hd hp => ?_, fun hp => ?_, fun hp => ?_, ?_⟩⟩
  · exact word_answered ho (by simp) hw (queueConfigWrite_on (s := s.setFrame _) (by exact hon) v)
  · exact word_answered ho (by simp) hw (queueConfigWrite_ok (s := s.setFrame _) hoff ((Queue.configOk_iff v).mpr hok))
  · exact word_answered ho (by simp) hw (queueConfigWrite_bad (s := s.setFrame _) hoff fun h => hbad ((Queue.configOk_iff v).mp h))
  · exact word_answered ho (by simp) hw (queueTurnOn_on (s := s.setFrame _) hon)
  · exact word_answered ho (by simp) hw (queueTurnOn_refused (s := s.setFrame _) hoff hd)
  · exact word_answered ho (by simp) hw (queueTurnOn_taken (s := s.setFrame _) hoff fun h => h.elim hd (Nat.not_lt.mpr hp))
  · exact word_answered ho (by simp) hw (queueTurnOff_pending (s := s.setFrame _) hp)
  · exact word_answered ho (by simp) hw (queueTurnOff_taken (s := s.setFrame _) hp)
  · exact word_answered ho (by simp) hw rfl

/-! ### Channels (R114, R116 to R118) -/

theorem timerConfigWrite_active {s : State} {t : Fin 8} (h : (s.timer t).state ≠ .stopped) (w : TimerWord) (v : Word) :
    timerConfigWrite t w v s = (.active, s) := if_pos h

theorem timerConfigWrite_config {s : State} {t : Fin 8} {v : Word} (h : (s.timer t).state = .stopped) (hv : Timer.configOk v = true) :
    timerConfigWrite t .configuration v s = (.accepted, s.setTimer t { s.timer t with config := v &&& Timer.configMask }) := by
  simp [timerConfigWrite, h, hv]

theorem timerConfigWrite_config_bad {s : State} {t : Fin 8} {v : Word} (h : (s.timer t).state = .stopped)
    (hv : ¬ Timer.configOk v = true) : timerConfigWrite t .configuration v s = (.invalid, s) := by
  simp [timerConfigWrite, h, hv]

theorem timerConfigWrite_reload {s : State} {t : Fin 8} {v : Word} (h : (s.timer t).state = .stopped) (hv : fld v 0 16 ≠ 0) :
    timerConfigWrite t .reload v s = (.accepted, s.setTimer t { s.timer t with reload := fld v 0 16 }) := by
  unfold timerConfigWrite
  dsimp only
  rw [if_neg (not_not.mpr h), if_neg hv]

theorem timerConfigWrite_reload_zero {s : State} {t : Fin 8} {v : Word} (h : (s.timer t).state = .stopped) (hv : fld v 0 16 = 0) :
    timerConfigWrite t .reload v s = (.invalid, s) := by simp [timerConfigWrite, h, hv]

theorem timerStart_active {s : State} {t : Fin 8} (h : (s.timer t).state ≠ .stopped) : timerStart t s = (.active, s) := if_pos h

theorem timerStart_stopped {s : State} {t : Fin 8} (h : (s.timer t).state = .stopped) :
    timerStart t s = (.accepted, s.setTimer t (s.timer t).started) := if_neg (not_not.mpr h)

theorem timerPreset_active {s : State} {t : Fin 8} (h : (s.timer t).state ≠ .stopped) : timerPreset t s = (.active, s) := if_pos h

theorem timerPreset_stopped {s : State} {t : Fin 8} (h : (s.timer t).state = .stopped) :
    timerPreset t s = (.accepted, s.setTimer t { s.timer t with counter := (s.timer t).reload }) := if_neg (not_not.mpr h)

namespace Timer

theorem mode_oneshot {ch : Timer} (h : fld ch.config 0 3 = 0) : ch.mode = .oneshot := by simp [mode, modeCode, h]
theorem mode_repeating {ch : Timer} (h : fld ch.config 0 3 = 1) : ch.mode = .repeating := by simp [mode, modeCode, h]
theorem mode_retrigger {ch : Timer} (h : fld ch.config 0 3 = 2) : ch.mode = .retrigger := by simp [mode, modeCode, h]
theorem mode_measure {ch : Timer} (h : fld ch.config 0 3 = 3) : ch.mode = .measure := by simp [mode, modeCode, h]

/-- The three codes of a down-counting channel. -/
theorem mode_ne_measure {ch : Timer} (h : fld ch.config 0 3 = 0 ∨ fld ch.config 0 3 = 1 ∨ fld ch.config 0 3 = 2) : ch.mode ≠ .measure := by
  obtain h | h | h := h
  · simp [mode_oneshot h]
  · simp [mode_repeating h]
  · simp [mode_retrigger h]

/-- A zero counter is loaded, and no other field changes. -/
theorem loadIfZero_eq (ch : Timer) : ch.loadIfZero = { ch with counter := if ch.counter = 0 then ch.reload else ch.counter } := by
  unfold loadIfZero
  split <;> rfl

theorem started_down {ch : Timer} (h : ch.mode ≠ .measure) : ch.started = { ch with
    state := .running, counter := if ch.counter = 0 then ch.reload else ch.counter } := by
  unfold started
  split
  next hm => exact absurd hm h
  · rw [loadIfZero_eq]

theorem started_measure {ch : Timer} (h : ch.mode = .measure) : ch.started = { ch with
    state := .waiting, last := 0, minimum := 65535, maximum := 0 } := by
  simp only [started, h]
  rfl

end Timer

/-- Settles O35. -/
theorem timerWordsByTheChannelState : Obligations.TimerWordsByTheChannelState := by
  refine ⟨fun s t v left ho => ⟨fun hw => ⟨fun hr => ?_, fun hs hok => ?_, fun hs hbad => ?_⟩,
    fun hw => ⟨fun hr => ?_, fun hs hv => ?_, fun hs hv => ?_⟩⟩,
    fun s t left hw ho => ⟨fun hr => ⟨?_, ?_⟩, fun hs hm => ?_, fun hs hm => ?_, fun hs => ?_, ?_⟩⟩
  · exact word_answered ho (by simp) hw (timerConfigWrite_active (s := s.setFrame _) (by exact hr) _ v)
  · exact word_answered ho (by simp) hw (timerConfigWrite_config (s := s.setFrame _) hs ((Timer.configOk_iff v).mpr hok))
  · exact word_answered ho (by simp) hw (timerConfigWrite_config_bad (s := s.setFrame _) hs fun h => hbad ((Timer.configOk_iff v).mp h))
  · exact word_answered ho (by simp) hw (timerConfigWrite_active (s := s.setFrame _) (by exact hr) _ v)
  · exact word_answered ho (by simp) hw (timerConfigWrite_reload (s := s.setFrame _) hs hv)
  · exact word_answered ho (by simp) hw (timerConfigWrite_reload_zero (s := s.setFrame _) hs hv)
  · exact word_answered ho (by simp) hw (timerStart_active (s := s.setFrame _) hr)
  · exact word_answered ho (by simp) hw (timerPreset_active (s := s.setFrame _) hr)
  · rw [← Timer.started_down (Timer.mode_ne_measure hm)]
    exact word_answered ho (by simp) hw (timerStart_stopped (s := s.setFrame _) hs)
  · rw [← Timer.started_measure (Timer.mode_measure hm)]
    exact word_answered ho (by simp) hw (timerStart_stopped (s := s.setFrame _) hs)
  · exact word_answered ho (by simp) hw (timerPreset_stopped (s := s.setFrame _) hs)
  · exact word_answered ho (by simp) hw rfl

/-! ### The lock (R179, R180) -/

theorem lockWordOp_match {s : State} {v : Word} (h : v = s.link.code) :
    State.lockWordOp v s = (.accepted, { s with link := { s.link with locked := false } }) := if_pos h

theorem lockWordOp_other {s : State} {v : Word} (h : v ≠ s.link.code) :
    State.lockWordOp v s = (.locked, { s with link := { s.link with locked := true } }) := if_neg h

/-- A LOADING store refuses the lock word as well (R177). -/
theorem linkCheck_lock_loading {s : State} (h : s.store.state = .loading) : s.linkCheck (.device .lock) = some .busy := by
  simp [State.linkCheck, h]

/-- Settles O48. -/
theorem lockWordAndAccessCode : Obligations.LockWordAndAccessCode := by
  have passes : ∀ {s : State}, s.store.state ≠ .loading → s.linkCheck (targetOf lockAddr) = none := fun hs => by
    rw [targetOf_lock]
    exact State.linkCheck_lock hs
  have refused : ∀ {s : State} {a : ServiceAddr} {left : Nat} {st : Status} (op : State → Status × State),
      s.AwaitsWord a left → s.linkCheck (targetOf a) = some st →
      whenPowered (State.serviceWrite a op) s = .next (s.answered a left st false) := fun op hw hc => by
    rw [whenPowered_on hw.1]
    exact congrArg _ (State.serviceWrite'_refused (State.plain op) hw hc)
  refine ⟨fun s v left hw => ⟨fun hs hv => ?_, fun hs hv => ?_, fun hs => ?_⟩, fun s v left hw => ⟨fun ho => ?_, fun hl => ?_⟩⟩
  · exact word_passed hw (passes hs) (lockWordOp_match (s := s.setFrame _) hv)
  · exact word_passed hw (passes hs) (lockWordOp_other (s := s.setFrame _) hv)
  · refine refused _ hw ?_
    rw [targetOf_lock]
    exact linkCheck_lock_loading hs
  · exact word_answered ho (by simp) hw rfl
  · refine refused _ hw ?_
    rw [targetOf_accessCode]
    exact State.linkCheck_locked hl nofun nofun nofun

end Sys2Proof.Machine
end

section
/-! ENABLE (R16, R17): each check of a definition as a condition on its fields, and the request by the state of the entry. -/

namespace Sys2Proof.Machine

/-! ### Fields of a definition -/

/-- A bit inside a field is a bit of the field. -/
theorem wbit_eq_fld (w : Word) {lo len i : Nat} (h : i < len) : wbit w (lo + i) = (fld w lo len).getLsbD i := by
  simp [wbit, fld, h]

namespace RuleDef

variable (d : RuleDef)

theorem readKind_eq : d.readKind = (fld d.control 1 2).getLsbD 0 := wbit_eq_fld d.control (lo := 1) (i := 0) (by decide)
theorem writeKind_eq : d.writeKind = (fld d.control 1 2).getLsbD 1 := wbit_eq_fld d.control (lo := 1) (i := 1) (by decide)

theorem noKind_iff : (d.readKind || d.writeKind) = false ↔ fld d.control 1 2 = 0 := by
  have bits : ∀ x : BitVec 2, (x.getLsbD 0 || x.getLsbD 1) = false ↔ x = 0 := by decide
  rw [readKind_eq, writeKind_eq, bits]

theorem onlyWrite_iff : d.onlyWrite = true ↔ fld d.control 1 2 = 2 := by
  have bits : ∀ x : BitVec 2, (x.getLsbD 1 && !x.getLsbD 0) = true ↔ x = 2 := by decide
  rw [onlyWrite, readKind_eq, writeKind_eq, bits]

theorem hasCondition_iff : d.hasCondition = true ↔ 1 ≤ (fld d.control 3 3).toNat ∧ (fld d.control 3 3).toNat ≤ 5 := by
  obtain h | h | h | h | h | h | h | h := fld3_cases (fld d.control 3 3) <;> simp [hasCondition, op?, opCode, h]

theorem op_changed_iff : d.op? = some .changed ↔ fld d.control 3 3 = 5 := by
  obtain h | h | h | h | h | h | h | h := fld3_cases (fld d.control 3 3) <;> simp [op?, opCode, h]

theorem action_isSome_iff : d.action?.isSome = true ↔ (fld d.control 7 3).toNat ≤ 4 := by
  obtain h | h | h | h | h | h | h | h := fld3_cases (fld d.control 7 3) <;> simp [action?, actionCode, h]

theorem action_audit_iff : d.action? = some .audit ↔ fld d.control 7 3 = 3 := by
  obtain h | h | h | h | h | h | h | h := fld3_cases (fld d.control 7 3) <;> simp [action?, actionCode, h]

theorem content_isSome_iff : d.content?.isSome = true ↔ fld d.control 13 2 ≠ 3 := by
  obtain h | h | h | h := fld2_cases (fld d.control 13 2) <;> simp [content?, contentCode, h]

theorem content_withBefore_iff : d.content? = some .withBefore ↔ fld d.control 13 2 = 2 := by
  obtain h | h | h | h := fld2_cases (fld d.control 13 2) <;> simp [content?, contentCode, h]

theorem over_isSome_iff : d.over?.isSome = true ↔ fld d.control 17 2 ≠ 3 := by
  obtain h | h | h | h := fld2_cases (fld d.control 17 2) <;> simp [over?, overCode, h]

theorem armSource_eq : d.armSource = if fld d.quotaArming 15 2 = 0 then .none
    else if fld d.quotaArming 15 2 = 1 then .rule (fld d.quotaArming 17 5).toNat
    else if fld d.quotaArming 15 2 = 2 then .timer (fld d.quotaArming 17 5).toNat
    else .input (fld d.quotaArming 17 5).toNat := by
  obtain h | h | h | h := fld2_cases (fld d.quotaArming 15 2) <;> simp [armSource, armKind, armIndex, h]

theorem disarmSource_eq : d.disarmSource = if fld d.quotaArming 22 2 = 0 then .none
    else if fld d.quotaArming 22 2 = 1 then .hits (fld d.quotaArming 24 8)
    else if fld d.quotaArming 22 2 = 2 then .timer (fld d.quotaArming 24 8).toNat
    else .input (fld d.quotaArming 24 8).toNat := by
  obtain h | h | h | h := fld2_cases (fld d.quotaArming 22 2) <;> simp [disarmSource, disarmKind, disarmValue, h]

/-! ### The checks of R16, as what fails each -/

theorem extentOk_false_iff : d.extentOk = false ↔ wbit d.control 0 = false ∧ d.limit.toNat < d.base.toNat := by
  simp [extentOk, masked]

theorem conditionOk_false_iff : d.conditionOk = false ↔
    (1 ≤ (fld d.control 3 3).toNat ∧ fld d.control 1 2 ≠ 2) ∨ (fld d.control 3 3 = 5 ∧ wbit d.control 6 = true) ∨
      5 < (fld d.control 3 3).toNat := by
  have hkind : d.onlyWrite = decide (fld d.control 1 2 = 2) := Bool.eq_iff_iff.mpr (by rw [onlyWrite_iff, decide_eq_true_iff])
  obtain h | h | h | h | h | h | h | h := fld3_cases (fld d.control 3 3) <;>
    simp [conditionOk, hkind, opCode, hasCondition, op?, entering, h, Classical.or_iff_not_imp_left]

theorem captureOk_false_iff : d.captureOk = false ↔
    (wbit d.control 10 = true ∧ fld d.control 13 2 = 2 ∧ wbit d.control 1 = true) ∨
      (wbit d.control 10 = true ∧ fld d.control 13 2 = 3) ∨ (fld d.control 7 3 = 3 ∧ wbit d.control 10 = false) := by
  have haudit : (d.action? != some .audit) = !decide (fld d.control 7 3 = 3) := by
    rw [bne, Bool.eq_iff_iff.mpr (beq_iff_eq.trans (d.action_audit_iff.trans decide_eq_true_iff.symm))]
  obtain h | h | h | h := fld2_cases (fld d.control 13 2) <;> cases hc : wbit d.control 10 <;>
    simp [captureOk, haudit, capture, readKind, content?, contentCode, h, hc]

theorem quotaOk_false_iff : d.quotaOk = false ↔
    wbit d.control 16 = true ∧ (fld d.quotaArming 0 12 = 0 ∨ fld d.control 17 2 = 3) := by
  obtain h | h | h | h := fld2_cases (fld d.control 17 2) <;> simp [quotaOk, quota, quotaLimit, over?, overCode, h]

theorem armOk_false_iff (own : Fin 24) : d.armOk own = false ↔
    (fld d.quotaArming 15 2 = 1 ∧ ((fld d.quotaArming 17 5).toNat = own.val ∨ 23 < (fld d.quotaArming 17 5).toNat)) ∨
      (fld d.quotaArming 15 2 = 2 ∧ 7 < (fld d.quotaArming 17 5).toNat) ∨
      (fld d.quotaArming 15 2 = 3 ∧ 1 < (fld d.quotaArming 17 5).toNat) := by
  obtain h | h | h | h := fld2_cases (fld d.quotaArming 15 2) <;> simp [armOk, armSource_eq, h]
  all_goals omega

theorem disarmOk_false_iff : d.disarmOk = false ↔
    (fld d.quotaArming 22 2 = 1 ∧ fld d.quotaArming 24 8 = 0) ∨
      (fld d.quotaArming 22 2 = 2 ∧ 7 < (fld d.quotaArming 24 8).toNat) ∨
      (fld d.quotaArming 22 2 = 3 ∧ 1 < (fld d.quotaArming 24 8).toNat) := by
  obtain h | h | h | h := fld2_cases (fld d.quotaArming 22 2) <;> simp [disarmOk, disarmSource_eq, h]
  all_goals omega

theorem sourcesApart_false_iff : d.sourcesApart = false ↔
    (fld d.quotaArming 15 2 = 2 ∧ fld d.quotaArming 22 2 = 2 ∨ fld d.quotaArming 15 2 = 3 ∧ fld d.quotaArming 22 2 = 3) ∧
      (fld d.quotaArming 17 5).toNat = (fld d.quotaArming 24 8).toNat := by
  obtain h | h | h | h := fld2_cases (fld d.quotaArming 15 2) <;>
    obtain h' | h' | h' | h' := fld2_cases (fld d.quotaArming 22 2) <;>
    simp [sourcesApart, armSource_eq, disarmSource_eq, h, h']

theorem countdownLoad_eq : d.countdownLoad = if fld d.quotaArming 22 2 = 1 then fld d.quotaArming 24 8 else 0 := by
  obtain h | h | h | h := fld2_cases (fld d.quotaArming 22 2) <;> simp [countdownLoad, disarmSource_eq, h]

theorem startState_eq : d.startState = if fld d.quotaArming 15 2 = 0 then .live else .dormant := by
  obtain h | h | h | h := fld2_cases (fld d.quotaArming 15 2) <;> simp [startState, armSource_eq, h]

/-- A definition fails the checks of ENABLE when it fails one of them (R16). -/
theorem enableOk_false_iff (own : Fin 24) : d.enableOk own = false ↔
    (wbit d.control 0 = false ∧ d.limit.toNat < d.base.toNat) ∨ fld d.control 1 2 = 0 ∨
    (1 ≤ (fld d.control 3 3).toNat ∧ fld d.control 1 2 ≠ 2) ∨ (fld d.control 3 3 = 5 ∧ wbit d.control 6 = true) ∨
    5 < (fld d.control 3 3).toNat ∨ 4 < (fld d.control 7 3).toNat ∨
    (wbit d.control 10 = true ∧ fld d.control 13 2 = 2 ∧ wbit d.control 1 = true) ∨
    (wbit d.control 10 = true ∧ fld d.control 13 2 = 3) ∨ (fld d.control 7 3 = 3 ∧ wbit d.control 10 = false) ∨
    (wbit d.control 16 = true ∧ (fld d.quotaArming 0 12 = 0 ∨ fld d.control 17 2 = 3)) ∨
    (fld d.quotaArming 15 2 = 1 ∧ ((fld d.quotaArming 17 5).toNat = own.val ∨ 23 < (fld d.quotaArming 17 5).toNat)) ∨
    (fld d.quotaArming 15 2 = 2 ∧ 7 < (fld d.quotaArming 17 5).toNat) ∨
    (fld d.quotaArming 15 2 = 3 ∧ 1 < (fld d.quotaArming 17 5).toNat) ∨
    (fld d.quotaArming 22 2 = 1 ∧ fld d.quotaArming 24 8 = 0) ∨
    (fld d.quotaArming 22 2 = 2 ∧ 7 < (fld d.quotaArming 24 8).toNat) ∨
    (fld d.quotaArming 22 2 = 3 ∧ 1 < (fld d.quotaArming 24 8).toNat) ∨
    ((fld d.quotaArming 15 2 = 2 ∧ fld d.quotaArming 22 2 = 2 ∨ fld d.quotaArming 15 2 = 3 ∧ fld d.quotaArming 22 2 = 3) ∧
      (fld d.quotaArming 17 5).toNat = (fld d.quotaArming 24 8).toNat) := by
  have haction : d.action?.isSome = false ↔ 4 < (fld d.control 7 3).toNat := by
    rw [← Bool.not_eq_true, action_isSome_iff, not_le]
  simp only [enableOk, Bool.and_eq_false_iff, extentOk_false_iff, noKind_iff, conditionOk_false_iff, haction,
    captureOk_false_iff, quotaOk_false_iff, armOk_false_iff, disarmOk_false_iff, sourcesApart_false_iff, or_assoc]

end RuleDef

/-! ### The request -/

theorem ruleEnable_active {s : State} {r : Fin 24} (h : (s.rule r).state ≠ .disabled) : ruleEnable r s = (.active, s) :=
  if_pos (Rule.isEnabled_iff.mpr h)

theorem ruleEnable_invalid {s : State} {r : Fin 24} (h : (s.rule r).state = .disabled) (hf : (s.rule r).defn.enableOk r = false) :
    ruleEnable r s = (.invalid, s) := by simp [ruleEnable, Rule.isEnabled_eq_false_iff.mpr h, hf]

theorem ruleEnable_taken {s : State} {r : Fin 24} (h : (s.rule r).state = .disabled) (hf : (s.rule r).defn.enableOk r = true) :
    ruleEnable r s = (.accepted, s.setRule r (s.rule r).enabled) := by
  simp [ruleEnable, Rule.isEnabled_eq_false_iff.mpr h, hf]

theorem Rule.enabled_eq (x : Rule) : x.enabled = { x with
    state := if fld x.defn.quotaArming 15 2 = 0 then .live else .dormant
    window := 0
    overQuota := false
    countdown := if fld x.defn.quotaArming 22 2 = 1 then fld x.defn.quotaArming 24 8 else 0 } := by
  rw [← RuleDef.startState_eq, ← RuleDef.countdownLoad_eq]
  rfl

/-- Settles O22. -/
theorem enableChecksAndStartsTheRule : Obligations.EnableChecksAndStartsTheRule := by
  refine fun s r left hw ho => ⟨fun he => ?_, fun hd hf => ?_, fun hd hf => ?_⟩
  · exact word_answered ho (by simp) hw (ruleEnable_active (s := s.setFrame _) (by exact he))
  · exact word_answered ho (by simp) hw (ruleEnable_invalid (s := s.setFrame _) hd
      (((s.rule r).defn.enableOk_false_iff r).mpr hf))
  · rw [← Rule.enabled_eq]
    refine word_answered ho (by simp) hw (ruleEnable_taken (s := s.setFrame _) hd ?_)
    exact Bool.eq_true_of_not_eq_false fun h => hf (((s.rule r).defn.enableOk_false_iff r).mp h)

end Sys2Proof.Machine
end

section
/-! Flags and offers (R84 to R90, R164): which flags a setting leaves set, and what an offer leaves in its queue, by the way the queue
receives it. -/

namespace Sys2Proof.Machine

/-! ### Flags -/

theorem Flag.pos_lt (f : Flag) : f.pos < 23 := by
  cases f <;> simp only [pos] <;> omega

theorem Flag.pos_injective {f g : Flag} (h : f.pos = g.pos) : f = g := by
  cases f <;> cases g <;> simp only [pos] at h <;> grind

namespace Alert

@[simp] theorem takeTick_flags (a : Alert) : a.takeTick.flags = a.flags := by
  unfold takeTick
  split
  · rfl
  · split <;> rfl

@[simp] theorem startPulse_flags (c : BitVec 16) (a : Alert) : (a.startPulse c).flags = a.flags := by
  unfold startPulse
  dsimp only
  split
  · exact takeTick_flags _
  · rfl

@[simp] theorem setFlag_flags (c : BitVec 16) (f : Flag) (a : Alert) : (a.setFlag c f).flags = a.flags ||| f.mask := by
  unfold setFlag
  dsimp only
  split
  · split
    · exact startPulse_flags c _
    · rfl
  · rfl

@[simp] theorem commandEnds_flags (start : LastTick) (a : Alert) : (a.commandEnds start).flags = a.flags := by
  obtain ⟨p, h⟩ := State.commandEnds_frame start a
  rw [h]

/-- A setting sets its own flag and no other (R164). -/
theorem flagSet_setFlag (c : BitVec 16) (f g : Flag) (a : Alert) :
    (a.setFlag c f).flagSet g = true ↔ g = f ∨ a.flagSet g = true := by
  have own : f.mask.getLsbD g.pos = true ↔ g = f := by
    constructor
    · intro h
      simp only [Flag.mask, BitVec.getLsbD_shiftLeft, BitVec.getLsbD_one, Bool.and_eq_true, decide_eq_true_eq, Bool.not_eq_true',
        decide_eq_false_iff_not] at h
      exact Flag.pos_injective (by omega)
    · rintro rfl
      simp [Flag.mask, g.pos_lt]
  rw [flagSet, setFlag_flags, BitVec.getLsbD_or, Bool.or_eq_true, own, or_comm]
  rfl

end Alert

namespace State

theorem flagSet_setFlag (s : State) (f g : Flag) : (s.setFlag f).alert.flagSet g = true ↔ g = f ∨ s.alert.flagSet g = true :=
  Alert.flagSet_setFlag _ f g s.alert

theorem flagSet_setFlag_self (s : State) (f : Flag) : (s.setFlag f).alert.flagSet f = true := (flagSet_setFlag s f f).mpr (.inl rfl)

/-- No flag is cleared. -/
def FlagsGrow (s t : State) : Prop := ∀ f, s.alert.flagSet f = true → t.alert.flagSet f = true

theorem FlagsGrow.of_flags {s t : State} (h : t.alert.flags = s.alert.flags) : FlagsGrow s t := fun f hf => by
  rwa [Alert.flagSet, h]

theorem FlagsGrow.flag (s : State) (g : Flag) : FlagsGrow s (s.setFlag g) := fun f hf => (flagSet_setFlag s g f).mpr (.inr hf)

/-- No effect clears a flag: that is for the clear-flags write and RESTART (R165, R173). -/
theorem effectClosed_flags : EffectClosed FlagsGrow where
  refl _ _ := id
  trans h h' f := h' f ∘ h f
  draw _ _ := id
  flag := FlagsGrow.flag
  place s n b _ := by
    have lost : ∀ u : State, FlagsGrow u (u.loseIn n) := fun u => FlagsGrow.flag (u.setQueue n _) _
    unfold placeIn placeAt
    split
    · exact fun _ => id
    · exact lost _
    · exact lost s
  arm s _ := .of_flags (congrArg Alert.flags (mapRules_alert s _))
  disarm s _ := .of_flags (congrArg Alert.flags (mapRules_alert s _))
  windows s _ := .of_flags (congrArg Alert.flags (mapRules_alert s _))
  expired _ _ _ _ := id
  triggered _ _ _ := id
  sampled _ _ _ _ _ := id
  counted _ _ _ := id
  stamped _ _ _ := id
  reopened _ _ _ _ := id
  pulseEnded _ _ _ := id

/-! ### Offers by the reception (R85 to R90) -/

end State

namespace Queue

theorem reception_room {q : Queue} (hon : q.on = true) (hroom : q.list.length < q.depth) : q.reception = .room :=
  (reception_room_iff q).mpr ⟨hon, hroom⟩

theorem full_eq {q : Queue} (h : q.depth ≤ q.list.length) : q.full = true := decide_eq_true h

theorem reception_stop {q : Queue} (hon : q.on = true) (hfull : q.depth ≤ q.list.length) (hp : fld q.config 12 2 ≠ 1) :
    q.reception = .refuse := by
  have policy : q.overwrite = false := beq_eq_false_iff_ne.mpr hp
  simp [reception, hon, full_eq hfull, policy]

theorem reception_overwrite {q : Queue} {r : Record} {l : List Record} (hon : q.on = true) (hfull : q.depth ≤ q.list.length)
    (hp : fld q.config 12 2 = 1) (hl : q.list = r :: l) : q.reception = if r.isPending then .refuse else .displace := by
  have policy : q.overwrite = true := beq_iff_eq.mpr hp
  have full := full_eq hfull
  simp only [reception, hon, full, policy, hl, Bool.not_true]
  rfl

/-- A full queue that is ON either refuses a record or displaces one. -/
theorem reception_full {q : Queue} (hfull : q.depth ≤ q.list.length) : q.reception = .refuse ∨ q.reception = .displace := by
  cases h : q.reception with
  | room =>
    have := ((reception_room_iff q).mp h).2
    omega
  | displace => exact .inr rfl
  | refuse => exact .inl rfl

end Queue

namespace State

theorem placeAt_room {s : State} {n : Fin 4} (h : (s.queue n).reception = .room) (w : Word) (b : RecordBody) :
    s.placeAt w n b = (s.append w n b, true) := by simp only [placeAt, h]

theorem placeAt_displace {s : State} {n : Fin 4} (h : (s.queue n).reception = .displace) (w : Word) (b : RecordBody) :
    s.placeAt w n b = (((s.dropOldest n).loseIn n).append w n b, true) := by simp only [placeAt, h]

theorem placeAt_refuse {s : State} {n : Fin 4} (h : (s.queue n).reception = .refuse) (w : Word) (b : RecordBody) :
    s.placeAt w n b = (s.loseIn n, false) := by simp only [placeAt, h]

variable {s : State} {n : Fin 4}

theorem offer_queue_room (h : (s.queue n).reception = .room) (b : RecordBody) :
    (s.offer n b).queue n = { s.queue n with list := (s.queue n).list ++ [⟨s.nextSerial, s.timebase.timestamp, b⟩] } := by
  rw [offer_queue, placeIn, placeAt_room h, append_queue, if_pos rfl]

theorem offer_queue_refuse (h : (s.queue n).reception = .refuse) (b : RecordBody) : (s.offer n b).queue n = (s.queue n).lose := by
  rw [offer_queue, placeIn, placeAt_refuse h, loseIn_queue, if_pos rfl]

theorem offer_queue_displace (h : (s.queue n).reception = .displace) (b : RecordBody) : (s.offer n b).queue n =
    { (s.queue n).lose with list := (s.queue n).list.tail ++ [⟨s.nextSerial, s.timebase.timestamp, b⟩] } := by
  rw [offer_queue, placeIn, placeAt_displace h, append_queue, if_pos rfl, loseIn_queue, if_pos rfl, dropOldest_queue, if_pos rfl]
  rfl

theorem offer_queue_ne {m : Fin 4} (h : m ≠ n) (b : RecordBody) : (s.offer n b).queue m = s.queue m := by
  rw [offer_queue]
  exact placeAt_queue_ne s _ (Ne.symm h) b

theorem flags_judgeNotify (s : State) (n : Fin 4) (k : Nat) : FlagsGrow s (s.judgeNotify n k) :=
  effectClosed_flags.judgeNotify s n k

theorem loseIn_flagSet (s : State) (n : Fin 4) : (s.loseIn n).alert.flagSet (.qo n) = true := flagSet_setFlag_self _ _

/-- A loss sets QOn (R90). -/
theorem offer_flagSet_qo (h : (s.queue n).reception ≠ .room) (b : RecordBody) : (s.offer n b).alert.flagSet (.qo n) = true := by
  refine flags_judgeNotify _ n _ _ ?_
  cases hr : (s.queue n).reception with
  | room => exact absurd hr h
  | displace =>
    rw [placeIn, placeAt_displace hr]
    exact loseIn_flagSet (s.dropOldest n) n
  | refuse =>
    rw [placeIn, placeAt_refuse hr]
    exact loseIn_flagSet s n

/-- The placement itself sets no notify flag. -/
theorem placeIn_flagSet_qn (s : State) (n m : Fin 4) (b : RecordBody) :
    (s.placeIn n b).1.alert.flagSet (.qn m) = s.alert.flagSet (.qn m) := by
  have lost : ∀ u : State, (u.loseIn n).alert.flagSet (.qn m) = u.alert.flagSet (.qn m) := fun u => by
    refine Bool.eq_iff_iff.mpr ((flagSet_setFlag (u.setQueue n _) (.qo n) (.qn m)).trans ?_)
    exact ⟨fun h => h.resolve_left nofun, .inr⟩
  unfold placeIn placeAt
  split
  · rfl
  · exact lost (s.dropOldest n)
  · exact lost s

/-- QNn is judged on the available count before and after the placement (R84). -/
theorem offer_flagSet_qn (hs : s.alert.flagSet (.qn n) = false) (b : RecordBody) : (s.offer n b).alert.flagSet (.qn n) = true ↔
    (s.queue n).available < (s.queue n).notify ∧ (s.queue n).notify ≤ ((s.offer n b).queue n).available := by
  have same : ((s.placeIn n b).1.queue n).notify = (s.queue n).notify := by
    rw [Queue.notify, placeIn, (placeAt_queue_config s _ n n b).1]
    rfl
  have before : (s.placeIn n b).1.alert.flagSet (.qn n) = false := (placeIn_flagSet_qn s n n b).trans hs
  rw [offer_queue, offer, judgeNotify, same]
  split
  next h => exact ⟨fun _ => h, fun _ => flagSet_setFlag_self _ _⟩
  next h => exact ⟨fun hf => absurd (before.symm.trans hf) nofun, fun h' => absurd h' h⟩

end State

/-- Settles O28, by the reception of the offer. -/
theorem offerMeetsTheQueueAsItStands : Obligations.OfferMeetsTheQueueAsItStands := by
  intro s n b
  refine ⟨fun hoff => ?_, fun hon hroom => ?_, fun hon hfull hp => ?_, fun r l hon hfull hp hl => ⟨fun hpend => ?_, fun hdone => ?_⟩,
    fun hloss => ?_, fun hoff => ?_, fun hon hfull => ?_, fun hs => ?_, fun m hm => ?_⟩
  · exact State.offer_queue_refuse (Queue.reception_off hoff) b
  · exact State.offer_queue_room (Queue.reception_room hon hroom) b
  · exact State.offer_queue_refuse (Queue.reception_stop hon hfull hp) b
  · exact State.offer_queue_refuse ((Queue.reception_overwrite hon hfull hp hl).trans (if_pos hpend)) b
  · have displaced := Queue.reception_overwrite hon hfull hp hl
    rw [hdone] at displaced
    rw [State.offer_queue_displace displaced, hl]
    rfl
  · exact State.offer_flagSet_qo (fun hr => hloss (by rw [State.offer_queue_room hr])) b
  · exact State.offer_flagSet_qo (by rw [Queue.reception_off hoff]; exact nofun) b
  · exact State.offer_flagSet_qo (by obtain h | h := Queue.reception_full hfull <;> rw [h] <;> exact nofun) b
  · exact State.offer_flagSet_qn hs b
  · exact State.offer_queue_ne hm b

end Sys2Proof.Machine
end

section
/-! The write gate (R151 to R163): what each move of the gate leaves of the gate itself, which records it offers, and that it touches
nothing else. -/

namespace Sys2Proof.Machine

namespace State

/-! ### A record offered to a record queue that may be absent (R100) -/

/-- `t` is `s` after the record was offered to the queue, as far as the queues see it. -/
structure Offered (s : State) (q : Option (Fin 4)) (b : RecordBody) (t : State) : Prop where
  absent : q = none → t.queues = s.queues
  others : ∀ n, q = some n → ∀ m, m ≠ n → t.queue m = s.queue m
  room : ∀ n, q = some n → (s.queue n).on = true → (s.queue n).list.length < (s.queue n).depth →
    t.queue n = { s.queue n with list := (s.queue n).list ++ [⟨s.nextSerial, s.timebase.timestamp, b⟩] }
  off : ∀ n, q = some n → (s.queue n).on = false →
    t.alert.flagSet (.qo n) = true ∧ t.queue n = { s.queue n with loss := satInc (s.queue n).loss }

theorem offerTo_offered (s : State) (q : Option (Fin 4)) (b : RecordBody) : Offered s q b (s.offerTo q b) where
  absent h := by rw [h, offerTo]
  others n h m hm := by
    rw [h, offerTo]
    exact offer_queue_ne hm b
  room n h hon hroom := by
    rw [h, offerTo]
    exact offer_queue_room (Queue.reception_room hon hroom) b
  off n h hoff := by
    have refused := Queue.reception_off hoff
    rw [h, offerTo]
    exact ⟨offer_flagSet_qo (by rw [refused]; exact nofun) b, offer_queue_refuse refused b⟩

/-- The end of a command and its answer leave the queues and the flags. -/
theorem Offered.ends {s u : State} {q : Option (Fin 4)} {b : RecordBody} (h : Offered s q b u) (s₀ : State) :
    Offered s q b (s₀.endCommand u) :=
  ⟨h.absent, h.others, h.room, fun n hn hoff => ⟨(endCommand_flagSet ..).trans (h.off n hn hoff).1, (h.off n hn hoff).2⟩⟩

theorem Offered.list {s t : State} {q : Option (Fin 4)} {b : RecordBody} (h : Offered s q b t) {n : Fin 4} (hq : q = some n)
    (hon : (s.queue n).on = true) (hroom : (s.queue n).list.length < (s.queue n).depth) :
    (t.queue n).list = (s.queue n).list ++ [⟨s.nextSerial, s.timebase.timestamp, b⟩] := by rw [h.room n hq hon hroom]

theorem judgeNotify_nextSerial (s : State) (n : Fin 4) (k : Nat) : (s.judgeNotify n k).nextSerial = s.nextSerial := by
  unfold judgeNotify
  dsimp only
  split <;> rfl

/-- A placed record takes the next number (log 16). -/
theorem offer_nextSerial_room {s : State} {n : Fin 4} (h : (s.queue n).reception = .room) (b : RecordBody) :
    (s.offer n b).nextSerial = s.nextSerial + 1 := by
  rw [offer, judgeNotify_nextSerial, placeIn, placeAt_room h]
  rfl

/-! ### What a move of the gate touches -/

/-- `t` differs from `s` at most in the gate, the queues, the record number and the alert controller. -/
def GateFrame (s t : State) : Prop :=
  ∃ (g : Gate) (q : Vector Queue 4) (k : Nat) (l : Alert), t = { s with gate := g, queues := q, nextSerial := k, alert := l }

namespace GateFrame

theorem refl (s : State) : GateFrame s s := ⟨_, _, _, _, rfl⟩

theorem trans {s t u : State} (h : GateFrame s t) (h' : GateFrame t u) : GateFrame s u := by
  obtain ⟨_, _, _, _, rfl⟩ := h
  obtain ⟨_, _, _, _, rfl⟩ := h'
  exact ⟨_, _, _, _, rfl⟩

theorem of_records {s t : State} (h : RecordFrame s t) : GateFrame s t := by
  obtain ⟨_, _, _, rfl⟩ := h
  exact ⟨_, _, _, _, rfl⟩

theorem gate (s : State) (g : Gate) : GateFrame s { s with gate := g } := ⟨_, _, _, _, rfl⟩

variable {s t : State} (h : GateFrame s t)
include h

theorem powered : t.powered = s.powered := by obtain ⟨_, _, _, _, rfl⟩ := h; rfl
theorem pins : t.pins = s.pins := by obtain ⟨_, _, _, _, rfl⟩ := h; rfl
theorem path : t.path = s.path := by obtain ⟨_, _, _, _, rfl⟩ := h; rfl
theorem defaultActions : t.defaultActions = s.defaultActions := by obtain ⟨_, _, _, _, rfl⟩ := h; rfl
theorem unmatched : t.unmatched = s.unmatched := by obtain ⟨_, _, _, _, rfl⟩ := h; rfl
theorem rules : t.rules = s.rules := by obtain ⟨_, _, _, _, rfl⟩ := h; rfl
theorem copy : t.copy = s.copy := by obtain ⟨_, _, _, _, rfl⟩ := h; rfl
theorem timebase : t.timebase = s.timebase := by obtain ⟨_, _, _, _, rfl⟩ := h; rfl
theorem timers : t.timers = s.timers := by obtain ⟨_, _, _, _, rfl⟩ := h; rfl
theorem inputs : t.inputs = s.inputs := by obtain ⟨_, _, _, _, rfl⟩ := h; rfl
theorem link : t.link = s.link := by obtain ⟨_, _, _, _, rfl⟩ := h; rfl
theorem store : t.store = s.store := by obtain ⟨_, _, _, _, rfl⟩ := h; rfl

/-- What the statements about the gate list as untouched. -/
theorem blocks : t.path = s.path ∧ t.rules = s.rules ∧ t.timers = s.timers ∧ t.inputs = s.inputs ∧ t.store = s.store :=
  ⟨h.path, h.rules, h.timers, h.inputs, h.store⟩

end GateFrame

theorem gateEnterClosed_gateFrame (s : State) : GateFrame s s.gateEnterClosed :=
  (GateFrame.gate s _).trans (.of_records ((setFlag_frame _ _).trans (offerTo_frame _ _ _)))

theorem gateEnterOpen_gateFrame (s : State) : GateFrame s s.gateEnterOpen :=
  (GateFrame.gate s _).trans (.of_records (offerTo_frame _ _ _))

theorem gateLeaveClosed_gateFrame (s : State) : GateFrame s s.gateLeaveClosed := by
  unfold gateLeaveClosed
  split
  · split
    · exact .gate s _
    · exact gateEnterOpen_gateFrame s
  · exact .refl s

theorem gateEndDrain_gateFrame (s : State) : GateFrame s s.gateEndDrain := by
  unfold gateEndDrain
  split
  · exact (gateEnterClosed_gateFrame s).trans (gateLeaveClosed_gateFrame _)
  · exact .refl s

/-! ### The entries (R156, R159) -/

/-- The record of an entry to CLOSED. -/
def closedRecord (g : Gate) : RecordBody := .gateClosed (if g.powerSeen then .power else .service)

theorem gateEnterClosed_offered (s : State) : Offered s s.gate.recordQueue (closedRecord s.gate) s.gateEnterClosed := by
  have h := offerTo_offered (({ s with gate := { s.gate with state := .closed, refused := 0 } }).setFlag .gate) s.gate.recordQueue
    (closedRecord s.gate)
  exact ⟨h.absent, h.others, h.room, h.off⟩

theorem gateEnterClosed_flagSet (s : State) : s.gateEnterClosed.alert.flagSet .gate = true :=
  effectClosed_flags.offerTo _ _ (closedRecord s.gate) (by rw [closedRecord]; exact nofun) _ (flagSet_setFlag_self _ _)

theorem gateEnterOpen_offered (s : State) : Offered s s.gate.recordQueue (.gateOpened s.gate.refused) s.gateEnterOpen := by
  have h := offerTo_offered { s with gate := { s.gate with state := .opened, powerSeen := false, holdOff := 0, tickOwed := false } }
    s.gate.recordQueue (.gateOpened s.gate.refused)
  exact ⟨h.absent, h.others, h.room, h.off⟩

/-! ### The moves, by the state of the gate -/

variable {s : State}

theorem gateCauseArrival_opened (h : s.gate.state = .opened) (hf : s.gate.inFlight = false) :
    s.gateCauseArrival = s.gateEnterClosed := by
  simp only [gateCauseArrival, h, hf]
  exact if_neg nofun

theorem gateCauseArrival_writing (h : s.gate.state = .opened) (hf : s.gate.inFlight = true) :
    s.gateCauseArrival = { s with gate := { s.gate with state := .draining } } := by
  simp only [gateCauseArrival, h, hf, if_true]

theorem gateCauseArrival_reopening (h : s.gate.state = .reopening) :
    s.gateCauseArrival = { s with gate := { s.gate with state := .closed, holdOff := 0, tickOwed := false } } := by
  simp only [gateCauseArrival, h]
  rfl

theorem gateCauseArrival_recorded (h : s.gate.state = .closed ∨ s.gate.state = .draining) : s.gateCauseArrival = s := by
  obtain h | h := h <;> simp only [gateCauseArrival, h]

theorem noCause_iff (g : Gate) : g.noCause = true ↔ g.pfail = false ∧ g.hold = false := by simp [Gate.noCause]

theorem gateLeaveClosed_stays (h : s.gate.state ≠ .closed ∨ s.gate.pfail = true ∨ s.gate.hold = true) : s.gateLeaveClosed = s := by
  refine if_neg fun hc => ?_
  obtain ⟨hp, hh⟩ := (noCause_iff _).mp hc.2
  obtain h | h | h := h
  · exact h hc.1
  · exact absurd (hp.symm.trans h) nofun
  · exact absurd (hh.symm.trans h) nofun

theorem gateLeaveClosed_reopens (h : s.gate.state = .closed) (hp : s.gate.pfail = false) (hh : s.gate.hold = false)
    (hm : s.gate.powerSeen = true) : s.gateLeaveClosed = { s with gate := { s.gate with
      state := .reopening, holdOff := fld s.gate.config 8 8, holdOffTap := fld s.gate.config 16 3, tickOwed := false } } :=
  (if_pos ⟨h, (noCause_iff _).mpr ⟨hp, hh⟩⟩).trans (if_pos hm)

theorem gateLeaveClosed_opens (h : s.gate.state = .closed) (hp : s.gate.pfail = false) (hh : s.gate.hold = false)
    (hm : s.gate.powerSeen = false) : s.gateLeaveClosed = s.gateEnterOpen :=
  (if_pos ⟨h, (noCause_iff _).mpr ⟨hp, hh⟩⟩).trans (if_neg (by rw [hm]; exact nofun))

theorem gateSetHold_held (h : s.gate.hold = true) : s.gateSetHold = s := if_pos h

theorem gateSetHold_clear (h : s.gate.hold = false) :
    s.gateSetHold = ({ s with gate := { s.gate with hold := true } }).gateCauseArrival := if_neg (by rw [h]; exact nofun)

theorem gateClearHold_held (h : s.gate.hold = true) :
    s.gateClearHold = ({ s with gate := { s.gate with hold := false } }).gateLeaveClosed := if_pos h

theorem gateSetHold_opened (h : s.gate.hold = false) (hs : s.gate.state = .opened) (hf : s.gate.inFlight = false) :
    s.gateSetHold = ({ s with gate := { s.gate with hold := true } }).gateEnterClosed :=
  (gateSetHold_clear h).trans (gateCauseArrival_opened (s := { s with gate := { s.gate with hold := true } }) hs hf)

theorem gateSetHold_writing (h : s.gate.hold = false) (hs : s.gate.state = .opened) (hf : s.gate.inFlight = true) :
    s.gateSetHold = { s with gate := { s.gate with hold := true, state := .draining } } :=
  (gateSetHold_clear h).trans (gateCauseArrival_writing (s := { s with gate := { s.gate with hold := true } }) hs hf)

theorem gateSetHold_reopening (h : s.gate.hold = false) (hs : s.gate.state = .reopening) :
    s.gateSetHold = { s with gate := { s.gate with hold := true, state := .closed, holdOff := 0, tickOwed := false } } :=
  (gateSetHold_clear h).trans (gateCauseArrival_reopening (s := { s with gate := { s.gate with hold := true } }) hs)

theorem gateSetHold_recorded (h : s.gate.hold = false) (hs : s.gate.state = .closed ∨ s.gate.state = .draining) :
    s.gateSetHold = { s with gate := { s.gate with hold := true } } :=
  (gateSetHold_clear h).trans (gateCauseArrival_recorded (s := { s with gate := { s.gate with hold := true } }) hs)

theorem gateClearHold_opens (h : s.gate.hold = true) (hs : s.gate.state = .closed) (hp : s.gate.pfail = false)
    (hm : s.gate.powerSeen = false) : s.gateClearHold = ({ s with gate := { s.gate with hold := false } }).gateEnterOpen :=
  (gateClearHold_held h).trans (gateLeaveClosed_opens (s := { s with gate := { s.gate with hold := false } }) hs hp rfl hm)

theorem gateClearHold_reopens (h : s.gate.hold = true) (hs : s.gate.state = .closed) (hp : s.gate.pfail = false)
    (hm : s.gate.powerSeen = true) : s.gateClearHold = { s with gate := { s.gate with
      hold := false, state := .reopening, holdOff := fld s.gate.config 8 8, holdOffTap := fld s.gate.config 16 3
      tickOwed := false } } :=
  (gateClearHold_held h).trans (gateLeaveClosed_reopens (s := { s with gate := { s.gate with hold := false } }) hs hp rfl hm)

theorem gateClearHold_stays (h : s.gate.hold = true) (hs : s.gate.state ≠ .closed ∨ s.gate.pfail = true) :
    s.gateClearHold = { s with gate := { s.gate with hold := false } } :=
  (gateClearHold_held h).trans (gateLeaveClosed_stays (s := { s with gate := { s.gate with hold := false } }) (hs.imp_right .inl))

theorem gateEndDrain_due (h : s.gate.state = .draining) (hf : s.gate.inFlight = false) :
    s.gateEndDrain = s.gateEnterClosed.gateLeaveClosed := if_pos (by simp [Gate.drainDue, h, hf])

end State

/-! ### GATE_HOLD and GATE_RELEASE (R152) -/

/-- An operation whose result is left as it is. -/
theorem word_run {s : State} {a : ServiceAddr} {left : Nat} (op : State → Status × State) (ho : s.WritesOpen)
    (hm : targetOf a ≠ .unmapped) (hw : s.AwaitsWord a left) :
    whenPowered (State.serviceWrite a op) s = .next
      ((op (s.setFrame (.data .write (a + 1) left))).2.setStatus (op (s.setFrame (.data .write (a + 1) left))).1 false) := by
  rw [whenPowered_on hw.1]
  exact congrArg _ (State.serviceWrite_passed op hw (State.linkCheck_open ho hm))

theorem gateHoldWrite_eq {s t : State} (h : s.gateSetHold = t) (ht : t.alert = s.alert) : gateHoldWrite s = (.accepted, t) := by
  rw [gateHoldWrite, h, State.endCommand_of_eq (by rw [ht])]

theorem gateReleaseWrite_eq {s t : State} (h : s.gateClearHold = t) (ht : t.alert = s.alert) : gateReleaseWrite s = (.accepted, t) := by
  rw [gateReleaseWrite, h, State.endCommand_of_eq (by rw [ht])]

theorem gateConfigWrite_ok {v : Word} (h : Gate.configOk v = true) (s : State) :
    gateConfigWrite v s = (.accepted, { s with gate := { s.gate with config := v &&& Gate.configMask } }) := if_pos h

theorem gateConfigWrite_bad {v : Word} (h : ¬ Gate.configOk v = true) (s : State) : gateConfigWrite v s = (.invalid, s) := if_neg h

theorem exec_gateHold (s : State) : exec .gateHold s = whenPowered (State.serviceWrite gateActionAddr gateHoldWrite) s := rfl
theorem exec_gateRelease (s : State) : exec .gateRelease s = whenPowered (State.serviceWrite gateActionAddr gateReleaseWrite) s := rfl

/-- GATE_HOLD of an OPEN gate with no write in flight: a SERVICE closure. -/
theorem gateHold_closes {s : State} {left : Nat} (hw : s.AwaitsWord gateActionAddr left) (ho : s.WritesOpen)
    (hh : s.gate.hold = false) (hs : s.gate.state = .opened) (hf : s.gate.inFlight = false) (hm : s.gate.powerSeen = false) :
    ∃ t, exec .gateHold s = .next t ∧ t.gate = { s.gate with hold := true, state := .closed, refused := 0 } ∧
      t.alert.flagSet .gate = true ∧ t.link = (s.answered gateActionAddr left .accepted false).link ∧
      State.Offered s s.gate.recordQueue (.gateClosed .service) t ∧
      t.path = s.path ∧ t.rules = s.rules ∧ t.timers = s.timers ∧ t.inputs = s.inputs ∧ t.store = s.store := by
  let u := { s.setFrame (.data .write (gateActionAddr + 1) left) with gate := { s.gate with hold := true } }
  have closes := State.gateSetHold_opened (s := s.setFrame (.data .write (gateActionAddr + 1) left)) hh hs hf
  refine ⟨_, word_run gateHoldWrite ho (by simp) hw, ?_⟩
  rw [gateHoldWrite, closes]
  have frame := State.gateEnterClosed_gateFrame u
  have offered := State.gateEnterClosed_offered u
  rw [State.closedRecord, show u.gate.powerSeen = false from hm, if_neg nofun] at offered
  have ended := offered.ends (s.setFrame (.data .write (gateActionAddr + 1) left))
  refine ⟨State.gateEnterClosed_gate u, ?_, ?_, ⟨ended.absent, ended.others, ended.room, ended.off⟩, frame.blocks⟩
  · exact (State.endCommand_flagSet ..).trans (State.gateEnterClosed_flagSet u)
  · exact congrArg (fun l : Link => { l with status := .accepted, pendingMark := false }) frame.link

/-- GATE_RELEASE of the last cause, with the mark clear: the gate opens. -/
theorem gateRelease_opens {s : State} {left : Nat} (hw : s.AwaitsWord gateActionAddr left) (ho : s.WritesOpen)
    (hh : s.gate.hold = true) (hs : s.gate.state = .closed) (hp : s.gate.pfail = false) (hm : s.gate.powerSeen = false) :
    ∃ t, exec .gateRelease s = .next t ∧
      t.gate = { s.gate with hold := false, state := .opened, holdOff := 0, tickOwed := false } ∧
      t.link = (s.answered gateActionAddr left .accepted false).link ∧
      State.Offered s s.gate.recordQueue (.gateOpened s.gate.refused) t ∧
      t.path = s.path ∧ t.rules = s.rules ∧ t.timers = s.timers ∧ t.inputs = s.inputs ∧ t.store = s.store := by
  let u := { s.setFrame (.data .write (gateActionAddr + 1) left) with gate := { s.gate with hold := false } }
  have opens := State.gateClearHold_opens (s := s.setFrame (.data .write (gateActionAddr + 1) left)) hh hs hp hm
  refine ⟨_, word_run gateReleaseWrite ho (by simp) hw, ?_⟩
  rw [gateReleaseWrite, opens]
  have frame := State.gateEnterOpen_gateFrame u
  have ended := (State.gateEnterOpen_offered u).ends (s.setFrame (.data .write (gateActionAddr + 1) left))
  refine ⟨?_, ?_, ⟨ended.absent, ended.others, ended.room, ended.off⟩, frame.blocks⟩
  · have gate := State.gateEnterOpen_gate u
    rw [show u.gate = { s.gate with hold := false } from rfl] at gate
    rw [State.setStatus_gate, State.endCommand_gate]
    refine gate.trans ?_
    simp [hm]
  · exact congrArg (fun l : Link => { l with status := .accepted, pendingMark := false }) frame.link

/-- Settles O42. -/
theorem gateWordsAreTakenInEveryState : Obligations.GateWordsAreTakenInEveryState := by
  refine ⟨fun s left hw ho => ⟨fun hh => ?_, fun hh => ?_, fun hh hs hf => ?_, fun hh hs hf hm => ?_, fun hh hs => ?_, fun hh hs => ?_,
    fun hh hs hp hm => ?_, fun hh hs hp hm => ?_, fun hh hs => ?_⟩, fun s v left hw ho => ⟨fun hok => ?_, fun hbad => ?_⟩⟩
  · exact word_answered ho (by simp) hw (gateHoldWrite_eq (s := s.setFrame _) (State.gateSetHold_held hh) rfl)
  · exact word_answered ho (by simp) hw (gateReleaseWrite_eq (s := s.setFrame _) (State.gateClearHold_of_clear hh) rfl)
  · exact word_answered ho (by simp) hw (gateHoldWrite_eq (State.gateSetHold_writing (s := s.setFrame _) hh hs hf) rfl)
  · obtain ⟨t, ht, hgate, hflag, hlink, hoffer, hrest⟩ := gateHold_closes hw ho hh hs hf hm
    exact ⟨t, ht, hgate, hflag, hlink, hoffer.absent, fun n => hoffer.list, hrest⟩
  · exact word_answered ho (by simp) hw (gateHoldWrite_eq (State.gateSetHold_reopening (s := s.setFrame _) hh hs) rfl)
  · exact word_answered ho (by simp) hw (gateHoldWrite_eq (State.gateSetHold_recorded (s := s.setFrame _) hh hs) rfl)
  · obtain ⟨t, ht, hgate, hlink, hoffer, hrest⟩ := gateRelease_opens hw ho hh hs hp hm
    exact ⟨t, ht, hgate, hlink, hoffer.absent, fun n => hoffer.list, hrest⟩
  · exact word_answered ho (by simp) hw (gateReleaseWrite_eq (State.gateClearHold_reopens (s := s.setFrame _) hh hs hp hm) rfl)
  · exact word_answered ho (by simp) hw (gateReleaseWrite_eq (State.gateClearHold_stays (s := s.setFrame _) hh hs) rfl)
  · exact word_answered ho (by simp) hw (gateConfigWrite_ok ((Gate.configOk_iff v).mpr hok) _)
  · exact word_answered ho (by simp) hw (gateConfigWrite_bad (fun h => hbad ((Gate.configOk_iff v).mp h)) _)

end Sys2Proof.Machine
end

section
/-! PFAIL, the end of a drain and the end of a hold-off (R151, R154 to R161), by the moves of the gate. -/

namespace Sys2Proof.Machine

namespace State

variable {s : State}

/-! ### The end of a drain (R155, R156, R159) -/

theorem gateEnterClosed_nextSerial {n : Fin 4} (hq : s.gate.recordQueue = some n) (hr : (s.queue n).reception = .room) :
    s.gateEnterClosed.nextSerial = s.nextSerial + 1 := by
  let u : State := ({ s with gate := { s.gate with state := .closed, refused := 0 } }).setFlag .gate
  have entered : s.gateEnterClosed = u.offerTo s.gate.recordQueue (closedRecord s.gate) := rfl
  have placed : (u.offer n (closedRecord s.gate)).nextSerial = u.nextSerial + 1 :=
    offer_nextSerial_room (s := u) hr _
  rw [entered, hq]
  exact placed

/-- The gate at the end of a drain. -/
theorem gateEndDrain_gate (h : s.gate.state = .draining) (hf : s.gate.inFlight = false) :
    (s.gate.pfail = true ∨ s.gate.hold = true → s.gateEndDrain.gate = { s.gate with state := .closed, refused := 0 }) ∧
    (s.gate.pfail = false → s.gate.hold = false → s.gate.powerSeen = true → s.gateEndDrain.gate = { s.gate with
      state := .reopening, refused := 0, holdOff := fld s.gate.config 8 8, holdOffTap := fld s.gate.config 16 3
      tickOwed := false }) ∧
    (s.gate.pfail = false → s.gate.hold = false → s.gate.powerSeen = false → s.gateEndDrain.gate = { s.gate with
      state := .opened, refused := 0, holdOff := 0, tickOwed := false }) := by
  rw [gateEndDrain_due h hf, gateLeaveClosed_gate, gateEnterClosed_gate]
  refine ⟨fun hc => if_neg fun hn => ?_, fun hp hh hm => ?_, fun hp hh hm => ?_⟩
  · obtain ⟨hp, hh⟩ := (noCause_iff _).mp hn.2
    obtain h' | h' := hc
    · exact absurd (hp.symm.trans h') nofun
    · exact absurd (hh.symm.trans h') nofun
  · exact (if_pos ⟨rfl, (noCause_iff _).mpr ⟨hp, hh⟩⟩).trans (if_pos hm)
  · refine (if_pos ⟨rfl, (noCause_iff _).mpr ⟨hp, hh⟩⟩).trans ((if_neg (by simp [hm])).trans ?_)
    simp [hm]

theorem gateEndDrain_flagSet (h : s.gate.state = .draining) (hf : s.gate.inFlight = false) :
    s.gateEndDrain.alert.flagSet .gate = true := by
  rw [gateEndDrain_due h hf]
  have entered := gateEnterClosed_flagSet s
  unfold gateLeaveClosed
  split
  · split
    · exact entered
    · exact effectClosed_flags.offerTo _ _ (.gateOpened s.gateEnterClosed.gate.refused) nofun _ entered
  · exact entered

/-- With a cause or the mark left the gate stays CLOSED or reopens: one record. -/
theorem gateEndDrain_offered (h : s.gate.state = .draining) (hf : s.gate.inFlight = false)
    (hc : s.gate.pfail = true ∨ s.gate.hold = true ∨ s.gate.powerSeen = true) :
    Offered s s.gate.recordQueue (closedRecord s.gate) s.gateEndDrain := by
  have entered := gateEnterClosed_offered s
  have gate := gateEnterClosed_gate s
  rw [gateEndDrain_due h hf]
  unfold gateLeaveClosed
  split
  next hn =>
    obtain ⟨hp, hh⟩ := (noCause_iff _).mp hn.2
    rw [gate] at hp hh
    have mark : s.gate.powerSeen = true := by
      obtain h' | h' | h' := hc
      · exact absurd (hp.symm.trans h') nofun
      · exact absurd (hh.symm.trans h') nofun
      · exact h'
    rw [if_pos (by rw [gate]; exact mark)]
    exact ⟨entered.absent, entered.others, entered.room, entered.off⟩
  · exact entered

/-- With no cause and no mark the gate opens behind its closing: two records side by side. -/
theorem gateEndDrain_opens (h : s.gate.state = .draining) (hf : s.gate.inFlight = false) (hp : s.gate.pfail = false)
    (hh : s.gate.hold = false) (hm : s.gate.powerSeen = false) :
    Offered s s.gate.recordQueue (closedRecord s.gate) s.gateEnterClosed ∧
      Offered s.gateEnterClosed s.gate.recordQueue (.gateOpened 0) s.gateEndDrain := by
  have gate := gateEnterClosed_gate s
  have opened := gateEnterOpen_offered s.gateEnterClosed
  rw [gateEndDrain_due h hf, gateLeaveClosed_opens (by rw [gate]) (by rw [gate]; exact hp) (by rw [gate]; exact hh) (by rw [gate]; exact hm)]
  rw [gate] at opened
  exact ⟨gateEnterClosed_offered s, opened⟩

theorem gateEndDrain_record (h : s.gate.state = .draining) (hf : s.gate.inFlight = false) {n : Fin 4}
    (hq : s.gate.recordQueue = some n) :
    let q := s.queue n
    let stays := s.gate.pfail = true ∨ s.gate.hold = true ∨ s.gate.powerSeen = true
    let closed : Record := ⟨s.nextSerial, s.timebase.timestamp, closedRecord s.gate⟩
    (∀ m, m ≠ n → s.gateEndDrain.queue m = s.queue m) ∧
    (stays → q.on = true → q.list.length < q.depth → s.gateEndDrain.queue n = { q with list := q.list ++ [closed] }) ∧
    (¬ stays → q.on = true → q.list.length + 2 ≤ q.depth → s.gateEndDrain.queue n = { q with
      list := q.list ++ [closed, ⟨s.nextSerial + 1, s.timebase.timestamp, .gateOpened 0⟩] }) ∧
    (q.on = false → s.gateEndDrain.alert.flagSet (.qo n) = true ∧
      s.gateEndDrain.queue n = { q with loss := if stays then satInc q.loss else satInc (satInc q.loss) }) := by
  intro q stays closed
  by_cases hc : stays
  · have offered := gateEndDrain_offered h hf hc
    refine ⟨offered.others n hq, fun _ => offered.room n hq, fun hn => absurd hc hn, fun hoff => ?_⟩
    rw [if_pos hc]
    exact offered.off n hq hoff
  · have clear : s.gate.pfail = false ∧ s.gate.hold = false ∧ s.gate.powerSeen = false := by
      simp only [stays, not_or, Bool.not_eq_true] at hc
      exact hc
    obtain ⟨first, second⟩ := gateEndDrain_opens h hf clear.1 clear.2.1 clear.2.2
    refine ⟨fun m hm => (second.others n hq m hm).trans (first.others n hq m hm), fun h' => absurd h' hc,
      fun _ hon hroom => ?_, fun hoff => ?_⟩
    · have short : (s.queue n).list.length < (s.queue n).depth := Nat.lt_of_lt_of_le (Nat.lt_add_of_pos_right Nat.two_pos) hroom
      have placed := first.room n hq hon short
      have again : (s.gateEnterClosed.queue n).list.length < (s.gateEnterClosed.queue n).depth := by
        rw [placed, Queue.depth]
        simp only [List.length_append, List.length_singleton]
        exact hroom
      rw [second.room n hq (by rw [placed]; exact hon) again, placed,
        gateEnterClosed_nextSerial hq (Queue.reception_room hon short),
        (gateEnterClosed_gateFrame s).timebase]
      simp only [List.append_assoc, List.singleton_append]
      rfl
    · obtain ⟨_, lost⟩ := first.off n hq hoff
      obtain ⟨flag, twice⟩ := second.off n hq (by rw [lost]; exact hoff)
      rw [lost] at twice
      rw [if_neg hc]
      exact ⟨flag, twice⟩

/-! ### The end of a hold-off (R158, R159) -/

/-- An effect of a tick is taken in the state itself, but for the place of the last tick and the draw. -/
theorem inTickOrder_eq (f : State → State) (s : State) :
    ∃ p, s.inTickOrder f = s.endCommand (f { s with draw := s.draw + 1, alert := { s.alert with lastTick := p } }) := ⟨_, rfl⟩

end State

/-- Settles O41. -/
theorem drainAndHoldOffEnd : Obligations.DrainAndHoldOffEnd := by
  refine ⟨fun s hpow h hf => ?_, fun s hpow h ho => ?_⟩
  · have frame := State.gateEndDrain_gateFrame s
    obtain ⟨hstays, hreopens, hopens⟩ := State.gateEndDrain_gate h hf
    refine ⟨s.endCommand s.gateEndDrain, whenPowered_on hpow, ?_, hstays, hreopens, hopens, fun hq => ?_, fun n hq => ?_,
      frame.path, frame.rules, frame.timers, frame.inputs, frame.link, frame.store⟩
    · exact (State.endCommand_flagSet ..).trans (State.gateEndDrain_flagSet h hf)
    · by_cases hc : s.gate.pfail = true ∨ s.gate.hold = true ∨ s.gate.powerSeen = true
      · exact (State.gateEndDrain_offered h hf hc).absent hq
      · simp only [not_or, Bool.not_eq_true] at hc
        obtain ⟨first, second⟩ := State.gateEndDrain_opens h hf hc.1 hc.2.1 hc.2.2
        exact (second.absent hq).trans (first.absent hq)
    · obtain ⟨others, one, two, off⟩ := State.gateEndDrain_record h hf hq
      exact ⟨others, one, two, fun hoff => ⟨(State.endCommand_flagSet ..).trans (off hoff).1, (off hoff).2⟩⟩
  · have due : s.gateEndHoldOff = s.inTickOrder State.gateEnterOpen := if_pos ⟨h, ho⟩
    obtain ⟨p, hp⟩ := State.inTickOrder_eq State.gateEnterOpen s
    let u := { s with draw := s.draw + 1, alert := { s.alert with lastTick := p } }
    have frame : State.GateFrame u u.gateEnterOpen := State.gateEnterOpen_gateFrame u
    have offered : State.Offered u u.gate.recordQueue (.gateOpened u.gate.refused) (s.endCommand u.gateEnterOpen) :=
      (State.gateEnterOpen_offered u).ends s
    refine ⟨s.endCommand u.gateEnterOpen, (whenPowered_on hpow).trans (by rw [due, hp]), State.gateEnterOpen_gate u,
      offered.absent, fun n hq => ⟨offered.others n hq, offered.room n hq, offered.off n hq⟩,
      frame.path, frame.rules, frame.timers, frame.inputs, frame.link, frame.store⟩

/-! ### PFAIL (R151, R154, R157, R158, R161) -/

namespace State

/-- The store and the draw: nothing that the gate does looks at them. -/
def withStore (d : Nat) (c : Store) (s : State) : State := { s with draw := d, store := c }

variable (s : State) (d : Nat) (c : Store)

theorem placeIn_withStore (n : Fin 4) (b : RecordBody) :
    ((s.withStore d c).placeIn n b).1 = (s.placeIn n b).1.withStore d c := by
  have reception : ((s.withStore d c).queue n).reception = (s.queue n).reception := rfl
  unfold placeIn placeAt
  rw [reception]
  split <;> rfl

theorem offer_withStore (n : Fin 4) (b : RecordBody) : (s.withStore d c).offer n b = (s.offer n b).withStore d c := by
  have judged : ∀ (u : State) (k : Nat), (u.withStore d c).judgeNotify n k = (u.judgeNotify n k).withStore d c := fun u k => by
    have same : (u.withStore d c).queue n = u.queue n := rfl
    unfold judgeNotify
    rw [same]
    dsimp only
    split <;> rfl
  unfold offer
  rw [placeIn_withStore, judged]
  rfl

theorem gateEnterClosed_withStore : (s.withStore d c).gateEnterClosed = s.gateEnterClosed.withStore d c := by
  have offered : ∀ (u : State) (q : Option (Fin 4)) (b : RecordBody), (u.withStore d c).offerTo q b = (u.offerTo q b).withStore d c :=
    fun u q b => by
      cases q with
      | none => rfl
      | some n => exact offer_withStore u d c n b
  exact offered (({ s with gate := { s.gate with state := .closed, refused := 0 } }).setFlag .gate) _ _

theorem gateCauseArrival_withStore : (s.withStore d c).gateCauseArrival = s.gateCauseArrival.withStore d c := by
  have state : (s.withStore d c).gate = s.gate := rfl
  unfold gateCauseArrival
  rw [state]
  split
  · split
    · rfl
    · exact gateEnterClosed_withStore s d c
  · rfl
  · rfl

theorem tearSave_of_idle {s : State} (h : s.store.state = .idle) (r : SaveResult) : s.tearSave r = s := by
  simp only [tearSave, h]

theorem gateCauseArrival_gateFrame (s : State) : GateFrame s s.gateCauseArrival := by
  unfold gateCauseArrival
  split
  · split
    · exact .gate s _
    · exact gateEnterClosed_gateFrame s
  · exact .gate s _
  · exact .refl s

end State

/-- A rise of PFAIL that the part takes. -/
theorem exec_pfailAssert_taken {s : State} (hpow : s.powered = true) (hpin : s.pins.pfail = false) (hs : s.store.state ≠ .loading) :
    exec .pfailAssert s = .next (State.endCommand { s with pins := { s.pins with pfail := true } }
      (State.takePfail { s with pins := { s.pins with pfail := true } })) := by
  have rise : exec .pfailAssert s = execPfailAssert s := rfl
  rw [rise, execPfailAssert, if_neg (by simp [hpin])]
  dsimp only
  rw [if_pos (by simp [hpow, hs])]

theorem exec_pfailDeassert_taken {s : State} (hpow : s.powered = true) (hpin : s.pins.pfail = true) (hs : s.store.state ≠ .loading) :
    exec .pfailDeassert s = .next (State.endCommand { s with pins := { s.pins with pfail := false } }
      (State.gatePfailDeassert { s with pins := { s.pins with pfail := false } })) := by
  have fall : exec .pfailDeassert s = execPfailDeassert s := rfl
  rw [fall, execPfailDeassert, if_pos hpin]
  dsimp only
  rw [if_pos (by simp [hpow, hs])]

/-- The state in which a rise of PFAIL meets the gate. -/
abbrev State.pfailRisen (s : State) : State :=
  { s with pins := { s.pins with pfail := true }, gate := { s.gate with pfail := true, powerSeen := true } }

theorem exec_pfailAssert_idle {s : State} (hpow : s.powered = true) (hpin : s.pins.pfail = false) (hs : s.store.state = .idle) :
    exec .pfailAssert s = .next (s.endCommand s.pfailRisen.gateCauseArrival) := by
  rw [exec_pfailAssert_taken hpow hpin (by rw [hs]; exact nofun), State.takePfail,
    State.tearSave_of_idle (s := { s with pins := { s.pins with pfail := true } }) hs]
  rfl

/-- A rise that changes the gate alone. -/
theorem exec_pfailAssert_gate {s t : State} (hpow : s.powered = true) (hpin : s.pins.pfail = false) (hs : s.store.state = .idle)
    (h : s.pfailRisen.gateCauseArrival = t) (ht : t.alert = s.alert) : exec .pfailAssert s = .next t := by
  rw [exec_pfailAssert_idle hpow hpin hs, h, State.endCommand_of_eq (by rw [ht])]

theorem exec_pfailDeassert_gate {s t : State} (hpow : s.powered = true) (hpin : s.pins.pfail = true) (hs : s.store.state ≠ .loading)
    (h : ({ s with pins := { s.pins with pfail := false }, gate := { s.gate with pfail := false } }).gateLeaveClosed = t)
    (ht : t.alert = s.alert) : exec .pfailDeassert s = .next t := by
  rw [exec_pfailDeassert_taken hpow hpin hs, State.gatePfailDeassert]
  dsimp only
  rw [h, State.endCommand_of_eq (by rw [ht])]

/-- The gate takes a rise while SAVING as it does in IDLE, and the save is abandoned (R161, R186). -/
theorem exec_pfailAssert_saving {s : State} {c : Image} (hpow : s.powered = true) (hpin : s.pins.pfail = false)
    (hs : s.store.state = .saving) (hc : s.store.copy = some c) :
    exec .pfailAssert s = .next (s.endCommand (s.pfailRisen.gateCauseArrival.withStore (s.draw + 1) { s.store with
      state := .idle, image := .torn (Config.tornNew s.draw) s.store.image c, check := none, copy := none
      saveResult := .abandoned })) := by
  have torn : State.tearSave .abandoned { s with pins := { s.pins with pfail := true } } =
      State.withStore (s.draw + 1) { s.store with
        state := .idle, image := .torn (Config.tornNew s.draw) s.store.image c, check := none, copy := none
        saveResult := .abandoned } { s with pins := { s.pins with pfail := true } } := by
    simp only [State.tearSave, hs, hc]
    rfl
  rw [exec_pfailAssert_taken hpow hpin (by rw [hs]; exact nofun), State.takePfail, torn, State.gatePfailAssert,
    ← State.gateCauseArrival_withStore]
  rfl

theorem exec_pfail_loading {s : State} (hs : s.store.state = .loading) :
    exec .pfailAssert s = .next { s with pins := { s.pins with pfail := true } } ∧
      exec .pfailDeassert s = .next { s with pins := { s.pins with pfail := false } } := by
  have rise : exec .pfailAssert s = execPfailAssert s := rfl
  have fall : exec .pfailDeassert s = execPfailDeassert s := rfl
  have same : ∀ b, s.pins.pfail = b → { s with pins := { s.pins with pfail := b } } = s := fun b hb => by rw [← hb]
  refine ⟨?_, ?_⟩
  · rw [rise, execPfailAssert]
    by_cases hp : s.pins.pfail = true
    · rw [if_pos hp, same true hp]
    · rw [if_neg hp]
      dsimp only
      rw [if_neg (by simp [hs])]
  · rw [fall, execPfailDeassert]
    by_cases hp : s.pins.pfail = true
    · rw [if_pos hp]
      dsimp only
      rw [if_neg (by simp [hs])]
    · rw [if_neg hp, same false (Bool.eq_false_iff.mpr hp)]

/-- Settles O40. -/
theorem pfailClosesAndReleasesTheGate : Obligations.PfailClosesAndReleasesTheGate := by
  refine ⟨fun s hpow hpin hs => ⟨fun ho hf => ?_, fun ho hf => ?_, fun hr => ?_, fun hd => ?_⟩,
    fun s hpow hpin hs => ⟨fun hcl hh hm => ?_, fun hn => ?_⟩, fun s c hpow hpin hs hc => ?_, fun s _ hs => exec_pfail_loading hs⟩
  · have offered := (State.gateEnterClosed_offered s.pfailRisen).ends s
    have frame := State.gateEnterClosed_gateFrame s.pfailRisen
    refine ⟨_, exec_pfailAssert_idle hpow hpin hs, ?_⟩
    rw [State.gateCauseArrival_opened (s := s.pfailRisen) ho hf]
    refine ⟨State.gateEnterClosed_gate s.pfailRisen, ?_, frame.pins, offered.absent, fun n => offered.list, frame.blocks⟩
    exact (State.endCommand_flagSet ..).trans (State.gateEnterClosed_flagSet s.pfailRisen)
  · exact exec_pfailAssert_gate hpow hpin hs (State.gateCauseArrival_writing (s := s.pfailRisen) ho hf) rfl
  · exact exec_pfailAssert_gate hpow hpin hs (State.gateCauseArrival_reopening (s := s.pfailRisen) hr) rfl
  · exact exec_pfailAssert_gate hpow hpin hs (State.gateCauseArrival_recorded (s := s.pfailRisen) hd.symm) rfl
  · exact exec_pfailDeassert_gate hpow hpin hs (State.gateLeaveClosed_reopens
      (s := { s with pins := { s.pins with pfail := false }, gate := { s.gate with pfail := false } }) hcl rfl hh hm) rfl
  · exact exec_pfailDeassert_gate hpow hpin hs (State.gateLeaveClosed_stays
      (s := { s with pins := { s.pins with pfail := false }, gate := { s.gate with pfail := false } }) (hn.imp_right .inr)) rfl
  · have frame := State.gateCauseArrival_gateFrame s.pfailRisen
    have idle := exec_pfailAssert_idle (s := s.withStore s.draw { s.store with state := .idle }) hpow hpin rfl
    have same := State.gateCauseArrival_withStore s.pfailRisen s.draw { s.store with state := .idle }
    refine ⟨_, _, exec_pfailAssert_saving hpow hpin hs hc, idle, rfl, rfl, rfl, rfl, rfl, ?_, ?_, ?_, ?_,
      frame.path, frame.rules, frame.timers, frame.inputs, frame.link⟩
    · exact (congrArg State.gate same).symm
    · exact (congrArg State.queues same).symm
    · exact congrArg (fun a : Alert => a.commandEnds s.alert.lastTick) (congrArg State.alert same).symm
    · exact (congrArg State.pins same).symm

end Sys2Proof.Machine
end

section
/-! The words of the alert controller and the pulse (R166 to R170), by the moves of the controller. -/

namespace Sys2Proof.Machine

/-! ### A pulse start (R169, R170; log 14) -/

namespace Alert

/-- The last tick comes after a start made now. -/
theorem tickFollows_iff (a : Alert) : a.tickFollows = true ↔
    a.lastTick = .after ∨ a.lastTick = .counted ∨ (a.lastTick = .unplaced ∧ a.tickOwed = true) := by
  unfold tickFollows
  split
  next h => simp [h]
  next h => simp [h]
  next h => simp [h]
  next h => simp [h]
  next h => simp [h]

theorem tapTicks_iff (tap : BitVec 3) (c : BitVec 16) : tapTicks tap c = true ↔ c.toNat % 16 ^ tap.toNat = 0 := beq_iff_eq

/-- The controller just after a start, the tick not yet looked at: the width, the tap and the line. -/
abbrev loaded (a : Alert) : Alert :=
  { a with pulse := fld a.config 8 8, pulseTap := fld a.config 16 3, line := true, tickOwed := false }

theorem startPulse_before {a : Alert} (h : a.tickFollows = false) (c : BitVec 16) : a.startPulse c = a.loaded := by
  simp only [startPulse, h, Bool.false_and, Bool.false_eq_true, if_false]
  rfl

/-- With no tick owed the first start changes the counter, the tap and the line alone. -/
theorem startPulse_first {a : Alert} (h : a.tickFollows = false) (hf : a.tickOwed = false) (c : BitVec 16) :
    a.startPulse c = { a with pulse := fld a.config 8 8, pulseTap := fld a.config 16 3, line := true } := by
  rw [startPulse_before h c, loaded, ← hf]

theorem startPulse_not_tapped {a : Alert} (h : a.tickFollows = true) {c : BitVec 16}
    (ht : c.toNat % 16 ^ (fld a.config 16 3).toNat ≠ 0) : a.startPulse c = { a.loaded with lastTick := .counted } := by
  have silent : tapTicks (tapCode a.config) c = false := Bool.eq_false_iff.mpr (mt (tapTicks_iff _ c).mp ht)
  simp only [startPulse, h, silent, Bool.and_false, Bool.false_eq_true, if_false, if_true]
  rfl

theorem startPulse_tapped {a : Alert} (h : a.tickFollows = true) {c : BitVec 16}
    (ht : c.toNat % 16 ^ (fld a.config 16 3).toNat = 0) :
    a.startPulse c = ({ a.loaded with lastTick := .counted } : Alert).takeTick := by
  have ticks : tapTicks (tapCode a.config) c = true := (tapTicks_iff _ c).mpr ht
  simp only [startPulse, h, ticks, Bool.and_self, if_true]
  rfl

theorem takeTick_one {a : Alert} (h : a.pulse = 1) : a.takeTick = { a with tickOwed := true } := by
  unfold takeTick
  rw [if_neg (by simp [h]), if_pos h]

theorem takeTick_more {a : Alert} (h : 2 ≤ a.pulse.toNat) : a.takeTick = { a with pulse := a.pulse - 1, tickOwed := false } := by
  unfold takeTick
  rw [if_neg fun h0 => by simp [h0] at h, if_neg fun h1 => by simp [h1] at h]

/-- In PULSE mode the setting of an enabled flag is a start. -/
theorem setFlag_starts {a : Alert} {f : Flag} (hm : fld a.config 0 2 = 1) (he : a.enables.getLsbD f.pos = true) (c : BitVec 16) :
    a.setFlag c f = ({ a with flags := a.flags ||| 1#23 <<< f.pos } : Alert).startPulse c := by
  unfold setFlag
  exact (if_pos ((pulseMode_iff _).mpr hm)).trans (if_pos he)

/-! ### The end of a command (log 14) -/

section

variable {a : Alert} {start p : LastTick} (hs : start = .unplaced ∨ start = .taken)

theorem commandEnds_between (a : Alert) (start : LastTick) (h : a.lastTick = .unplaced ∨ a.lastTick = .taken) : a.commandEnds start = a := by
  unfold commandEnds
  split
  · rfl
  · obtain h | h := h <;> rw [h]

include hs

theorem commandEnds_placed (h : a.lastTick = .before ∨ a.lastTick = .after) : a.commandEnds start = { a with lastTick := start } := by
  have moved : a.lastTick ≠ start := by obtain h | h := h <;> obtain hs | hs := hs <;> simp [h, hs]
  unfold commandEnds
  rw [if_neg moved]
  obtain h | h := h <;> rw [h]

theorem commandEnds_counted (h : a.lastTick = .counted) (hp : (if a.tickOwed then LastTick.unplaced else .taken) = p) :
    a.commandEnds start = { a with lastTick := p } := by
  have moved : a.lastTick ≠ start := by obtain hs | hs := hs <;> simp [h, hs]
  unfold commandEnds
  rw [if_neg moved, h, ← hp]

end

/-! ### The write words (R166, R167) -/

theorem writeEnables_level {a : Alert} (hm : fld a.config 0 2 ≠ 1) (c : BitVec 16) (v : Word) :
    a.writeEnables c v = { a with enables := v.setWidth 23, line := a.flags &&& v.setWidth 23 != 0 } :=
  if_neg (mt (pulseMode_iff _).mp hm)

/-- In PULSE mode a newly enabled set flag starts a pulse. -/
theorem writeEnables_starts {a : Alert} {v : Word} (hm : fld a.config 0 2 = 1)
    (hn : a.flags &&& ~~~a.enables &&& v.setWidth 23 ≠ 0) (c : BitVec 16) :
    a.writeEnables c v = ({ a with enables := v.setWidth 23 } : Alert).startPulse c := by
  have shown : a.flags &&& v.setWidth 23 ≠ 0 := fun h0 => hn (by
    rw [BitVec.and_assoc, BitVec.and_comm (~~~a.enables), ← BitVec.and_assoc, h0]; exact BitVec.zero_and)
  have any : (({ a with enables := v.setWidth 23 } : Alert).startPulse c).anyEnabled = true := by
    unfold anyEnabled startPulse takeTick
    dsimp only
    split
    · split
      · exact bne_iff_ne.mpr shown
      · split <;> exact bne_iff_ne.mpr shown
    · exact bne_iff_ne.mpr shown
  unfold writeEnables
  refine (if_pos ((pulseMode_iff _).mpr hm)).trans ?_
  dsimp only
  rw [if_pos (bne_iff_ne.mpr hn), if_pos any]

/-- In PULSE mode a write that newly enables no set flag cuts the pulse off or leaves it. -/
theorem writeEnables_plain {a : Alert} {v : Word} (hm : fld a.config 0 2 = 1) (hn : a.flags &&& ~~~a.enables &&& v.setWidth 23 = 0)
    (c : BitVec 16) : a.writeEnables c v =
      if a.flags &&& v.setWidth 23 != 0 then { a with enables := v.setWidth 23 }
      else { a with enables := v.setWidth 23, pulse := 0, line := false, tickOwed := false } := by
  have started : (if a.flags &&& ~~~a.enables &&& v.setWidth 23 != 0 then ({ a with enables := v.setWidth 23 } : Alert).startPulse c
      else { a with enables := v.setWidth 23 }) = { a with enables := v.setWidth 23 } := if_neg (by rw [hn]; decide)
  unfold writeEnables
  refine (if_pos ((pulseMode_iff _).mpr hm)).trans ?_
  dsimp only
  rw [started]
  rfl

theorem writeEnables_keeps {a : Alert} {v : Word} (hm : fld a.config 0 2 = 1) (hn : a.flags &&& ~~~a.enables &&& v.setWidth 23 = 0)
    (hs : a.flags &&& v.setWidth 23 ≠ 0) (c : BitVec 16) : a.writeEnables c v = { a with enables := v.setWidth 23 } :=
  (writeEnables_plain hm hn c).trans (if_pos (bne_iff_ne.mpr hs))

/-- A write that leaves no flag set and enabled cuts the pulse off. -/
theorem writeEnables_cuts {a : Alert} {v : Word} (hm : fld a.config 0 2 = 1) (hs : a.flags &&& v.setWidth 23 = 0) (c : BitVec 16) :
    a.writeEnables c v = { a with enables := v.setWidth 23, pulse := 0, line := false, tickOwed := false } := by
  have none_new : a.flags &&& ~~~a.enables &&& v.setWidth 23 = 0 := by
    rw [BitVec.and_assoc, BitVec.and_comm (~~~a.enables), ← BitVec.and_assoc, hs]; exact BitVec.zero_and
  exact (writeEnables_plain hm none_new c).trans (if_neg fun h => bne_iff_ne.mp h hs)

/-- The mode of the word that a configuration write stores. -/
theorem pulseMode_masked (a : Alert) (v : Word) :
    ({ a with config := v &&& Alert.configMask } : Alert).pulseMode = true ↔ fld v 0 2 = 1 := by
  rw [pulseMode_iff, fld_mask v (by decide : fld configMask 0 2 = _)]

theorem writeConfig_same {a : Alert} {v : Word} (h : fld a.config 0 2 = 1 ↔ fld v 0 2 = 1) :
    a.writeConfig v = { a with config := v &&& configMask } :=
  if_pos (Bool.eq_iff_iff.mpr ((pulseMode_iff a).trans (h.trans (pulseMode_masked a v).symm)))

theorem writeConfig_changed {a : Alert} {v : Word} (h : ¬ (fld a.config 0 2 = 1 ↔ fld v 0 2 = 1)) :
    a.writeConfig v = if ({ a with config := v &&& configMask } : Alert).pulseMode then
      ({ a with config := v &&& configMask } : Alert).endPulse
    else ({ a with config := v &&& configMask } : Alert).endPulse.followLevel :=
  if_neg fun he => h ((pulseMode_iff a).symm.trans ((Bool.eq_iff_iff.mp he).trans (pulseMode_masked a v)))

theorem writeConfig_to_pulse {a : Alert} {v : Word} (ha : fld a.config 0 2 ≠ 1) (hv : fld v 0 2 = 1) :
    a.writeConfig v = { a with config := v &&& configMask, pulse := 0, line := false, tickOwed := false } :=
  (writeConfig_changed fun h => ha (h.mpr hv)).trans (if_pos ((pulseMode_masked a v).mpr hv))

theorem writeConfig_to_level {a : Alert} {v : Word} (ha : fld a.config 0 2 = 1) (hv : fld v 0 2 ≠ 1) :
    a.writeConfig v = { a with
      config := v &&& configMask, pulse := 0, tickOwed := false, line := a.flags &&& a.enables != 0 } :=
  (writeConfig_changed fun h => hv (h.mp ha)).trans (if_neg fun h => hv ((pulseMode_masked a v).mp h))

end Alert

/-- An enable write that leaves the place of the last tick. -/
theorem alertEnableOp_eq {s : State} {v : Word} {a : Alert} (h : s.alert.writeEnables s.timebase.tapCount v = a)
    (hl : a.lastTick = s.alert.lastTick) : alertEnableOp v s = (.accepted, { s with alert := a }) := by
  rw [alertEnableOp, h, State.endCommand_of_eq (by exact hl)]

theorem alertConfigOp_eq {s : State} {v : Word} {a : Alert} (h : Alert.configOk v = true) (ha : s.alert.writeConfig v = a) :
    alertConfigOp v s = (.accepted, { s with alert := a }) := by
  rw [alertConfigOp, if_pos h, ha]

theorem alertConfigOp_bad {v : Word} (h : ¬ Alert.configOk v = true) (s : State) : alertConfigOp v s = (.invalid, s) := if_neg h

/-- Settles O44. -/
theorem alertWordsAndPulse : Obligations.AlertWordsAndPulse := by
  refine ⟨fun s v left hw ho => ⟨fun hm => ?_, fun hm hs => ?_, fun hm hn hs => ?_, fun hm hn hfree hafter hcounted => ?_⟩,
    fun s v left hw ho => ⟨fun hbad => ?_, fun hok hsame => ?_, fun hok hold hnew => ?_, fun hok hold hnew => ?_⟩,
    fun a c f hm he => ⟨fun hn => ?_, fun hf => ⟨fun hd hw => ?_, fun hd hw => ?_, fun hd => ?_⟩⟩,
    fun a start hstart => ⟨fun h => ?_, fun h => ?_, fun h hfree => ?_, fun h hdue => ?_⟩, fun s hpow hdue => ?_⟩
  · exact word_answered ho (by simp) hw (alertEnableOp_eq (s := s.setFrame _) (Alert.writeEnables_level hm _ v) rfl)
  · exact word_answered ho (by simp) hw (alertEnableOp_eq (s := s.setFrame _) (Alert.writeEnables_cuts hm hs _) rfl)
  · exact word_answered ho (by simp) hw (alertEnableOp_eq (s := s.setFrame _) (Alert.writeEnables_keeps hm hn hs _) rfl)
  · have first : ({ s.alert with enables := v.setWidth 23 } : Alert).tickFollows = false := Bool.eq_false_iff.mpr fun h => by
      simpa [hafter, hcounted, hfree] using (Alert.tickFollows_iff _).mp h
    have started := (Alert.writeEnables_starts hm hn s.timebase.tapCount).trans
      (Alert.startPulse_first (a := { s.alert with enables := v.setWidth 23 }) first hfree _)
    exact word_answered ho (by simp) hw (alertEnableOp_eq (s := s.setFrame _) started rfl)
  · exact word_answered ho (by simp) hw (alertConfigOp_bad (fun h => hbad ((Alert.configOk_iff v).mp h)) _)
  · exact word_answered ho (by simp) hw (alertConfigOp_eq (s := s.setFrame _) ((Alert.configOk_iff v).mpr hok)
      (Alert.writeConfig_same hsame))
  · exact word_answered ho (by simp) hw (alertConfigOp_eq (s := s.setFrame _) ((Alert.configOk_iff v).mpr hok)
      (Alert.writeConfig_to_pulse hold hnew))
  · exact word_answered ho (by simp) hw (alertConfigOp_eq (s := s.setFrame _) ((Alert.configOk_iff v).mpr hok)
      (Alert.writeConfig_to_level hold hnew))
  · have first : ({ a with flags := a.flags ||| 1#23 <<< f.pos } : Alert).tickFollows = false :=
      Bool.eq_false_iff.mpr fun h => hn ((Alert.tickFollows_iff _).mp h)
    exact (Alert.setFlag_starts hm he c).trans (Alert.startPulse_before first c)
  · have after := (Alert.tickFollows_iff { a with flags := a.flags ||| 1#23 <<< f.pos }).mpr hf
    exact (Alert.setFlag_starts hm he c).trans ((Alert.startPulse_tapped after hd).trans (Alert.takeTick_more hw))
  · have after := (Alert.tickFollows_iff { a with flags := a.flags ||| 1#23 <<< f.pos }).mpr hf
    exact (Alert.setFlag_starts hm he c).trans ((Alert.startPulse_tapped after hd).trans (Alert.takeTick_one hw))
  · have after := (Alert.tickFollows_iff { a with flags := a.flags ||| 1#23 <<< f.pos }).mpr hf
    exact (Alert.setFlag_starts hm he c).trans (Alert.startPulse_not_tapped after hd)
  · exact Alert.commandEnds_between a start h
  · exact Alert.commandEnds_placed hstart h
  · exact Alert.commandEnds_counted hstart h (by rw [hfree]; rfl)
  · exact Alert.commandEnds_counted hstart h (by rw [hdue]; rfl)
  · exact (whenPowered_on hpow).trans (by rw [if_pos hdue]; rfl)

end Sys2Proof.Machine
end

section
/-! Watch timers (R115, R120 to R131): what an expiry hands to the other blocks, and what a trigger does to a channel. -/

namespace Sys2Proof.Machine

/-! ### A rule that an expiry reaches (R129) -/

namespace Rule

@[simp] theorem arm_hits (x : Rule) : x.arm.hits = x.hits := by rw [arm_eq_ite]; split <;> rfl
@[simp] theorem arm_alerted (x : Rule) : x.arm.alerted = x.alerted := by rw [arm_eq_ite]; split <;> rfl
@[simp] theorem disarm_hits (x : Rule) : x.disarm.hits = x.hits := by rw [disarm_eq_ite]; split <;> rfl
@[simp] theorem disarm_alerted (x : Rule) : x.disarm.alerted = x.alerted := by rw [disarm_eq_ite]; split <;> rfl
@[simp] theorem resetWindow_hits (x : Rule) : x.resetWindow.hits = x.hits := rfl
@[simp] theorem resetWindow_alerted (x : Rule) : x.resetWindow.alerted = x.alerted := rfl

/-- The arm notice of a source, as the rule takes it. -/
def armedFrom (src : ArmSource) (x : Rule) : Rule := if x.defn.armSource = src then x.arm else x

/-- The disarm notice of a source. -/
def disarmedFrom (src : DisarmSource) (x : Rule) : Rule := if x.defn.disarmSource = src then x.disarm else x

/-- The window-reset notice of a channel. -/
def windowResetOf (t : Fin 8) (x : Rule) : Rule := if x.defn.quota && x.defn.windowTimer == t then x.resetWindow else x

variable (x : Rule) (a : ArmSource) (d : DisarmSource) (t : Fin 8)

theorem armedFrom_counts : (x.armedFrom a).hits = x.hits ∧ (x.armedFrom a).alerted = x.alerted ∧ (x.armedFrom a).defn = x.defn := by
  unfold armedFrom
  split
  · exact ⟨arm_hits x, arm_alerted x, arm_defn x⟩
  · exact ⟨rfl, rfl, rfl⟩

theorem disarmedFrom_counts :
    (x.disarmedFrom d).hits = x.hits ∧ (x.disarmedFrom d).alerted = x.alerted ∧ (x.disarmedFrom d).defn = x.defn := by
  unfold disarmedFrom
  split
  · exact ⟨disarm_hits x, disarm_alerted x, disarm_defn x⟩
  · exact ⟨rfl, rfl, rfl⟩

theorem windowResetOf_counts :
    (x.windowResetOf t).hits = x.hits ∧ (x.windowResetOf t).alerted = x.alerted ∧ (x.windowResetOf t).defn = x.defn := by
  unfold windowResetOf
  split <;> exact ⟨rfl, rfl, rfl⟩

/-- A window reset leaves the state and the countdown. -/
theorem windowResetOf_state : (x.windowResetOf t).state = x.state ∧ (x.windowResetOf t).countdown = x.countdown := by
  unfold windowResetOf
  split <;> exact ⟨rfl, rfl⟩

theorem windowResetOf_window (hq : x.defn.quota = true) (ht : x.defn.windowTimer = t) :
    (x.windowResetOf t).window = 0 ∧ (x.windowResetOf t).overQuota = false := by
  rw [windowResetOf, if_pos (by simp [hq, ht])]
  exact ⟨rfl, rfl⟩

variable {x a d t}

theorem armedFrom_of_ne (h : x.defn.armSource ≠ a) : x.armedFrom a = x := if_neg h
theorem disarmedFrom_of_ne (h : x.defn.disarmSource ≠ d) : x.disarmedFrom d = x := if_neg h

theorem windowResetOf_of_not (h : x.defn.quota = false ∨ x.defn.windowTimer ≠ t) : x.windowResetOf t = x :=
  if_neg (by obtain h | h := h <;> simp [h])

theorem armedFrom_of_eq (h : x.defn.armSource = a) (hs : x.state ≠ .disabled) :
    x.armedFrom a = { x with state := .live, countdown := x.defn.countdownLoad } := (if_pos h).trans (arm_of_enabled hs)

/-- A LIVE rule stays LIVE under an arm notice. -/
theorem armedFrom_live (h : x.state = .live) : (x.armedFrom a).state = .live := by
  unfold armedFrom
  split
  · rw [arm_of_enabled (by rw [h]; exact nofun)]
  · exact h

theorem disarmedFrom_of_live (h : x.defn.disarmSource = d) (hs : x.state = .live) : (x.disarmedFrom d).state = .dormant := by
  rw [disarmedFrom, if_pos h, disarm_of_live hs]

/-- The notices of an expiry of channel t. -/
def afterExpiry (t : Fin 8) (x : Rule) : Rule := ((x.armedFrom (.timer t.val)).disarmedFrom (.timer t.val)).windowResetOf t

end Rule

namespace State

theorem rule_expire (t : Fin 8) (s : State) (r : Fin 24) : (s.expire t).rule r = (s.rule r).afterExpiry t := by
  have offered : ∀ u : State, ∀ q b, (u.offerTo q b).rule r = u.rule r := fun u q b => rule_congr (offerTo_frame u q b).rules r
  rw [expire, rule_resetWindowsOf, rule_disarmFrom, rule_armFrom, offered]
  rfl

/-- The channel, the flag and the record of an expiry; the notices go to the rules alone. -/
def expiryPlaced (t : Fin 8) (s : State) : State :=
  ((s.setTimer t (s.timer t).expired).setFlag (.timer t)).offerTo (s.timer t).recordQueue (.timerExpiry t (s.timer t).mode)

theorem expire_eq (t : Fin 8) (s : State) :
    s.expire t = (((s.expiryPlaced t).armFrom (.timer t.val)).disarmFrom (.timer t.val)).resetWindowsOf t := rfl

theorem expire_queues (t : Fin 8) (s : State) : (s.expire t).queues = (s.expiryPlaced t).queues := by
  simp only [expire_eq, armFrom, disarmFrom, resetWindowsOf, mapRules_queues]

theorem expire_timers (t : Fin 8) (s : State) : (s.expire t).timers = (s.expiryPlaced t).timers := by
  simp only [expire_eq, armFrom, disarmFrom, resetWindowsOf, mapRules_timers]

theorem expire_inputs (t : Fin 8) (s : State) : (s.expire t).inputs = (s.expiryPlaced t).inputs := by
  simp only [expire_eq, armFrom, disarmFrom, resetWindowsOf, mapRules_inputs]

theorem expire_alert (t : Fin 8) (s : State) : (s.expire t).alert = (s.expiryPlaced t).alert := by
  simp only [expire_eq, armFrom, disarmFrom, resetWindowsOf, mapRules_alert]

theorem timer_expire (t : Fin 8) (s : State) (x : Fin 8) :
    (s.expire t).timer x = if t = x then (s.timer t).expired else s.timer x := by
  rw [timer_congr (expire_timers t s), expiryPlaced, timer_congr (offerTo_frame _ _ _).timers,
    timer_congr (setFlag_frame _ _).timers, timer_setTimer]

theorem expire_flagSet (t : Fin 8) (s : State) : (s.expire t).alert.flagSet (.timer t) = true := by
  rw [expire_alert, expiryPlaced]
  exact effectClosed_flags.offerTo _ (s.timer t).recordQueue (.timerExpiry t (s.timer t).mode) nofun _ (flagSet_setFlag_self _ _)

/-- R129 to R131, for the expiry itself. -/
theorem expire_handedOut (t : Fin 8) (s : State) : s.ExpiryHandedOut t (s.expire t) where
  flag := expire_flagSet t s
  placed n hq hon hroom := by
    rw [queue_congr (expire_queues t s), expiryPlaced]
    exact (offerTo_offered ((s.setTimer t (s.timer t).expired).setFlag (.timer t)) _ _).list hq hon hroom
  others n hn := by
    rw [queue_congr (expire_queues t s), expiryPlaced]
    cases hq : (s.timer t).recordQueue with
    | none => rfl
    | some m => exact offer_queue_ne (fun h => hn (hq.trans (congrArg some h.symm))) _
  armed r ha hd hs := by
    have armed := Rule.armedFrom_of_eq ha hs
    have same : ((s.rule r).armedFrom (.timer t.val)).disarmedFrom (.timer t.val) = (s.rule r).armedFrom (.timer t.val) :=
      Rule.disarmedFrom_of_ne (by rw [armed]; exact hd)
    rw [rule_expire, Rule.afterExpiry, same, armed]
    exact Rule.windowResetOf_state _ t
  disarmed r hd hs := by
    rw [rule_expire, Rule.afterExpiry, (Rule.windowResetOf_state _ t).1]
    exact Rule.disarmedFrom_of_live (by rw [(Rule.armedFrom_counts ..).2.2]; exact hd) (Rule.armedFrom_live hs)
  windows r hq ht := by
    have defn : ((s.rule r).armedFrom (.timer t.val) |>.disarmedFrom (.timer t.val)).defn = (s.rule r).defn :=
      (Rule.disarmedFrom_counts ..).2.2.trans (Rule.armedFrom_counts ..).2.2
    rw [rule_expire, Rule.afterExpiry]
    exact Rule.windowResetOf_window _ t (by rw [defn]; exact hq) (by rw [defn]; exact ht)
  untouched r ha hd hw := by
    rw [rule_expire, Rule.afterExpiry, Rule.armedFrom_of_ne ha, Rule.disarmedFrom_of_ne hd, Rule.windowResetOf_of_not hw]
  counts r := by
    obtain ⟨ha, la, da⟩ := Rule.armedFrom_counts (s.rule r) (.timer t.val)
    obtain ⟨hd, ld, dd⟩ := Rule.disarmedFrom_counts ((s.rule r).armedFrom (.timer t.val)) (.timer t.val)
    obtain ⟨hw, lw, dw⟩ := Rule.windowResetOf_counts (((s.rule r).armedFrom (.timer t.val)).disarmedFrom (.timer t.val)) t
    rw [rule_expire, Rule.afterExpiry]
    exact ⟨hw.trans (hd.trans ha), lw.trans (ld.trans la), dw.trans (dd.trans da)⟩
  channels x hx := by rw [timer_expire, if_neg (Ne.symm hx)]
  blocks := by
    have frame := expire_frame t s
    have inputs : (s.expire t).inputs = s.inputs := (expire_inputs t s).trans (offerTo_frame _ _ _).inputs
    exact ⟨frame.path, frame.gate, inputs, frame.timebase, frame.link, frame.store, frame.pins, frame.defaultActions,
      frame.unmatched, frame.copy, frame.pending, frame.powered⟩

/-- The place of the last tick and the draw: an expiry handed out does not look at them. -/
theorem ExpiryHandedOut.ends {t : Fin 8} {s u : State} {d : Nat} {p : LastTick}
    (h : ({ s with draw := d, alert := { s.alert with lastTick := p } } : State).ExpiryHandedOut t u) :
    s.ExpiryHandedOut t (s.endCommand u) where
  flag := (endCommand_flagSet ..).trans h.flag
  placed := h.placed
  others := h.others
  armed := h.armed
  disarmed := h.disarmed
  windows := h.windows
  untouched := h.untouched
  counts := h.counts
  channels := h.channels
  blocks := h.blocks

/-- An expiry in the order of its tick (R105, R170). -/
theorem inTickOrder_expire (t : Fin 8) (s : State) :
    s.ExpiryHandedOut t (s.inTickOrder (expire t)) ∧ (s.inTickOrder (expire t)).timer t = (s.timer t).expired := by
  obtain ⟨p, hp⟩ := inTickOrder_eq (expire t) s
  rw [hp]
  have out := expire_handedOut t { s with draw := s.draw + 1, alert := { s.alert with lastTick := p } }
  have timer := timer_expire t { s with draw := s.draw + 1, alert := { s.alert with lastTick := p } } t
  exact ⟨out.ends, (timer_congr (endCommand_timers ..) t).trans (timer.trans (if_pos rfl))⟩

end State

/-! ### The channel at its expiry (R120, R126) -/

namespace Timer

theorem expired_down {ch : Timer} (h : fld ch.config 0 3 = 0 ∨ fld ch.config 0 3 = 1 ∨ fld ch.config 0 3 = 2)
    (hs : ch.state = .running) : ch.expired = { ch with
      counter := ch.reload, tickOwed := false
      state := if fld ch.config 0 3 = 0 then .stopped else if fld ch.config 0 3 = 1 then .running else .lapsed } := by
  obtain h | h | h := h
  · simp [expired, mode_oneshot h, h]
  · simp [expired, mode_repeating h, h, hs]
  · simp [expired, mode_retrigger h, h]

theorem expired_measure {ch : Timer} (h : fld ch.config 0 3 = 3) (hc : ch.counter.toNat + 1 = ch.reload.toNat) :
    ch.expired = { ch with counter := ch.reload, tickOwed := false } := by
  have next : ch.counter + 1 = ch.reload := by
    apply BitVec.eq_of_toNat_eq
    have bound := ch.reload.isLt
    rw [BitVec.toNat_add, show (1 : BitVec 16).toNat = 1 from rfl, hc]
    exact Nat.mod_eq_of_lt bound
  simp only [expired, mode_measure h, next]

theorem measuring_eq_false {ch : Timer} (h : fld ch.config 0 3 = 0 ∨ fld ch.config 0 3 = 1 ∨ fld ch.config 0 3 = 2) :
    ch.measuring = false := beq_eq_false_iff_ne.mpr (mode_ne_measure h)

theorem measuring_of_code {ch : Timer} (h : fld ch.config 0 3 = 3) : ch.measuring = true := beq_iff_eq.mpr (mode_measure h)

theorem atExpiry_down {ch : Timer} (hm : ch.measuring = false) (hs : ch.state = .running) :
    ch.atExpiry = true ↔ ch.counter = 1 := by simp [atExpiry, hm, hs]

theorem atExpiry_measure {ch : Timer} (hm : ch.measuring = true) (hs : ch.state = .running) :
    ch.atExpiry = true ↔ ch.counter.toNat + 1 = ch.reload.toNat := by simp [atExpiry, hm, hs]

end Timer

/-- Settles O36. -/
theorem expiryHandsOutItsEffects : Obligations.ExpiryHandsOutItsEffects := by
  refine fun s t hpow hs ht => ⟨fun hm hc => ?_, fun hm hc => ?_⟩
  · have down := Timer.measuring_eq_false hm
    have last := (Timer.atExpiry_down down hs).mpr hc
    obtain ⟨out, timer⟩ := State.inTickOrder_expire t s
    have taken : exec (.timerExpiry t) s = .next (s.inTickOrder (State.expire t)) :=
      (whenPowered_on hpow).trans (congrArg _ (if_pos (by simp [ht, last, down])))
    exact ⟨_, taken, out, timer.trans (Timer.expired_down hm hs)⟩
  · have up := Timer.measuring_of_code hm
    have last := (Timer.atExpiry_measure up hs).mpr hc
    obtain ⟨out, timer⟩ := State.inTickOrder_expire t s
    have taken : exec (.measureOverdue t) s = .next (s.inTickOrder (State.expire t)) :=
      (whenPowered_on hpow).trans (congrArg _ (if_pos (by simp [ht, last, up])))
    exact ⟨_, taken, out, timer.trans (Timer.expired_measure hm hc)⟩

/-! ### A trigger (R115, R121, R123, R125, R127) -/

namespace Timer

theorem triggered_not_owed {ch : Timer} (h : ch.tickOwed = false) : ch.triggered = ch.trigger' := if_neg (by simp [h])

theorem trigger'_oneshot_stopped {ch : Timer} (hm : ch.mode = .oneshot) (hs : ch.state = .stopped) :
    ch.trigger' = { ch with state := .running, counter := if ch.counter = 0 then ch.reload else ch.counter } := by
  simp only [trigger', hm, hs, loadIfZero_eq]

theorem trigger'_oneshot_going {ch : Timer} (hm : ch.mode = .oneshot) (hs : ch.state ≠ .stopped) : ch.trigger' = ch := by
  unfold trigger'
  rw [hm]
  cases h : ch.state with
  | stopped => exact absurd h hs
  | _ => rfl

theorem trigger'_repeating {ch : Timer} (hm : ch.mode = .repeating) : ch.trigger' = ch := by simp only [trigger', hm]

theorem trigger'_retrigger_stopped {ch : Timer} (hm : ch.mode = .retrigger) (hs : ch.state = .stopped) : ch.trigger' = ch := by
  simp only [trigger', hm, hs]

theorem trigger'_retrigger_going {ch : Timer} (hm : ch.mode = .retrigger) (hs : ch.state = .running ∨ ch.state = .lapsed) :
    ch.trigger' = { ch with state := .running, counter := ch.reload } := by
  obtain hs | hs := hs <;> simp only [trigger', hm, hs]

theorem trigger'_measure_stopped {ch : Timer} (hm : ch.mode = .measure) (hs : ch.state = .stopped) : ch.trigger' = ch := by
  simp only [trigger', hm, hs]

theorem trigger'_measure_waiting {ch : Timer} (hm : ch.mode = .measure) (hs : ch.state = .waiting) :
    ch.trigger' = { ch with state := .running, counter := 0 } := by simp only [trigger', hm, hs]

theorem trigger'_measure_running {ch : Timer} (hm : ch.mode = .measure) (hs : ch.state = .running) :
    ch.trigger' = ch.takeInterval := by simp only [trigger', hm, hs]

theorem intervalQueue_recording {ch : Timer} (hm : ch.mode = .measure) (hs : ch.state = .running) (hr : ch.recordIntervals = true) :
    ch.intervalQueue = ch.recordQueue := if_pos ⟨hm, hs, hr⟩

end Timer

theorem State.timer_triggerTimer (s : State) (t x : Fin 8) :
    (s.triggerTimer t).timer x = if t = x then (s.timer t).triggered else s.timer x := by
  rw [← State.timer_setTimer]
  exact State.timer_congr (State.offerTo_frame _ _ _).timers x

/-- Settles O37. -/
theorem triggerActsByModeAndState : Obligations.TriggerActsByModeAndState := by
  intro s t ht
  have own : (s.triggerTimer t).timer t = (s.timer t).trigger' := by
    rw [State.timer_triggerTimer, if_pos rfl, Timer.triggered_not_owed ht]
  refine ⟨fun hm hs => ?_, fun hm hs => ?_, fun hm => ?_, fun hm hs => ?_, fun hm hs => ?_, fun hm hs => ?_, fun hm hs => ?_,
    fun hm hs => ⟨?_, fun hr n hq hon hroom => ?_⟩, fun x hx => ?_⟩
  · exact own.trans (Timer.trigger'_oneshot_stopped hm hs)
  · exact own.trans (Timer.trigger'_oneshot_going hm hs)
  · exact own.trans (Timer.trigger'_repeating hm)
  · exact own.trans (Timer.trigger'_retrigger_stopped hm hs)
  · exact own.trans (Timer.trigger'_retrigger_going hm hs)
  · exact own.trans (Timer.trigger'_measure_stopped hm hs)
  · exact own.trans (Timer.trigger'_measure_waiting hm hs)
  · exact own.trans (Timer.trigger'_measure_running hm hs)
  · exact (State.offerTo_offered (s.setTimer t (s.timer t).triggered) _ _).list
      ((Timer.intervalQueue_recording hm hs hr).trans hq) hon hroom
  · rw [State.timer_triggerTimer, if_neg (Ne.symm hx)]

end Sys2Proof.Machine
end

section
/-! Timestamps of placed records (R82, R106), and the words of the timebase (R108 to R110). -/

namespace Sys2Proof.Machine

namespace State

/-! ### The timestamps that records carry -/

/-- The counter stands at `w`, and every record beyond the lists `L` carries a timestamp in `S`. -/
def Stamped (w : Word) (S : Word → Prop) (L : Fin 4 → List Record) (s : State) : Prop :=
  s.timebase.timestamp = w ∧ ∀ n, ∀ r ∈ (s.queue n).list, r ∈ L n ∨ S r.timestamp

variable {w : Word} {S : Word → Prop} {L : Fin 4 → List Record}

/-- A state's own records. -/
theorem Stamped.start (s : State) (S : Word → Prop) : Stamped s.timebase.timestamp S (fun n => (s.queue n).list) s :=
  ⟨rfl, fun _ _ h => .inl h⟩

theorem Stamped.of_same {s t : State} (hb : t.timebase = s.timebase) (hq : t.queues = s.queues) : Keeps (Stamped w S L) s t := fun h =>
  ⟨by rw [hb]; exact h.1, fun n r hr => h.2 n r (by rwa [queue_congr hq] at hr)⟩

/-- Widening the timestamps allowed. -/
theorem Stamped.mono {s : State} (h : Stamped w S L s) {S' : Word → Prop} (hS : ∀ x, S x → S' x) : Stamped w S' L s :=
  ⟨h.1, fun n r hr => (h.2 n r hr).imp_right (hS _)⟩

/-- A placement adds at most the record given. -/
theorem mem_placeAt {s : State} {x : Word} {n m : Fin 4} {b : RecordBody} {r : Record}
    (h : r ∈ ((s.placeAt x n b).1.queue m).list) : r ∈ (s.queue m).list ∨ r = ⟨s.nextSerial, x, b⟩ := by
  have appended : ∀ u : State, r ∈ ((u.append x n b).queue m).list → r ∈ (u.queue m).list ∨ r = ⟨u.nextSerial, x, b⟩ := fun u hu => by
    rw [append_queue] at hu
    split at hu
    next hnm =>
      rw [← hnm]
      exact (List.mem_append.mp hu).imp_right List.mem_singleton.mp
    · exact .inl hu
  have lost : ∀ u : State, r ∈ ((u.loseIn n).queue m).list → r ∈ (u.queue m).list := fun u hu => by
    rw [loseIn_queue] at hu
    split at hu
    next hnm => rwa [← hnm]
    · exact hu
  cases hr : (s.queue n).reception with
  | room =>
    rw [placeAt_room hr] at h
    exact appended s h
  | displace =>
    rw [placeAt_displace hr] at h
    refine (appended _ h).imp_left fun h => ?_
    have h := lost _ h
    rw [dropOldest_queue] at h
    split at h
    next hnm =>
      rw [← hnm]
      exact List.mem_of_mem_tail h
    · exact h
  | refuse =>
    rw [placeAt_refuse hr] at h
    exact .inl (lost s h)

theorem Stamped.placeAt {s : State} {x : Word} (hx : S x) (n : Fin 4) (b : RecordBody) :
    Keeps (Stamped w S L) s (s.placeAt x n b).1 := fun h =>
  ⟨by rw [(placeAt_frame s x n b).timebase]; exact h.1,
    fun m r hr => (mem_placeAt hr).elim (h.2 m r) fun he => .inr (by rw [he]; exact hx)⟩

/-- Effects place their records with the value at which the counter stands. -/
theorem tickClosed_stamped (hw : S w) : TickClosed (Keeps (Stamped w S L)) := by
  refine EffectClosed.ticks ?_ (fun _ _ => .of_same rfl rfl) (fun _ _ => .of_same rfl rfl) (fun _ => .of_same rfl rfl)
  exact {
    refl := fun _ => id
    trans := fun h h' => h' ∘ h
    draw := fun _ => .of_same rfl rfl
    flag := fun _ _ => .of_same rfl rfl
    place := fun s n b _ h => Stamped.placeAt (by rw [h.1]; exact hw) n b h
    arm := fun s _ => .of_same (mapRules_timebase s _) (mapRules_queues s _)
    disarm := fun s _ => .of_same (mapRules_timebase s _) (mapRules_queues s _)
    windows := fun s _ => .of_same (mapRules_timebase s _) (mapRules_queues s _)
    expired := fun _ _ _ => .of_same rfl rfl
    triggered := fun _ _ => .of_same rfl rfl
    sampled := fun _ _ _ _ => .of_same rfl rfl
    counted := fun _ _ => .of_same rfl rfl
    stamped := fun _ _ => .of_same rfl rfl
    reopened := fun _ _ _ => .of_same rfl rfl
    pulseEnded := fun _ _ => .of_same rfl rfl }

/-- What the last tick owes carries the value that the counter had after it (R106). -/
theorem settleOwed_stamped (s : State) :
    ∀ n, ∀ r ∈ (s.settleOwed.queue n).list, r ∈ (s.queue n).list ∨ r.timestamp = s.timebase.timestamp :=
  ((tickClosed_stamped (S := (· = s.timebase.timestamp)) rfl).settleOwed s (Stamped.start s _)).2

/-! ### One owed expiry (R106, R129) -/

/-- The owed tick is taken with the expiry. -/
theorem expired_tickOwed (ch : Timer) : ch.expired.tickOwed = false := by
  unfold Timer.expired
  split <;> rfl

theorem tickOwed_of_owedParts {s : State} {c : Fin 8} (h : s.owedParts = [.timer c]) : (s.timer c).tickOwed = true := by
  have owed : OwedPart.timer c ∈ s.owedParts := by rw [h]; exact List.mem_singleton.mpr rfl
  simpa [owedParts, allTimers] using owed

theorem settleOwed_timer {s : State} {c : Fin 8} (h : s.owedParts = [.timer c]) (hx : (s.timer c).atExpiry = true) :
    ∃ u, s.ExpiryHandedOut c u ∧ u.timer c = (s.timer c).expired ∧ s.settleOwed.queues = u.queues ∧
      s.settleOwed.timers = u.timers := by
  obtain ⟨p, hp⟩ := inTickOrder_eq (takeOwed (.timer c)) { s with draw := s.draw + 1 }
  let v : State := { s with draw := s.draw + 1 + 1, alert := { s.alert with lastTick := p } }
  have taken : v.takeOwed (.timer c) = v.expire c := if_pos (Bool.and_eq_true_iff.mpr ⟨tickOwed_of_owedParts h, hx⟩)
  have alert : ∀ u : State, (u.takeOwed .alert).queues = u.queues ∧ (u.takeOwed .alert).timers = u.timers := fun u => by
    dsimp only [takeOwed]
    split <;> exact ⟨rfl, rfl⟩
  have settled : s.settleOwed = s.endCommand
      ((({ s with draw := s.draw + 1 } : State).endCommand (v.expire c)).takeOwed .alert) := by
    rw [settleOwed, h, race_single, hp, if_neg (by simp)]
    exact congrArg (fun x => s.endCommand ((endCommand { s with draw := s.draw + 1 } x).takeOwed .alert)) taken
  refine ⟨s.endCommand (v.expire c), (expire_handedOut c v).ends,
    (timer_congr (endCommand_timers ..) c).trans ((timer_expire c v c).trans (if_pos rfl)), ?_, ?_⟩
  · rw [settled]
    exact (alert _).1
  · rw [settled]
    exact (alert _).2

end State

/-! ### The words (R108 to R110) -/

theorem tbStartOp_running {s : State} (h : s.timebase.running = true) : tbStartOp s = (.active, s) := if_pos h

theorem tbStartOp_stopped {s : State} (h : s.timebase.running = false) :
    tbStartOp s = (.accepted, { s with timebase := { s.timebase with running := true, accumulator := 0, period := .starting } }) :=
  if_neg (by simp [h])

theorem tbStopOp_running {s : State} (h : s.timebase.running = true) :
    tbStopOp s = (.accepted, { s with timebase := { s.timebase with running := false, period := .none } }) := by
  rw [tbStopOp, if_pos h]
  rfl

theorem tbStopOp_stopped {s : State} (h : s.timebase.running = false) : tbStopOp s = (.accepted, s) := by
  rw [tbStopOp, if_neg (by simp [h])]

theorem tbConfigWrite_running {s : State} (h : s.timebase.running = true) (v : Word) : tbConfigWrite v s = (.active, s) := if_pos h

theorem tbConfigWrite_ok {s : State} {v : Word} (h : s.timebase.running = false) (hv : Timebase.configOk v = true) :
    tbConfigWrite v s = (.accepted, { s with timebase := { s.timebase with config := v &&& Timebase.configMask } }) := by
  simp [tbConfigWrite, h, hv]

theorem tbConfigWrite_bad {s : State} {v : Word} (h : s.timebase.running = false) (hv : ¬ Timebase.configOk v = true) :
    tbConfigWrite v s = (.invalid, s) := by simp [tbConfigWrite, h, hv]

theorem timestampWrite_running {s : State} (h : s.timebase.running = true) (v : Word) : timestampWrite v s = (.active, s) := if_pos h

theorem timestampWrite_stopped {s : State} (h : s.timebase.running = false) (v : Word) : timestampWrite v s =
    (.accepted, { s.settleOwed with timebase := { s.settleOwed.timebase with timestamp := v } }) := if_neg (by simp [h])

/-- Settles O31. -/
theorem timebaseWordsByTheRunState : Obligations.TimebaseWordsByTheRunState := by
  refine ⟨fun s left hw ho => ⟨fun hr => ⟨?_, ?_⟩, fun hr => ⟨?_, ?_⟩⟩,
    fun s v left hw ho => ⟨fun hr => ?_, fun hr hlow hhigh => ?_, fun hr hbad => ?_⟩,
    fun s v left hw ho => ⟨fun hr => ?_, fun hr hnone => ?_, fun hr => ?_⟩⟩
  · exact word_answered ho (by simp) hw (tbStartOp_running (s := s.setFrame _) hr)
  · exact word_answered ho (by simp) hw (tbStopOp_running (s := s.setFrame _) hr)
  · exact word_answered ho (by simp) hw (tbStartOp_stopped (s := s.setFrame _) hr)
  · exact word_answered ho (by simp) hw (tbStopOp_stopped (s := s.setFrame _) hr)
  · exact word_answered ho (by simp) hw (tbConfigWrite_running (s := s.setFrame _) (by exact hr) v)
  · exact word_answered ho (by simp) hw (tbConfigWrite_ok (s := s.setFrame _) hr ((Timebase.configOk_iff v).mpr ⟨hlow, hhigh⟩))
  · refine word_answered ho (by simp) hw (tbConfigWrite_bad (s := s.setFrame _) hr fun hok => ?_)
    obtain ⟨hlow, hhigh⟩ := (Timebase.configOk_iff v).mp hok
    obtain h | h := hbad
    · simp [h] at hlow
    · omega
  · exact word_answered ho (by simp) hw (timestampWrite_running (s := s.setFrame _) (by exact hr) v)
  · refine word_answered ho (by simp) hw ((timestampWrite_stopped (s := s.setFrame _) (by exact hr) v).trans ?_)
    rw [State.settleOwed_of_none (s := s.setFrame _) (by exact hnone)]
    rfl
  · let u := s.setFrame (.data .write (timestampAddr + 1) left)
    have frame := State.settleOwed_frame u
    have stamped := State.settleOwed_stamped u
    refine ⟨_, word_run (timestampWrite v) ho (by simp) hw, ?_⟩
    rw [timestampWrite_stopped (s := u) hr v]
    refine ⟨congrArg (fun b : Timebase => { b with timestamp := v }) frame.timebase,
      congrArg (fun l : Link => { l with status := .accepted, pendingMark := false }) frame.link, frame.path, frame.store, frame.pins,
      frame.copy, frame.defaultActions, frame.unmatched, State.settleOwed_alert_tickOwed u, stamped, fun c n hc hx hq hon hroom => ?_⟩
    obtain ⟨x, out, channel, queues, timers⟩ := State.settleOwed_timer (s := u) hc hx
    have owed : (u.settleOwed.timer c).tickOwed = false := by
      rw [State.timer_congr timers, channel]
      exact State.expired_tickOwed _
    exact ⟨owed, (congrArg Queue.list (State.queue_congr queues n)).trans (out.placed n hq hon hroom)⟩

end Sys2Proof.Machine
end

section
/-! REGISTER_WRITE (R177, R189): the word that any address names, put to the checks, and the row of the table that it is. -/

namespace Sys2Proof.Machine

/-! ### The map beyond and below its end (R189) -/

theorem targetOf_beyond {a : ServiceAddr} (h : 0x1C8 ≤ a.toNat) : targetOf a = .unmapped := by
  unfold targetOf
  dsimp only
  rw [if_neg (by omega), if_neg (by omega), if_neg (by omega), if_neg (by omega), if_neg (by omega), if_neg (by omega),
    if_neg (by omega), if_neg (by omega), if_neg (by omega), if_neg (by omega)]

theorem targetOf_exempt_below : ∀ x : Fin 0x1C8, (targetOf (BitVec.ofNat 16 x.val) = .device .lock → x.val = 0x004) ∧
    (targetOf (BitVec.ofNat 16 x.val) = .alert 0 → x.val = 0x1B8) := by decide +kernel

/-- Only the lock word is at the lock word's address, and only the flags word at its own. -/
theorem targetOf_exempt (a : ServiceAddr) :
    (targetOf a = .device .lock → a = 0x004) ∧ (targetOf a = .alert 0 → a = 0x1B8) := by
  by_cases h : 0x1C8 ≤ a.toNat
  · rw [targetOf_beyond h]
    exact ⟨nofun, nofun⟩
  · obtain ⟨lock, flags⟩ := targetOf_exempt_below ⟨a.toNat, by omega⟩
    rw [BitVec.ofNat_toNat, BitVec.setWidth_eq] at lock flags
    exact ⟨fun h => BitVec.eq_of_toNat_eq (lock h), fun h => BitVec.eq_of_toNat_eq (flags h)⟩

/-! ### Any word -/

theorem exec_registerWrite {s : State} {a : ServiceAddr} {left : Nat} (hw : s.AwaitsWord a left) (v : Word) :
    exec (.registerWrite v) s = whenPowered (State.serviceWrite' a (State.targetWrite (targetOf a) v)) s := by
  have row : exec (.registerWrite v) s = execRegisterWrite v s := rfl
  rw [row, execRegisterWrite, whenPowered_on hw.1, whenPowered_on hw.1]
  simp only [State.nextWrite_awaits hw, State.serviceWrite', if_true]

/-- The word is the row of the table whose operation its object carries out. -/
theorem registerWrite_row {s : State} {a : ServiceAddr} {left : Nat} {v : Word} {op : State → (Status × Bool) × State}
    (hw : s.AwaitsWord a left) (h : State.targetWrite (targetOf a) v = op) :
    exec (.registerWrite v) s = whenPowered (State.serviceWrite' a op) s := by rw [exec_registerWrite hw, h]

theorem registerWrite_refused {s : State} {a : ServiceAddr} {left : Nat} {st : Status} (hw : s.AwaitsWord a left)
    (hc : s.linkCheck (targetOf a) = some st) (v : Word) : exec (.registerWrite v) s = .next (s.answered a left st false) := by
  rw [exec_registerWrite hw, whenPowered_on hw.1]
  exact congrArg _ (State.serviceWrite'_refused _ hw hc)

/-- A word that is only answered. -/
theorem registerWrite_answered {s : State} {a : ServiceAddr} {left : Nat} {v : Word} {st : Status} (hw : s.AwaitsWord a left)
    (ho : s.WritesOpen) (hm : targetOf a ≠ .unmapped) (h : State.targetWrite (targetOf a) v = State.plain fun s => (st, s)) :
    exec (.registerWrite v) s = .next (s.answered a left st false) :=
  (registerWrite_row hw h).trans (word_answered ho hm hw rfl)

/-- A read-only word: no request is taken there. -/
def Target.ReadOnly (t : Target) : Prop := t ≠ .unmapped ∧ ∀ v, State.targetWrite t v = State.plain State.readOnlyOp

theorem readOnly_fixed : ∀ a : ServiceAddr, a = 0x000 ∨ a = 0x001 ∨ a = 0x003 ∨ a = 0x009 ∨ a = 0x00A ∨ a = 0x1B2 ∨ a = 0x1BB ∨
    a = 0x1C3 → (targetOf a).ReadOnly := by
  rintro a (rfl | rfl | rfl | rfl | rfl | rfl | rfl | rfl) <;> exact ⟨by decide, fun _ => rfl⟩

theorem targetOf_queueStatus : ∀ n : Fin 4, targetOf (queueAddr n 2) = .queue n 2 ∧ targetOf (queueAddr n 3) = .queue n 3 := by
  decide +kernel

theorem targetOf_timerResults : ∀ t : Fin 8, targetOf (timerAddr t 3) = .timer t 3 ∧ targetOf (timerAddr t 4) = .timer t 4 ∧
    targetOf (timerAddr t 5) = .timer t 5 := by decide +kernel

theorem targetOf_inputStatus : ∀ e : Fin 2, targetOf (inputAddr e 1) = .input e 1 ∧ targetOf (inputAddr e 2) = .input e 2 := by
  decide +kernel

theorem readOnly_rule (r : Fin 24) : (targetOf (ruleAddr r 7)).ReadOnly := by
  rw [show targetOf (ruleAddr r 7) = .rule r 7 from targetOf_rule r 7]
  exact ⟨nofun, fun _ => rfl⟩

theorem readOnly_queue {a : ServiceAddr} {n : Fin 4} (h : a = queueAddr n 2 ∨ a = queueAddr n 3) : (targetOf a).ReadOnly := by
  obtain ⟨two, three⟩ := targetOf_queueStatus n
  obtain rfl | rfl := h
  · rw [two]; exact ⟨nofun, fun _ => rfl⟩
  · rw [three]; exact ⟨nofun, fun _ => rfl⟩

theorem readOnly_window {a : ServiceAddr} {n : Fin 4} {k : Fin 6} (h : a = popAddr n k.val ∨ a = peekAddr n k.val) :
    (targetOf a).ReadOnly := by
  obtain rfl | rfl := h
  · rw [targetOf_pop]; exact ⟨nofun, fun _ => rfl⟩
  · rw [targetOf_peek]; exact ⟨nofun, fun _ => rfl⟩

theorem readOnly_timer {a : ServiceAddr} {t : Fin 8} (h : a = timerAddr t 3 ∨ a = timerAddr t 4 ∨ a = timerAddr t 5) :
    (targetOf a).ReadOnly := by
  obtain ⟨three, four, five⟩ := targetOf_timerResults t
  obtain rfl | rfl | rfl := h
  · rw [three]; exact ⟨nofun, fun _ => rfl⟩
  · rw [four]; exact ⟨nofun, fun _ => rfl⟩
  · rw [five]; exact ⟨nofun, fun _ => rfl⟩

theorem readOnly_input {a : ServiceAddr} {e : Fin 2} (h : a = inputAddr e 1 ∨ a = inputAddr e 2) : (targetOf a).ReadOnly := by
  obtain ⟨one, two⟩ := targetOf_inputStatus e
  obtain rfl | rfl := h
  · rw [one]; exact ⟨nofun, fun _ => rfl⟩
  · rw [two]; exact ⟨nofun, fun _ => rfl⟩

/-- Settles O46. -/
theorem registerWriteChecksInOrder : Obligations.RegisterWriteChecksInOrder := by
  intro s v a left hw
  obtain ⟨lock, flags⟩ := targetOf_exempt a
  have lockAt : a = 0x004 → targetOf a = .device .lock := fun h => h ▸ targetOf_lock
  refine ⟨fun hm => ?_, fun hm hl h4 h8 => ?_, fun hm hpass hb => ?_, fun ho ha => ?_⟩
  · exact registerWrite_refused hw (by rw [hm]; exact State.linkCheck_unmapped s) v
  · exact registerWrite_refused hw (State.linkCheck_locked hl hm (fun h => h4 (lock h)) fun h => h8 (flags h)) v
  · refine registerWrite_refused hw ?_ v
    have notLocked : ¬ (s.link.locked = true ∧ targetOf a ≠ .device .lock ∧ targetOf a ≠ .alert 0) := by
      rintro ⟨hl, hnlock, hnflags⟩
      obtain h | h | h := hpass
      · exact absurd (hl.symm.trans h) nofun
      · exact hnlock (lockAt h)
      · exact hnflags (h ▸ targetOf_alertFlags)
    have busy : s.store.state = .loading ∨ (s.store.state = .saving ∧ targetOf a ≠ .device .lock) :=
      hb.imp_right fun h => ⟨h.1, fun he => h.2 (lock he)⟩
    rw [State.linkCheck, if_neg hm, if_neg notLocked, if_pos busy]
  · have readOnly : (targetOf a).ReadOnly := by
      obtain h | h | h | h | h | h | h | h | ⟨r, rfl⟩ | ⟨n, h⟩ | ⟨n, k, h⟩ | ⟨t, h⟩ | ⟨e, h⟩ := ha
      case inr.inr.inr.inr.inr.inr.inr.inr.inl => exact readOnly_rule r
      case inr.inr.inr.inr.inr.inr.inr.inr.inr.inl => exact readOnly_queue h
      case inr.inr.inr.inr.inr.inr.inr.inr.inr.inr.inl => exact readOnly_window h
      case inr.inr.inr.inr.inr.inr.inr.inr.inr.inr.inr.inl => exact readOnly_timer h
      case inr.inr.inr.inr.inr.inr.inr.inr.inr.inr.inr.inr => exact readOnly_input h
      all_goals exact readOnly_fixed a (by simp [h])
    exact registerWrite_answered hw ho readOnly.1 (readOnly.2 v)

/-! ### Action words by their request code (R15, R81, R108, R152, R181) -/

theorem ruleControlWrite_enable {v : Word} (h : fld v 20 2 = 1) (r : Fin 24) : ruleWordWrite r .control v = ruleEnable r := by
  funext s
  simp [ruleWordWrite, ruleControlWrite, h]

theorem ruleControlWrite_disable {v : Word} (h : fld v 20 2 = 2) (r : Fin 24) : ruleWordWrite r .control v = ruleDisable r := by
  funext s
  simp [ruleWordWrite, ruleControlWrite, h]

theorem ruleControlWrite_clearHits {v : Word} (h : fld v 20 2 = 3) (r : Fin 24) : ruleWordWrite r .control v = ruleClearHits r := by
  funext s
  simp [ruleWordWrite, ruleControlWrite, h]

/-- A request code that no word names. -/
theorem code_large {c : BitVec 3} (h : 4 ≤ c.toNat) : c = 4 ∨ c = 5 ∨ c = 6 ∨ c = 7 := by
  revert c
  decide

section

variable {v : Word}

theorem queueActionWrite_none (h : fld v 0 3 = 0) (n : Fin 4) : queueActionWrite n v = fun s => (.accepted, s) := by
  funext s; simp [queueActionWrite, h]
theorem queueActionWrite_on (h : fld v 0 3 = 1) (n : Fin 4) : queueActionWrite n v = queueTurnOn n := by
  funext s; simp [queueActionWrite, h]
theorem queueActionWrite_off (h : fld v 0 3 = 2) (n : Fin 4) : queueActionWrite n v = queueTurnOff n := by
  funext s; simp [queueActionWrite, h]
theorem queueActionWrite_flush (h : fld v 0 3 = 3) (n : Fin 4) : queueActionWrite n v = queueFlush n := by
  funext s; simp [queueActionWrite, h]
theorem queueActionWrite_bad (h : 4 ≤ (fld v 0 3).toNat) (n : Fin 4) : queueActionWrite n v = fun s => (.invalid, s) := by
  funext s; obtain h | h | h | h := code_large h <;> simp [queueActionWrite, h]

theorem timerActionWrite_none (h : fld v 0 3 = 0) (t : Fin 8) : timerActionWrite t v = fun s => (.accepted, s) := by
  funext s; simp [timerActionWrite, h]
theorem timerActionWrite_start (h : fld v 0 3 = 1) (t : Fin 8) : timerActionWrite t v = timerStart t := by
  funext s; simp [timerActionWrite, h]
theorem timerActionWrite_stop (h : fld v 0 3 = 2) (t : Fin 8) : timerActionWrite t v = timerStop t := by
  funext s; simp [timerActionWrite, h]
theorem timerActionWrite_preset (h : fld v 0 3 = 3) (t : Fin 8) : timerActionWrite t v = timerPreset t := by
  funext s; simp [timerActionWrite, h]
theorem timerActionWrite_bad (h : 4 ≤ (fld v 0 3).toNat) (t : Fin 8) : timerActionWrite t v = fun s => (.invalid, s) := by
  funext s; obtain h | h | h | h := code_large h <;> simp [timerActionWrite, h]

theorem gateActionWrite_none (h : fld v 0 3 = 0) : gateActionWrite v = fun s => (.accepted, s) := by
  funext s; simp [gateActionWrite, h]
theorem gateActionWrite_hold (h : fld v 0 3 = 1) : gateActionWrite v = gateHoldWrite := by
  funext s; simp [gateActionWrite, h]
theorem gateActionWrite_release (h : fld v 0 3 = 2) : gateActionWrite v = gateReleaseWrite := by
  funext s; simp [gateActionWrite, h]
theorem gateActionWrite_bad (h : 4 ≤ (fld v 0 3).toNat ∨ fld v 0 3 = 3) : gateActionWrite v = fun s => (.invalid, s) := by
  funext s; obtain (h | h | h | h) | h := h.imp_left code_large <;> simp [gateActionWrite, h]

theorem tbActionWrite_none (h : fld v 0 3 = 0) : tbActionWrite v = fun s => (.accepted, s) := by
  funext s; simp [tbActionWrite, h]
theorem tbActionWrite_start (h : fld v 0 3 = 1) : tbActionWrite v = tbStartOp := by
  funext s; simp [tbActionWrite, h]
theorem tbActionWrite_stop (h : fld v 0 3 = 2) : tbActionWrite v = tbStopOp := by
  funext s; simp [tbActionWrite, h]
theorem tbActionWrite_bad (h : 4 ≤ (fld v 0 3).toNat ∨ fld v 0 3 = 3) : tbActionWrite v = fun s => (.invalid, s) := by
  funext s; obtain (h | h | h | h) | h := h.imp_left code_large <;> simp [tbActionWrite, h]

theorem deviceActionWrite_none (h : fld v 0 3 = 0) : State.deviceActionWrite v = State.plain fun s => (.accepted, s) := by
  funext s; simp [State.deviceActionWrite, h, State.plain]
theorem deviceActionWrite_save (h : fld v 0 3 = 1) : State.deviceActionWrite v = State.plain State.saveOp := by
  funext s; simp [State.deviceActionWrite, h]
theorem deviceActionWrite_restart (h : fld v 0 3 = 2) : State.deviceActionWrite v = State.restartOp := by
  funext s; simp [State.deviceActionWrite, h]
theorem deviceActionWrite_pathReset (h : fld v 0 3 = 3) : State.deviceActionWrite v = State.plain pathResetOp := by
  funext s; simp [State.deviceActionWrite, h]
theorem deviceActionWrite_bad (h : 4 ≤ (fld v 0 3).toNat) : State.deviceActionWrite v = State.plain fun s => (.invalid, s) := by
  funext s; obtain h | h | h | h := code_large h <;> simp [State.deviceActionWrite, h, State.plain]

end

/-! ### The operation of each word by its address -/

section

variable (v : Word)

theorem targetWrite_ruleWord (r : Fin 24) (w : RuleWord) :
    State.targetWrite (targetOf (ruleAddr r (ruleWordOffset w))) v = State.plain (ruleWordWrite r w v) := by
  rw [targetOf_ruleWord]
  cases w <;> rfl

theorem targetWrite_timerWord (t : Fin 8) (w : TimerWord) :
    State.targetWrite (targetOf (timerAddr t (timerWordOffset w))) v = State.plain (timerConfigWrite t w v) := by
  rw [targetOf_timerWord]
  cases w <;> rfl

theorem targetWrite_ruleControl (r : Fin 24) :
    State.targetWrite (targetOf (ruleAddr r 0)) v = State.plain (ruleWordWrite r .control v) := targetWrite_ruleWord v r .control

theorem targetWrite_queueAction (n : Fin 4) :
    State.targetWrite (targetOf (queueAddr n 1)) v = State.plain (queueActionWrite n v) := by rw [targetOf_queueAction]; rfl

theorem targetWrite_timerAction (t : Fin 8) :
    State.targetWrite (targetOf (timerAddr t 2)) v = State.plain (timerActionWrite t v) := by rw [targetOf_timerAction]; rfl

theorem targetWrite_action : State.targetWrite (targetOf actionAddr) v = State.deviceActionWrite v := by rw [targetOf_action]; rfl

theorem targetWrite_gateAction : State.targetWrite (targetOf gateActionAddr) v = State.plain (gateActionWrite v) := by
  rw [targetOf_gateAction]; rfl

theorem targetWrite_timebaseAction : State.targetWrite (targetOf timebaseActionAddr) v = State.plain (tbActionWrite v) := by
  rw [targetOf_timebaseAction]; rfl

end

/-- Settles O47. -/
theorem registerWriteIsTheRowOfItsWord : Obligations.RegisterWriteIsTheRowOfItsWord := by
  intro s v a left hw
  have row : ∀ {op : State → (Status × Bool) × State} {t : Target}, targetOf a = t → State.targetWrite t v = op →
      exec (.registerWrite v) s = whenPowered (State.serviceWrite' a op) s := fun ht h => registerWrite_row hw (ht ▸ h)
  refine ⟨?_, ?_, ?_, ?_, ?_, ?_, ?_, ?_, ?_, ?_, ?_, ?_, ?_, ?_, ?_, ?_, ?_, ?_, ?_, ?_, ?_, fun ho ha => ?_⟩
  · rintro r rfl
    exact ⟨fun h => row rfl ((targetWrite_ruleControl v r).trans (congrArg _ (ruleControlWrite_enable h r))),
      fun h => row rfl ((targetWrite_ruleControl v r).trans (congrArg _ (ruleControlWrite_disable h r))),
      fun h => row rfl ((targetWrite_ruleControl v r).trans (congrArg _ (ruleControlWrite_clearHits h r)))⟩
  · rintro r w rfl -
    exact row rfl (targetWrite_ruleWord v r w)
  · rintro n rfl
    exact row (targetOf_queueConfig n) rfl
  · rintro n rfl
    exact ⟨fun h => row rfl ((targetWrite_queueAction v n).trans (congrArg _ (queueActionWrite_on h n))),
      fun h => row rfl ((targetWrite_queueAction v n).trans (congrArg _ (queueActionWrite_off h n))),
      fun h => row rfl ((targetWrite_queueAction v n).trans (congrArg _ (queueActionWrite_flush h n)))⟩
  · rintro t w rfl
    exact row rfl (targetWrite_timerWord v t w)
  · rintro t rfl
    exact ⟨fun h => row rfl ((targetWrite_timerAction v t).trans (congrArg _ (timerActionWrite_start h t))),
      fun h => row rfl ((targetWrite_timerAction v t).trans (congrArg _ (timerActionWrite_stop h t))),
      fun h => row rfl ((targetWrite_timerAction v t).trans (congrArg _ (timerActionWrite_preset h t)))⟩
  · rintro e rfl
    exact row (targetOf_inputConfig e) rfl
  · rintro rfl
    exact ⟨fun h => row rfl ((targetWrite_action v).trans (deviceActionWrite_save h)),
      fun h => row rfl ((targetWrite_action v).trans (deviceActionWrite_restart h)),
      fun h => row rfl ((targetWrite_action v).trans (deviceActionWrite_pathReset h))⟩
  · rintro rfl
    exact row targetOf_lock rfl
  · rintro rfl
    exact row targetOf_accessCode rfl
  · rintro rfl
    exact row targetOf_alertFlags rfl
  · rintro rfl
    exact row targetOf_alertEnable rfl
  · rintro rfl
    exact row targetOf_alertConfig rfl
  · rintro rfl
    exact row targetOf_defaultActions rfl
  · rintro rfl
    exact row targetOf_unmatched rfl
  · rintro rfl
    exact row targetOf_responseLimit rfl
  · rintro rfl
    exact row targetOf_gateConfig rfl
  · rintro rfl
    exact row targetOf_timebaseConfig rfl
  · rintro rfl
    exact row targetOf_timestamp rfl
  · rintro rfl
    exact ⟨fun h => row rfl ((targetWrite_gateAction v).trans (congrArg _ (gateActionWrite_hold h))),
      fun h => row rfl ((targetWrite_gateAction v).trans (congrArg _ (gateActionWrite_release h)))⟩
  · rintro rfl
    exact ⟨fun h => row rfl ((targetWrite_timebaseAction v).trans (congrArg _ (tbActionWrite_start h))),
      fun h => row rfl ((targetWrite_timebaseAction v).trans (congrArg _ (tbActionWrite_stop h)))⟩
  · have alone : ∀ {b : ServiceAddr}, targetOf b ≠ .gate 1 → targetOf b ≠ .timebase 1 →
        4 ≤ (fld v 0 3).toNat ∨ (fld v 0 3 = 3 ∧ (b = gateActionAddr ∨ b = timebaseActionAddr)) → 4 ≤ (fld v 0 3).toNat := by
      rintro b hg ht (h | ⟨-, rfl | rfl⟩)
      · exact h
      · exact absurd targetOf_gateAction hg
      · exact absurd targetOf_timebaseAction ht
    obtain rfl | rfl | rfl | ⟨n, rfl⟩ | ⟨t, rfl⟩ := ha
    · exact ⟨fun h => registerWrite_answered hw ho (by simp) ((targetWrite_action v).trans (deviceActionWrite_none h)),
        fun h => registerWrite_answered hw ho (by simp)
          ((targetWrite_action v).trans (deviceActionWrite_bad (alone (by simp) (by simp) h)))⟩
    · exact ⟨fun h => registerWrite_answered hw ho (by simp) ((targetWrite_gateAction v).trans (congrArg _ (gateActionWrite_none h))),
        fun h => registerWrite_answered hw ho (by simp)
          ((targetWrite_gateAction v).trans (congrArg _ (gateActionWrite_bad (h.imp_right And.left))))⟩
    · exact ⟨fun h => registerWrite_answered hw ho (by simp)
          ((targetWrite_timebaseAction v).trans (congrArg _ (tbActionWrite_none h))),
        fun h => registerWrite_answered hw ho (by simp)
          ((targetWrite_timebaseAction v).trans (congrArg _ (tbActionWrite_bad (h.imp_right And.left))))⟩
    · exact ⟨fun h => registerWrite_answered hw ho (by simp)
          ((targetWrite_queueAction v n).trans (congrArg _ (queueActionWrite_none h n))),
        fun h => registerWrite_answered hw ho (by simp)
          ((targetWrite_queueAction v n).trans (congrArg _ (queueActionWrite_bad (alone (by simp) (by simp) h) n)))⟩
    · exact ⟨fun h => registerWrite_answered hw ho (by simp)
          ((targetWrite_timerAction v t).trans (congrArg _ (timerActionWrite_none h t))),
        fun h => registerWrite_answered hw ho (by simp)
          ((targetWrite_timerAction v t).trans (congrArg _ (timerActionWrite_bad (alone (by simp) (by simp) h) t)))⟩

end Sys2Proof.Machine
end

section
/-! The steps of the machine, what it is at reset, the requests that wait or meet the gate (R50 to R55, R58, R73, R160, R183), and SAVE
(R182, R185). -/

namespace Sys2Proof.Machine

/-! ### A step (log 3) -/

namespace State

theorem firstPeriodDue_iff (s : State) : s.firstPeriodDue = true ↔ s.powered = true ∧ s.timebase.period = .starting := by
  simp [firstPeriodDue]

theorem firstPeriodDue_of_not {s : State} (h : s.powered = false ∨ s.timebase.period ≠ .starting) : s.firstPeriodDue = false :=
  Bool.eq_false_iff.mpr fun hd => by
    obtain ⟨hp, hb⟩ := (firstPeriodDue_iff s).mp hd
    obtain h | h := h
    · exact absurd (h.symm.trans hp) nofun
    · exact h hb

theorem plainWord_of_not_reading {s : State} (h : s.powered = false ∨ ∀ a left, s.link.frame ≠ .data .read a (left + 1)) :
    s.plainWord = none := by
  unfold plainWord
  split
  next a left hp hf =>
    obtain h | h := h
    · exact absurd (h.symm.trans hp) nofun
    · exact absurd hf (h a left)
  · rfl

theorem plainWord_of_reading {s : State} {a : ServiceAddr} {left : Nat} (hp : s.powered = true)
    (hf : s.link.frame = .data .read a (left + 1)) :
    s.plainWord = if hasRow s.copy a then none else some (.data .read (a + 1) left) := by
  simp only [plainWord, hp, hf]

theorem hasRow_of_not_window {a : ServiceAddr} (h : ∀ k q off, targetOf a ≠ .window k q off) (c : Option ReadCopy) :
    hasRow c a = false := by
  unfold hasRow
  split
  next n off ht => exact absurd ht (h _ _ _)
  next n off ht => exact absurd ht (h _ _ _)
  · rfl

/-- The first word of a window is a row of its own. -/
theorem hasRow_of_window {a : ServiceAddr} {k : WindowKind} {q : Fin 4} {off : Fin 6} (h : targetOf a = .window k q off) :
    hasRow none a = true := by
  cases k <;> simp [hasRow, h, copied]

theorem idle_of_not_due {s : State} (h : s.firstPeriodDue = false) : s.idle = s.clockOut := if_neg (by simp [h])

theorem clockOut_none {s : State} (h : s.plainWord = none) : s.clockOut = s := by simp only [clockOut, h]

theorem clockOut_some {s : State} {f : Frame} (h : s.plainWord = some f) : s.clockOut = s.setFrame f := by simp only [clockOut, h]

end State

theorem step_of_no_command {s : State} (h : s.pending = []) : step s = .next s.idle := by simp only [step, h]

/-- Settles O1. -/
theorem stepRunsTheFrontCommandOrIdles : Obligations.StepRunsTheFrontCommandOrIdles := by
  refine ⟨fun c rest s => rfl, fun s hs => ⟨fun hd hr => ?_, fun hp hb hr => ?_, fun a left hp hb hf => ⟨fun ht => ?_, fun k q off ht hc => ?_⟩⟩⟩
  · rw [step_of_no_command hs, State.idle_of_not_due (State.firstPeriodDue_of_not hd),
      State.clockOut_none (State.plainWord_of_not_reading hr)]
  · have quiet : s.plainWord = none := State.plainWord_of_not_reading (.inr hr)
    have begun : s.idle = s.beginFirstPeriod := by
      rw [State.idle, if_pos ((State.firstPeriodDue_iff s).mpr ⟨hp, hb⟩), if_neg (by simp [quiet])]
    rw [step_of_no_command hs, begun]
    simp only [State.beginFirstPeriod, Timebase.firstBegun, hb]
    rfl
  · have word := State.plainWord_of_reading hp hf
    rw [State.hasRow_of_not_window ht] at word
    rw [step_of_no_command hs, State.idle_of_not_due (State.firstPeriodDue_of_not (.inr hb)), State.clockOut_some word]
    rfl
  · have word := State.plainWord_of_reading hp hf
    rw [hc, State.hasRow_of_window ht] at word
    rw [step_of_no_command hs, State.idle_of_not_due (State.firstPeriodDue_of_not (.inr hb)), State.clockOut_none word]

/-! ### URST (R73, R74) -/

/-- Settles O19. -/
theorem upstreamResetMarksTheTransactionInFlight : Obligations.UpstreamResetMarksTheTransactionInFlight := by
  intro s hpow
  have rise : exec .urstAssert s = execUrstAssert s := rfl
  refine ⟨fun h => ?_, fun h => ?_, rfl⟩
  · rw [rise, execUrstAssert]
    dsimp only
    rw [if_pos (by simp [hpow, h])]
  · rw [rise, execUrstAssert]
    dsimp only
    rw [if_neg (by simp [h])]

/-! ### A request that is presented (R50, R52, R55) -/

namespace State

variable {s : State}

theorem NoHold.canTake (h : s.NoHold) : s.canTake = true := by
  obtain ⟨hpow, hphase, hload, hlate, hrestart, hurst⟩ := h
  simp [State.canTake, holdApplies, hpow, hphase, hload, hlate, hrestart, hurst]

theorem canTake_of_hold (h : s.path.phase ≠ .idle ∨ s.store.state = .loading ∨ s.path.port = .late ∨ s.path.restartHold = true ∨
    s.pins.urst = true) : s.canTake = false := by
  obtain h | h | h | h | h := h <;> simp [State.canTake, holdApplies, h]

theorem present_waits (r : Request) (h : s.canTake = false) :
    s.present r = ({ s with path := { s.path with held := some r, answer := none } } : State).undecided :=
  if_neg (Bool.eq_false_iff.mp h)

theorem present_taken (r : Request) (h : s.canTake = true) : s.present r = ({ s with path := { s.path with answer := none } } : State).take r :=
  if_pos h

theorem takeHeld_taken {r : Request} (hr : s.path.held = some r) (h : s.canTake = true) : s.takeHeld = s.take r := by
  simp only [takeHeld, hr, h, if_true]

/-- The transaction of a request, with the number it gets. -/
abbrev numbered (s : State) : State :=
  { s with path := { s.path with number := s.path.number + 1, held := none, abandoned := false, answer := none } }

theorem take_eq (s : State) (r : Request) :
    s.take r = s.gateEndDrain.numbered.startTxn (captureRequest (s.gateEndDrain.path.number + 1) r) := rfl

/-- A taking with no drain to end. -/
theorem take_of_not_draining (h : s.gate.state ≠ .draining) (r : Request) :
    s.take r = s.numbered.startTxn (captureRequest (s.path.number + 1) r) := by
  have due : s.gate.drainDue = false := by simp [Gate.drainDue, h]
  rw [take_eq, gateEndDrain_of_not_due due]

end State

theorem exec_upstreamRequest {s : State} {r : Request} (hr : r.wf = true) (hh : s.path.held = none) :
    exec (.upstreamRequest r) s = .next (s.thenChanges (s.present r)) := by
  have row : exec (.upstreamRequest r) s = execUpstreamRequest r s := rfl
  rw [row, execUpstreamRequest, hr, hh]
  rfl

theorem exec_heldRequestTaken (s : State) : exec .heldRequestTaken s = .next (s.thenChanges s.takeHeld) := rfl

/-- A request that nothing holds is taken at once. -/
theorem exec_upstreamRequest_taken {s : State} {r : Request} (hr : r.wf = true) (hh : s.path.held = none) (h : s.NoHold) :
    exec (.upstreamRequest r) s = .next (s.thenChanges (({ s with path := { s.path with answer := none } } : State).take r)) := by
  rw [exec_upstreamRequest hr hh, State.present_taken r h.canTake]

/-- With no decision there are no changes to follow. -/
theorem State.thenChanges_undecided_of_alert {s u : State} (h : u.alert = s.alert) : s.thenChanges u.undecided = u := by
  rw [State.thenChanges_undecided, State.endCommand_of_eq (by rw [h])]

/-! ### A write that the gate answers at its arrival (R58, R160) -/

theorem Gate.answer_eq (g : Gate) : g.answer = if fld g.config 0 2 = 1 then .done else .error := by
  unfold answer discards
  simp only [beq_iff_eq]
  rfl

theorem Request.write_wf {a : BitVec 24} {lanes : Lanes} {d : Word} {bs : List Between} (h : lanes ≠ 0) :
    (Request.write a lanes d bs).wf = true := bne_iff_ne.mpr h

theorem State.startTxn_gated {s : State} {t : Txn} (hk : t.kind = .write) (hg : s.gate.state ≠ .opened) :
    s.startTxn t = (s.countRefused.finishTxn (some s.gate.answer)).undecided := if_pos ⟨hk, hg⟩

/-- Settles O5. -/
theorem writeMeetsTheGateAtArrival : Obligations.WriteMeetsTheGateAtArrival := by
  intro s a lanes d bs hl h hh hg
  have notDraining : s.gate.state ≠ .draining := by obtain h | h := hg <;> rw [h] <;> exact nofun
  have notOpen : s.gate.state ≠ .opened := by obtain h | h := hg <;> rw [h] <;> exact nofun
  let u : State := { s with path := { s.path with answer := none } }
  have taken : u.take (.write a lanes d bs) = (u.numbered.countRefused.finishTxn (some s.gate.answer)).undecided :=
    (State.take_of_not_draining (s := u) notDraining _).trans (State.startTxn_gated (s := u.numbered) rfl notOpen)
  rw [exec_upstreamRequest_taken (Request.write_wf hl) hh h, taken, State.thenChanges_undecided_of_alert (by rfl), Gate.answer_eq]
  simp only [State.finishTxn, Path.finish, State.countRefused, Gate.refuseWrite, u, hh]

/-! ### SAVE (R161, R182, R185) -/

theorem saveOp_busy {s : State} (h : s.gate.state ≠ .opened) : State.saveOp s = (.busy, s) := if_pos h

theorem saveOp_taken {s : State} (h : s.gate.state = .opened) : State.saveOp s = (.accepted, { s with store :=
    { s.store with state := .saving, copy := some s.capturedImage, saveResult := .none, check := none } }) :=
  if_neg (not_not.mpr h)

theorem endSave_saving {s : State} {c : Image} (h : s.store.state = .saving) (hc : s.store.copy = some c) :
    s.endSave = { s with store := { s.store with
      state := .idle, image := c, check := some (Config.checkValue c.words), copy := none, saveResult := .complete } } := by
  simp only [State.endSave, h, hc]

/-- Settles O49. -/
theorem saveWritesTheImage : Obligations.SaveWritesTheImage := by
  refine ⟨fun s => ?_, fun s left hw ho => ⟨fun hg => ?_, fun hg => ?_⟩, fun s c hpow hs hc => ?_⟩
  · have rules : ∀ r : Fin 24, s.capturedImage.rules[r] = ⟨(s.rule r).defn, (s.rule r).isEnabled⟩ := fun r => by
      simp [State.capturedImage, State.rule]
    have timers : ∀ t : Fin 8, s.capturedImage.timers[t] = ⟨(s.timer t).config, (s.timer t).reload, (s.timer t).state != .stopped⟩ :=
      fun t => by simp [State.capturedImage, State.timer]
    refine ⟨fun r => ?_, fun n => ?_, fun t => ?_, fun e => ?_, rfl, rfl, rfl, rfl, rfl, rfl, rfl, rfl, rfl⟩
    · exact (rules r).trans (congrArg _ (Bool.eq_iff_iff.mpr (by simp [Rule.isEnabled])))
    · simp [State.capturedImage, State.queue]
    · exact (timers t).trans (congrArg _ (Bool.eq_iff_iff.mpr (by simp)))
    · simp [State.capturedImage, State.input]
  · exact word_answered ho (by simp) hw (saveOp_busy (s := s.setFrame _) (by exact hg))
  · have captured : (s.setFrame (.data .write (actionAddr + 1) left)).capturedImage = s.capturedImage := rfl
    exact word_answered ho (by simp) hw (saveOp_taken (s := s.setFrame _) hg)
  · exact (whenPowered_on hpow).trans (congrArg _ (endSave_saving hs hc))

end Sys2Proof.Machine
end

section
/-! Resets and power (R75, R183, R186), and the part at its reset (log 8). -/

namespace Sys2Proof.Machine

namespace State

/-! ### A save that is cut off (R186) -/

theorem tearSave_frame (s : State) (r : SaveResult) : ∃ (d : Nat) (c : Store), s.tearSave r = { s with draw := d, store := c } := by
  unfold tearSave
  split
  · exact ⟨_, _, rfl⟩
  · exact ⟨_, _, rfl⟩

theorem tearSave_pins (s : State) (r : SaveResult) : (s.tearSave r).pins = s.pins := by
  obtain ⟨d, c, h⟩ := tearSave_frame s r
  rw [h]

theorem tearSave_of_not_saving {s : State} (h : s.store.state ≠ .saving) (r : SaveResult) : s.tearSave r = s := by
  unfold tearSave
  split
  next c hs _ => exact absurd hs h
  · rfl

theorem tearSave_saving {s : State} {c : Image} (h : s.store.state = .saving) (hc : s.store.copy = some c) (r : SaveResult) :
    s.tearSave r = { s with
      draw := s.draw + 1
      store := { s.store with
        state := .idle, image := .torn (Config.tornNew s.draw) s.store.image c, check := none, copy := none, saveResult := r } } := by
  simp only [tearSave, h, hc]

/-- A save cut off leaves no check value, and the store IDLE. -/
theorem tearSave_check {s : State} (hok : s.store.Ok) (h : s.store.state = .saving) (r : SaveResult) :
    (s.tearSave r).store.check = none ∧ (s.tearSave r).store.state = .idle := by
  obtain ⟨c, hc⟩ := Option.isSome_iff_exists.mp (hok.1.mp h)
  rw [tearSave_saving h hc]
  exact ⟨rfl, rfl⟩

/-! ### Every block at its reset value (R183) -/

/-- What a reset of `s` leaves, whatever the pins and power do. -/
structure ResetFrom (s t : State) : Prop where
  loading : t.store.state = .loading
  blank : t.Blank
  loadDefaults : t.store.loadDefaults = true
  saveResult : t.store.saveResult = .none
  link : t.link = Link.reset
  copy : t.copy = none
  path : t.path = { Path.reset with held := s.path.held }
  image : s.store.state ≠ .saving → t.store.image = s.store.image ∧ t.store.check = s.store.check
  check : s.store.Ok → s.store.state = .saving → t.store.check = none

theorem resetFrom (s : State) : ResetFrom s (s.tearSave .none).resetBlocks where
  loading := rfl
  blank := resetBlocks_blank _
  loadDefaults := rfl
  saveResult := rfl
  link := rfl
  copy := rfl
  path := congrArg Path.resetKeepHeld (TxnStep.tearSave_path s .none)
  image h := by
    rw [tearSave_of_not_saving h]
    exact ⟨rfl, rfl⟩
  check hok h := (tearSave_check hok h .none).1

/-- What the statement lists of a reset. -/
theorem ResetFrom.listed {s t : State} (h : ResetFrom s t) :
    t.store.state = .loading ∧ t.LoadingOk ∧ t.store.loadDefaults = true ∧ t.store.saveResult = .none ∧ t.link = Link.reset ∧
      t.copy = none ∧ t.path = { Path.reset with held := s.path.held } ∧
      (s.store.state ≠ .saving → t.store.image = s.store.image ∧ t.store.check = s.store.check) ∧
      (s.store.Ok → s.store.state = .saving → t.store.check = none) :=
  ⟨h.loading, fun _ => h.blank, h.loadDefaults, h.saveResult, h.link, h.copy, h.path, h.image, h.check⟩

theorem ResetFrom.power {s t : State} (h : ResetFrom s t) (b : Bool) : ResetFrom s { t with powered := b } :=
  ⟨h.loading, h.blank, h.loadDefaults, h.saveResult, h.link, h.copy, h.path, h.image, h.check⟩

end State

theorem exec_partReset {s : State} (hpow : s.powered = true) : exec .partReset s =
    .next (({ s with pins := { s.pins with rst := true } } : State).tearSave .none).resetBlocks := by
  have row : exec .partReset s = execPartReset s := rfl
  rw [row, execPartReset]
  dsimp only
  rw [if_pos hpow]

/-- Settles O52. -/
theorem resetsPutEveryBlockAtItsValue : Obligations.ResetsPutEveryBlockAtItsValue := by
  refine ⟨fun s => ?_, fun s hpow => ?_, fun s => rfl, fun s => ?_⟩
  · exact ⟨_, rfl, ((State.resetFrom s).power true).listed, rfl, State.tearSave_pins s .none⟩
  · let u : State := { s with pins := { s.pins with rst := true } }
    have power : (u.tearSave .none).powered = true := by
      obtain ⟨d, c, h⟩ := State.tearSave_frame u .none
      rw [h]
      exact hpow
    have reset := State.resetFrom u
    exact ⟨_, exec_partReset hpow,
      (⟨reset.loading, reset.blank, reset.loadDefaults, reset.saveResult, reset.link, reset.copy, reset.path, reset.image,
        reset.check⟩ : State.ResetFrom s _).listed, power, State.tearSave_pins u .none⟩
  · refine ⟨_, rfl, rfl, State.tearSave_pins s .none, fun h => ?_, fun hok h => State.tearSave_check hok h .none⟩
    rw [State.tearSave_of_not_saving h]

/-! ### The part at its reset -/

/-- The words that are read of a part at its reset. -/
theorem reset_readWord : State.reset.readWord 0x000 = 0x4B470124 ∧ State.reset.readWord 0x008 = 0x00000400 ∧
    (∀ n, State.reset.readWord (queueAddr n 0) = 0x00010000) ∧
    (∀ t, State.reset.readWord (timerAddr t 1) = 0x0000FFFF ∧ State.reset.readWord (timerAddr t 5) = 0x0000FFFF) ∧
    State.reset.readWord 0x1B0 = 0x00000100 ∧ State.reset.readWord 0x1BA = 0x00000100 ∧
    State.reset.readWord 0x1C0 = 0x00000001 := by decide

theorem reset_rulesOk : State.reset.RulesOk := by
  intro r
  constructor <;> revert r <;> decide

theorem reset_wordsOk : State.reset.WordsOk := by
  constructor <;> decide

theorem reset_frameOk : State.reset.FrameOk := ⟨fun _ _ _ h => Frame.noConfusion h, fun _ => rfl, fun _ => rfl⟩

/-- Settles O3. -/
theorem resetPutsEveryBlockAtItsValue : Obligations.ResetPutsEveryBlockAtItsValue := by
  obtain ⟨identification, limit, queues, timers, gate, alert, timebase⟩ := reset_readWord
  exact ⟨by decide, rfl, rfl, rfl, rfl, rfl, rfl, rfl, rfl, rfl, identification, limit, queues, timers, gate, alert, timebase,
    by decide, by decide, by decide, by decide, by decide, by decide, by decide, reset_rulesOk, by decide, by decide, by decide,
    by decide, by decide, by decide, by decide, reset_frameOk, reset_wordsOk⟩

end Sys2Proof.Machine
end

section
/-! A request that waits (R50, R52, R55): it goes on from its taking as a request presented at that moment. -/

namespace Sys2Proof.Machine

namespace State

/-! ### The end of a drain does not look at the path -/

/-- The state with another path. -/
def withPath (p : Path) (s : State) : State := { s with path := p }

variable (s : State) (p : Path)

theorem offer_withPath (n : Fin 4) (b : RecordBody) : (s.withPath p).offer n b = (s.offer n b).withPath p := by
  have placed : ((s.withPath p).placeIn n b).1 = (s.placeIn n b).1.withPath p := by
    have reception : ((s.withPath p).queue n).reception = (s.queue n).reception := rfl
    unfold placeIn placeAt
    rw [reception]
    split <;> rfl
  have judged : ∀ (u : State) (k : Nat), (u.withPath p).judgeNotify n k = (u.judgeNotify n k).withPath p := fun u k => by
    have same : (u.withPath p).queue n = u.queue n := rfl
    unfold judgeNotify
    rw [same]
    dsimp only
    split <;> rfl
  unfold offer
  rw [placed, judged]
  rfl

theorem offerTo_withPath (q : Option (Fin 4)) (b : RecordBody) : (s.withPath p).offerTo q b = (s.offerTo q b).withPath p := by
  cases q with
  | none => rfl
  | some n => exact offer_withPath s p n b

theorem gateLeaveClosed_withPath : (s.withPath p).gateLeaveClosed = s.gateLeaveClosed.withPath p := by
  have gate : (s.withPath p).gate = s.gate := rfl
  unfold gateLeaveClosed
  rw [gate]
  split
  · split
    · rfl
    · exact offerTo_withPath { s with gate := { s.gate with state := .opened, powerSeen := false, holdOff := 0, tickOwed := false } } p
        s.gate.recordQueue (.gateOpened s.gate.refused)
  · rfl

theorem gateEndDrain_withPath : (s.withPath p).gateEndDrain = s.gateEndDrain.withPath p := by
  have gate : (s.withPath p).gate = s.gate := rfl
  let u : State := { s with gate := { s.gate with state := .closed, refused := 0 } }
  have entered : (s.withPath p).gateEnterClosed = s.gateEnterClosed.withPath p :=
    offerTo_withPath (u.setFlag .gate) p s.gate.recordQueue (closedRecord s.gate)
  unfold gateEndDrain
  rw [gate, entered, gateLeaveClosed_withPath]
  split <;> rfl

/-! ### What a taken transaction keeps of the path -/

theorem carryOut_number_held (t : Txn) (v : Verdict) :
    (s.carryOut t v).path.number = s.path.number ∧ (s.carryOut t v).path.held = s.path.held := by
  cases v with
  | forward =>
    unfold carryOut
    dsimp only
    split <;> exact ⟨rfl, rfl⟩
  | ended o a => exact ⟨rfl, rfl⟩

theorem decideAndCarryOut_number_held (t : Txn) (before : Option Word) (sub : Bool) :
    (s.decideAndCarryOut t before sub).1.path.number = s.path.number ∧ (s.decideAndCarryOut t before sub).1.path.held = s.path.held := by
  obtain ⟨number, held⟩ := carryOut_number_held (s.decision t before sub).state t (s.decision t before sub).verdict
  rw [(decision_momentFrame t before sub s).path] at number held
  exact ⟨number, held⟩

theorem startTxn_number_held (t : Txn) :
    (s.startTxn t).1.path.number = s.path.number ∧ (s.startTxn t).1.path.held = s.path.held := by
  unfold startTxn
  split
  · exact ⟨rfl, rfl⟩
  · split
    · split
      · exact decideAndCarryOut_number_held s t none true
      · exact ⟨rfl, rfl⟩
    · exact decideAndCarryOut_number_held s t none false

/-- A taking does not look at what the path holds or has answered. -/
theorem take_withPath (r : Request) : (s.withPath { s.path with held := none, answer := none }).take r = s.take r := by
  have path : s.gateEndDrain.path = s.path := (gateEndDrain_frame s).path
  rw [take_eq, take_eq, gateEndDrain_withPath]
  simp only [numbered, withPath, path]

end State

theorem exec_upstreamRequest_waits {s : State} {r : Request} (hr : r.wf = true) (hh : s.path.held = none)
    (h : s.canTake = false) :
    exec (.upstreamRequest r) s = .next { s with path := { s.path with held := some r, answer := none } } := by
  have waits : ({ s with path := { s.path with answer := none } } : State).canTake = false := h
  rw [exec_upstreamRequest hr hh]
  unfold State.present
  dsimp only
  rw [if_neg (Bool.eq_false_iff.mp waits), State.thenChanges_undecided_of_alert (by rfl)]

/-- Settles O4. -/
theorem requestWaitsUnderAHoldAndIsTakenWhenNoneIsLeft : Obligations.RequestWaitsUnderAHoldAndIsTakenWhenNoneIsLeft := by
  refine ⟨fun s r hr hh hold => ?_, fun s => rfl, fun s r hr hh hn => ?_⟩
  · exact exec_upstreamRequest_waits hr hh (State.canTake_of_hold hold)
  · obtain ⟨number, held⟩ := State.startTxn_number_held s.gateEndDrain.numbered (captureRequest (s.gateEndDrain.path.number + 1) r)
    have path : (s.thenChanges (s.take r)).path = (s.take r).1.path := State.thenChanges_path s _
    refine ⟨s.thenChanges (s.take r), ?_, ?_, ?_, ?_⟩
    · rw [exec_heldRequestTaken, State.takeHeld_taken hh hn.canTake]
    · rw [path, State.take_eq, held]
    · rw [path, State.take_eq, number]
      exact congrArg (fun p : Path => p.number + 1) (State.gateEndDrain_frame s).path
    · have free : ({ s with path := { s.path with held := none } } : State).NoHold := hn
      rw [exec_upstreamRequest_taken (s := { s with path := { s.path with held := none } }) hr rfl free, ← State.take_withPath s r]
      rfl

end Sys2Proof.Machine
end

section
/-! Tick periods (R104): over any run of periods the lengths and the accumulator balance, and the input word with the sampler (R135,
R136, R138). -/

namespace Sys2Proof.Machine

namespace Timebase

/-- The length of the tick period in progress, in REFCLK periods. -/
def length (b : Timebase) : Nat :=
  match b.period with
  | .running l => l
  | _ => 0

@[simp] theorem beginPeriod_config (b : Timebase) : b.beginPeriod.config = b.config := rfl

theorem iterate_beginPeriod_config (b : Timebase) (m : Nat) : (beginPeriod^[m] b).config = b.config := by
  induction m with
  | zero => rfl
  | succ m ih => rw [Function.iterate_succ_apply', beginPeriod_config, ih]

/-- The addition of K: what the accumulator loses by its carry, the period is longer by. -/
theorem beginPeriod_balance (b : Timebase) : 16 * b.beginPeriod.length + b.beginPeriod.accumulator.toNat =
    16 * (fld b.config 0 9).toNat + b.accumulator.toNat + (fld b.config 12 4).toNat := by
  have acc := b.accumulator.isLt
  have k := (kOf b.config).isLt
  change 16 * b.beginPeriod.length + _ = 16 * nOf b.config + _ + (kOf b.config).toNat
  simp only [beginPeriod, length, BitVec.toNat_ofNat]
  split <;> omega

/-- Over `m` periods in a row. -/
theorem lengths_balance (b : Timebase) (m : Nat) :
    16 * ((List.range m).map fun i => (beginPeriod^[i + 1] b).length).sum + (beginPeriod^[m] b).accumulator.toNat =
      m * (16 * (fld b.config 0 9).toNat) + b.accumulator.toNat + m * (fld b.config 12 4).toNat := by
  induction m with
  | zero => simp
  | succ m ih =>
    have next : 16 * (beginPeriod^[m + 1] b).length + (beginPeriod^[m + 1] b).accumulator.toNat =
        16 * (fld b.config 0 9).toNat + (beginPeriod^[m] b).accumulator.toNat + (fld b.config 12 4).toNat := by
      rw [Function.iterate_succ_apply', beginPeriod_balance, iterate_beginPeriod_config]
    rw [List.range_succ, List.map_append, List.sum_append, List.map_singleton, List.sum_singleton, Nat.add_mul, Nat.add_mul]
    omega

end Timebase

/-- Settles O33. -/
theorem sixteenPeriodsLastSixteenNPlusK : Obligations.SixteenPeriodsLastSixteenNPlusK := by
  intro b
  have balance := Timebase.lengths_balance b 16
  have before := b.accumulator.isLt
  have after := (Timebase.beginPeriod^[16] b).accumulator.isLt
  have back : (Timebase.beginPeriod^[16] b).accumulator.toNat = b.accumulator.toNat := by omega
  have sum : ((List.range 16).map fun i => (Timebase.beginPeriod^[i + 1] b).length).sum =
      16 * (fld b.config 0 9).toNat + (fld b.config 12 4).toNat := by omega
  exact ⟨sum, BitVec.eq_of_toNat_eq back⟩

/-! ### The word of an input (R135, R136) -/

theorem inputConfigWrite_active {s : State} {e : Fin 2} {v : Word} (h : (s.input e).enabled = true) (hv : wbit v 0 = true) :
    inputConfigWrite e v s = (.active, s) := if_pos (by simp [h, hv])

theorem inputConfigWrite_bad {s : State} {e : Fin 2} {v : Word} (h : (s.input e).enabled = false ∨ wbit v 0 = false)
    (hv : ¬ EventInput.configOk v = true) : inputConfigWrite e v s = (.invalid, s) := by
  unfold inputConfigWrite
  dsimp only
  rw [if_neg (by obtain h | h := h <;> simp [h]), if_pos (by simp [hv])]

theorem inputConfigWrite_off {s : State} {e : Fin 2} {v : Word} (h : wbit v 0 = false) (hv : EventInput.configOk v = true) :
    inputConfigWrite e v s = (.accepted, s.setInput e { s.input e with config := v &&& EventInput.configMask, sampler := none }) := by
  simp [inputConfigWrite, h, hv]

theorem inputConfigWrite_on {s : State} {e : Fin 2} {v : Word} (hi : (s.input e).enabled = false) (h : wbit v 0 = true)
    (hv : EventInput.configOk v = true) : inputConfigWrite e v s = (.accepted, s.setInput e { s.input e with
      config := v &&& EventInput.configMask, sampler := some (.seed (s.evPin e)) }) := by
  simp [inputConfigWrite, hi, h, hv]

/-! ### The sampler (R138) -/

theorem majority_eq (a b c : Bool) : majority a b c = decide (2 ≤ a.toNat + b.toNat + c.toNat) := by
  cases a <;> cases b <;> cases c <;> rfl

end Sys2Proof.Machine
end

section
/-! What an event and a tick leave of an input that is not theirs (R105, R137 to R141): relations that need hold only across the changes
at the inputs concerned. -/

namespace Sys2Proof.Machine.State

/-! ### What an event hands out -/

/-- `R` holds across each thing that an event, at one of the inputs `E`, and what it reaches hand out. -/
structure HandOutClosed (E : Fin 2 → Prop) (R : State → State → Prop) : Prop where
  refl : ∀ s, R s s
  trans : ∀ {s t u}, R s t → R t u → R s u
  draw : ∀ s : State, R s { s with draw := s.draw + 1 }
  flag : ∀ (s : State) (g : Flag), (∀ e, g = .input e → E e) → R s (s.setFlag g)
  place : ∀ (s : State) (n : Fin 4) (b : RecordBody), (∀ a, b ≠ .access a) → (∀ e c l, b = .inputEvent e c l → E e) →
    R s (s.placeIn n b).1
  arm : ∀ (s : State) (src : ArmSource), R s (s.armFrom src)
  disarm : ∀ (s : State) (src : DisarmSource), R s (s.disarmFrom src)
  timer : ∀ (s : State) (t : Fin 8) (x : Timer), R s (s.setTimer t x)
  stamped : ∀ (s : State) (e : Fin 2), E e → R s (s.setInput e { s.input e with lastEvent := s.timebase.timestamp })

namespace HandOutClosed

variable {E : Fin 2 → Prop} {R : State → State → Prop} (h : HandOutClosed E R)
include h

theorem judgeNotify (s : State) (n : Fin 4) (k : Nat) : R s (s.judgeNotify n k) := by
  unfold State.judgeNotify
  dsimp only
  split
  · exact h.flag _ (.qn n) nofun
  · exact h.refl _

theorem offerTo (s : State) (q : Option (Fin 4)) (b : RecordBody) (ha : ∀ a, b ≠ .access a)
    (he : ∀ e c l, b = .inputEvent e c l → E e) : R s (s.offerTo q b) := by
  cases q with
  | none => exact h.refl s
  | some n => exact h.trans (h.place s n b ha he) (h.judgeNotify _ n _)

theorem triggerTimer (s : State) (t : Fin 8) : R s (s.triggerTimer t) :=
  h.trans (h.timer s t _) (h.offerTo _ _ (.timerInterval t (s.timer t).counter) nofun nofun)

theorem applyEventPart {k : EventMeetings} (hk : ∀ m s, R s (k.take m s)) {e : Fin 2} (hE : E e) (p : EventPart) (s : State) :
    R s (s.applyEventPart k e p) := by
  cases p with
  | record c l =>
    refine h.trans (h.stamped s e hE) (h.offerTo _ _ (.inputEvent e c l) nofun fun x c' l' hb => ?_)
    rw [RecordBody.inputEvent.injEq] at hb
    exact hb.1 ▸ hE
  | trigger t => exact h.triggerTimer s t
  | meet m => exact hk m s

/-- The event from its flag on. -/
theorem effectiveEvent {k : EventMeetings} (hk : ∀ m s, R s (k.take m s)) {e : Fin 2} (hE : E e) (s : State) :
    R s (s.effectiveEvent k e) := by
  unfold State.effectiveEvent
  refine h.trans (h.trans ?_ (race_frame h.refl h.trans h.draw (fun p s => h.applyEventPart hk hE p s) _ _))
    (h.trans (h.arm _ _) (h.disarm _ _))
  refine h.trans (h.trans (h.stamped s e hE) (h.flag _ (.input e) fun x hx => ?_))
    (foldl_frame h.refl h.trans (fun s t => h.triggerTimer s t) _ _)
  rw [Flag.input.injEq] at hx
  exact hx ▸ hE

end HandOutClosed

/-! ### What a tick hands out -/

/-- `R` holds across each thing that a tick at which only the inputs `E` sample hands out. -/
structure EventClosedOn (E : Fin 2 → Prop) (R : State → State → Prop) : Prop extends HandOutClosed E R where
  windows : ∀ (s : State) (t : Fin 8), R s (s.resetWindowsOf t)
  gate : ∀ (s : State) (g : Gate), R s { s with gate := g }
  alert : ∀ (s : State) (a : Alert), a.flags = s.alert.flags → R s { s with alert := a }
  sampled : ∀ (s : State) (e : Fin 2) (m : Sampler), E e → R s (s.setInput e { s.input e with sampler := some m })
  counted : ∀ (s : State) (e : Fin 2), E e → R s (s.setInput e { s.input e with count := satInc (s.input e).count })

namespace EventClosedOn

variable {E : Fin 2 → Prop} {R : State → State → Prop} (h : EventClosedOn E R)
include h

theorem endCommand (s t : State) : R t (s.endCommand t) := h.alert t _ (Alert.commandEnds_flags _ _)

theorem inTickOrder {f : State → State} (hf : ∀ s, R s (f s)) (s : State) : R s (s.inTickOrder f) := by
  obtain ⟨p, hp⟩ := inTickOrder_eq f s
  have placed : R s { s with draw := s.draw + 1, alert := { s.alert with lastTick := p } } :=
    h.trans (h.draw s) (h.alert { s with draw := s.draw + 1 } { s.alert with lastTick := p } rfl)
  rw [hp]
  exact h.trans (h.trans placed (hf _)) (h.endCommand s _)

theorem expire (t : Fin 8) (s : State) : R s (s.expire t) := by
  have channel : R s ((s.setTimer t (s.timer t).expired).setFlag (.timer t)) := h.trans (h.timer s t _) (h.flag _ _ nofun)
  have placed := h.trans channel (h.offerTo _ (s.timer t).recordQueue (.timerExpiry t (s.timer t).mode) nofun nofun)
  exact h.trans (h.trans (h.trans placed (h.arm _ _)) (h.disarm _ _)) (h.windows _ t)

theorem gateEnterOpen (s : State) : R s s.gateEnterOpen :=
  h.trans (h.gate s _) (h.offerTo _ _ (.gateOpened s.gate.refused) nofun nofun)

theorem takeOwed (p : OwedPart) (s : State) : R s (s.takeOwed p) := by
  cases p with
  | timer t =>
    dsimp only [State.takeOwed]
    split
    · exact h.expire t s
    · exact h.refl s
  | gate =>
    dsimp only [State.takeOwed]
    split
    · exact h.gateEnterOpen s
    · exact h.refl s
  | alert =>
    dsimp only [State.takeOwed]
    split
    · exact h.alert s _ rfl
    · exact h.refl s

theorem settleOwed (s : State) : R s s.settleOwed := by
  unfold State.settleOwed
  split
  · exact h.refl s
  · exact h.trans (h.trans (race_frame h.refl h.trans h.draw (fun p s => h.inTickOrder (h.takeOwed p) s) _ _) (h.takeOwed _ _))
      (h.endCommand _ _)

theorem moveSampler {e : Fin 2} (hE : E e) (m m' : Sampler) (s : State) : R s (s.moveSampler .none e m m') := by
  have event : ∀ u : State, R u (u.inputEvent .none e) := fun u => by
    unfold State.inputEvent
    dsimp only
    split
    · exact h.trans (h.counted u e hE) (h.effectiveEvent (fun _ s => h.refl s) hE _)
    · exact h.counted u e hE
  unfold State.moveSampler
  dsimp only
  split
  · exact h.trans (h.sampled s e m' hE) (event _)
  · exact h.sampled s e m' hE

theorem sampleInput {e : Fin 2} (hE : E e) (s : State) : R s (s.sampleInput e) := by
  unfold State.sampleInput
  split
  · exact h.moveSampler hE _ _ s
  · exact h.refl s

theorem applyTickPart (b : Bool) {p : TickPart} (hp : ∀ x, p = .sample x → E x) (s : State) : R s (s.applyTickPart b p) := by
  cases p with
  | sample e => exact h.sampleInput (hp e rfl) s
  | timer t =>
    unfold State.applyTickPart
    dsimp only
    split
    · exact h.trans (h.timer s t _) (h.takeOwed _ _)
    · exact h.timer s t _
  | gate =>
    unfold State.applyTickPart
    dsimp only
    split
    · exact h.trans (h.gate s _) (h.takeOwed _ _)
    · exact h.gate s _
  | alert =>
    have ticked : R s (if tapTicks s.alert.pulseTap s.timebase.tapCount then { s with alert := s.alert.takeTick } else s) := by
      split
      · exact h.alert s _ (Alert.takeTick_flags _)
      · exact h.refl s
    unfold State.applyTickPart
    dsimp only
    split
    · exact h.trans ticked (h.trans (h.takeOwed .alert _) (h.alert _ _ rfl))
    · exact ticked

theorem takeTickParts (l : List TickPart) (hl : ∀ x, .sample x ∈ l → E x) (s : State) : R s (takeTickParts l s) := by
  induction l generalizing s with
  | nil => exact h.refl s
  | cons p ps ih =>
    exact h.trans (h.applyTickPart _ (fun x hx => hl x (hx ▸ List.mem_cons_self)) s)
      (ih (fun x hx => hl x (List.mem_cons_of_mem p hx)) _)

end EventClosedOn

theorem sample_mem_tickParts {s : State} {x : Fin 2} : TickPart.sample x ∈ s.tickParts ↔ x ∈ s.sampling := by
  unfold tickParts
  simp only [List.mem_append, List.mem_map]
  constructor
  · rintro (((⟨y, hy, e⟩ | ⟨y, hy, e⟩) | h) | h)
    · rw [TickPart.sample.injEq] at e
      exact e ▸ hy
    · exact absurd e nofun
    · split at h
      · exact absurd (List.mem_singleton.mp h) nofun
      · exact absurd h List.not_mem_nil
    · split at h
      · exact absurd (List.mem_singleton.mp h) nofun
      · exact absurd h List.not_mem_nil
  · exact fun h => .inl (.inl (.inl ⟨x, h, rfl⟩))

theorem EventClosedOn.handOutTick {E : Fin 2 → Prop} {R : State → State → Prop} (h : EventClosedOn E R) (s : State)
    (hE : ∀ x ∈ s.sampling, E x) : R s s.handOutTick := by
  have mine : ∀ x, TickPart.sample x ∈ s.tickParts → E x := fun x hx => hE x (sample_mem_tickParts.mp hx)
  unfold State.handOutTick
  split
  · exact h.takeTickParts _ mine s
  · exact h.trans (h.draw s) (h.takeTickParts _ (fun x hx => mine x ((mem_orderParts _ _ _ _).mp hx)) _)

/-! ### An input and its own event -/

/-- `t` is `s` but for the last-event timestamp of input `e`, as far as the inputs and the timebase see it. -/
def StampedAt (e : Fin 2) (s t : State) : Prop :=
  t.timebase = s.timebase ∧ (∀ x, x ≠ e → t.input x = s.input x) ∧
    (t.input e = s.input e ∨ t.input e = { s.input e with lastEvent := s.timebase.timestamp })

theorem StampedAt.of_same (e : Fin 2) {s t : State} (hb : t.timebase = s.timebase) (hi : t.inputs = s.inputs) : StampedAt e s t :=
  ⟨hb, fun x _ => input_congr hi x, .inl (input_congr hi e)⟩

theorem StampedAt.of_records (e : Fin 2) {s t : State} (h : RecordFrame s t) : StampedAt e s t := .of_same e h.timebase h.inputs

theorem StampedAt.stamp (e : Fin 2) (s : State) :
    StampedAt e s (s.setInput e { s.input e with lastEvent := s.timebase.timestamp }) :=
  ⟨rfl, fun x hx => by rw [input_setInput, if_neg (Ne.symm hx)], .inr (by rw [input_setInput, if_pos rfl])⟩

theorem StampedAt.trans {e : Fin 2} {s t u : State} (h : StampedAt e s t) (h' : StampedAt e t u) : StampedAt e s u := by
  obtain ⟨hb, ho, hi⟩ := h
  obtain ⟨hb', ho', hi'⟩ := h'
  refine ⟨hb'.trans hb, fun x hx => (ho' x hx).trans (ho x hx), ?_⟩
  rw [hb] at hi'
  obtain hi | hi := hi <;> obtain hi' | hi' := hi' <;> rw [hi] at hi'
  · exact .inl hi'
  · exact .inr hi'
  · exact .inr hi'
  · exact .inr hi'

/-- An event stamps its own input and leaves the other. -/
theorem handOutClosed_stampedAt (e : Fin 2) : HandOutClosed (· = e) (StampedAt e) where
  refl _ := .of_same e rfl rfl
  trans := StampedAt.trans
  draw _ := .of_same e rfl rfl
  flag s g _ := .of_records e (setFlag_frame s g)
  place s n b _ _ := .of_records e (placeAt_frame s _ n b)
  arm s _ := .of_same e (mapRules_timebase s _) (mapRules_inputs s _)
  disarm s _ := .of_same e (mapRules_timebase s _) (mapRules_inputs s _)
  timer _ _ _ := .of_same e rfl rfl
  stamped s x hx := hx ▸ StampedAt.stamp x s

/-- The event's stamp is taken when it begins. -/
theorem effectiveEvent_input (e : Fin 2) (s : State) :
    (s.effectiveEvent .none e).input e = { s.input e with lastEvent := s.timebase.timestamp } ∧
      ∀ x, x ≠ e → (s.effectiveEvent .none e).input x = s.input x := by
  let u := s.setInput e { s.input e with lastEvent := s.timebase.timestamp }
  have own : u.input e = { s.input e with lastEvent := s.timebase.timestamp } := by rw [input_setInput, if_pos rfl]
  have rest : StampedAt e u (s.effectiveEvent .none e) := by
    have h := handOutClosed_stampedAt e
    unfold State.effectiveEvent
    refine h.trans (h.trans ?_ (race_frame h.refl h.trans h.draw
      (fun p s => h.applyEventPart (fun _ s => h.refl s) rfl p s) _ _)) (h.trans (h.arm _ _) (h.disarm _ _))
    exact h.trans (h.flag _ (.input e) fun x hx => (Flag.input.inj hx).symm)
      (foldl_frame h.refl h.trans (fun s t => h.triggerTimer s t) _ _)
  obtain ⟨-, others, hi⟩ := rest
  refine ⟨?_, fun x hx => ?_⟩
  · obtain hi | hi := hi
    · rw [hi, own]
    · rw [hi, own]
      rfl
  · rw [others x hx, input_setInput, if_neg (Ne.symm hx)]

end Sys2Proof.Machine.State
end

section
/-! Event inputs (R135 to R142): a move of the sampler by its three cases, and what an effective event leaves of the inputs, the channels,
the rules and the flags. -/

namespace Sys2Proof.Machine.State

variable {s : State} {e : Fin 2}

theorem setInput_setInput (s : State) (e : Fin 2) (x y : EventInput) : (s.setInput e x).setInput e y = s.setInput e y := by
  simp [setInput, Vector.set_set]

/-! ### A move of the sampler (R137 to R140) -/

/-- The move is an event: the seen level changes to the active one. -/
def IsEvent (i : EventInput) (before after : Sampler) : Prop := before.seen ≠ after.seen ∧ after.seen = i.activeLevel

theorem moveSampler_still {m m' : Sampler} (h : ¬ IsEvent (s.input e) m m') (k : EventMeetings) :
    s.moveSampler k e m m' = s.setInput e { s.input e with sampler := some m' } := by
  unfold moveSampler
  dsimp only
  rw [input_setInput, if_pos rfl]
  exact if_neg h

theorem moveSampler_event {m m' : Sampler} (h : IsEvent (s.input e) m m') (k : EventMeetings) :
    s.moveSampler k e m m' =
      let u := s.setInput e { s.input e with sampler := some m', count := satInc (s.input e).count }
      if (s.input e).effectiveWith (s.alert.flagSet (.input e)) then u.effectiveEvent k e else u := by
  have own : (s.setInput e { s.input e with sampler := some m' }).input e = { s.input e with sampler := some m' } := by
    rw [input_setInput, if_pos rfl]
  unfold moveSampler
  dsimp only
  rw [own]
  refine (if_pos h).trans ?_
  unfold inputEvent
  dsimp only
  rw [own, setInput_setInput]
  rfl

/-- An event that finds its flag set in hold mode FIRST is counted and no more (R140). -/
theorem moveSampler_held {m m' : Sampler} (h : IsEvent (s.input e) m m') (hf : wbit (s.input e).config 5 = true)
    (hs : s.alert.flagSet (.input e) = true) (k : EventMeetings) : s.moveSampler k e m m' =
      s.setInput e { s.input e with sampler := some m', count := satInc (s.input e).count } := by
  have first : (s.input e).holdFirst = true := hf
  rw [moveSampler_event h]
  exact if_neg (by simp [EventInput.effectiveWith, hs, first])

theorem moveSampler_effective {m m' : Sampler} (h : IsEvent (s.input e) m m')
    (hf : wbit (s.input e).config 5 = false ∨ s.alert.flagSet (.input e) = false) (k : EventMeetings) : s.moveSampler k e m m' =
      (s.setInput e { s.input e with sampler := some m', count := satInc (s.input e).count }).effectiveEvent k e := by
  rw [moveSampler_event h]
  refine if_pos ?_
  obtain hf | hf := hf
  · have every : (s.input e).holdFirst = false := hf
    simp [EventInput.effectiveWith, every]
  · simp [EventInput.effectiveWith, hf]

/-! ### An effective event with nothing named among its parts (R141) -/

/-- What falls nowhere is never taken. -/
theorem effectiveEvent_quiet {k : EventMeetings} (hk : k.inside = []) (e : Fin 2) (s : State) :
    s.effectiveEvent k e = s.effectiveEvent .none e := by
  have parts : ∀ ts, s.eventParts k e ts = s.eventParts .none e ts := fun ts => by
    unfold eventParts
    rw [hk]
    rfl
  have no_meeting : ∀ ts, ∀ p ∈ s.eventParts .none e ts, ∀ u : State, u.applyEventPart k e p = u.applyEventPart .none e p := by
    intro ts p hp u
    cases p with
    | record c l => rfl
    | trigger t => rfl
    | meet m => exact absurd hp (by simp [eventParts, EventMeetings.none])
  have same : ∀ (ts : List (Fin 8)) (u : State), race (s.eventParts k e ts) (applyEventPart k e) u =
      race (s.eventParts .none e ts) (applyEventPart .none e) u := fun ts u => by
    rw [parts, race, race, inOrder, inOrder]
    exact List.foldl_ext _ _ _ fun u p hp => no_meeting ts p ((mem_orderParts _ _ _ _).mp hp) u
  unfold effectiveEvent
  dsimp only
  rw [same, hk]
  rfl

/-- The channels that the input triggers. -/
def triggeredOf (e : Fin 2) (s : State) : List (Fin 8) := s.triggeredBy fun g => g == .input e.val

theorem mem_triggeredOf {c : Fin 8} : c ∈ s.triggeredOf e ↔ (s.timer c).trigger = .input e.val := by
  simp [triggeredOf, triggeredBy, allTimers]

/-- The event up to its notices. -/
def eventParted (e : Fin 2) (s : State) : State :=
  race (s.eventParts .none e (s.triggeredOf e)) (applyEventPart .none e)
    ((s.notOffering (s.triggeredOf e)).foldl (fun s t => s.triggerTimer t)
      ((s.setInput e { s.input e with lastEvent := s.timebase.timestamp }).setFlag (.input e)))

theorem effectiveEvent_eq (e : Fin 2) (s : State) :
    s.effectiveEvent .none e = ((s.eventParted e).armFrom (.input e.val)).disarmFrom (.input e.val) := rfl

theorem triggerTimer_rules (s : State) (t : Fin 8) : (s.triggerTimer t).rules = s.rules := (offerTo_frame _ _ _).rules

theorem applyEventPart_none_rules (e : Fin 2) (p : EventPart) (s : State) : (s.applyEventPart .none e p).rules = s.rules := by
  cases p with
  | record c l => exact (offerTo_frame _ _ _).rules
  | trigger t => exact triggerTimer_rules s t
  | meet m => rfl

theorem eventParted_rules (e : Fin 2) (s : State) : (s.eventParted e).rules = s.rules := by
  let R : State → State → Prop := fun s t => t.rules = s.rules
  have trans : ∀ {s t u : State}, R s t → R t u → R s u := fun h h' => Eq.trans h' h
  have quiet := foldl_frame (R := R) (fun _ => rfl) trans triggerTimer_rules (s.notOffering (s.triggeredOf e))
    ((s.setInput e { s.input e with lastEvent := s.timebase.timestamp }).setFlag (.input e))
  exact trans quiet (race_frame (R := R) (fun _ => rfl) trans (fun _ => rfl) (applyEventPart_none_rules e) _ _)

/-- The event up to its notices keeps the flags that are set, and sets its own. -/
theorem eventParted_flagSet (e : Fin 2) (s : State) : (s.eventParted e).alert.flagSet (.input e) = true := by
  have h := effectClosed_flags
  have grown := h.trans (h.foldl (fun s t => h.triggerTimer s t) (s.notOffering (s.triggeredOf e))
      ((s.setInput e { s.input e with lastEvent := s.timebase.timestamp }).setFlag (.input e)))
    (h.race (fun p s => h.applyEventPart (k := .none) (fun _ s => h.refl s) e p s) (s.eventParts .none e (s.triggeredOf e)) _)
  exact grown _ (flagSet_setFlag_self _ _)

theorem effectiveEvent_flagSet (e : Fin 2) (s : State) : (s.effectiveEvent .none e).alert.flagSet (.input e) = true := by
  rw [effectiveEvent_eq]
  exact (congrArg (fun a : Alert => a.flagSet (.input e)) ((mapRules_alert _ _).trans (mapRules_alert _ _))).trans
    (eventParted_flagSet e s)

/-- R145, R146: the notices of the event. -/
theorem effectiveEvent_rule (e : Fin 2) (s : State) (r : Fin 24) : (s.effectiveEvent .none e).rule r =
    let x := s.rule r
    let y := if x.defn.armSource = .input e.val ∧ x.state ≠ .disabled then
      { x with state := .live, countdown := x.defn.countdownLoad } else x
    if x.defn.disarmSource = .input e.val ∧ y.state = .live then { y with state := .dormant } else y := by
  have armed := rule_armFrom_by_state (s.eventParted e) (.input e.val) r
  rw [rule_congr (eventParted_rules e s)] at armed
  have defn : (((s.eventParted e).armFrom (.input e.val)).rule r).defn = (s.rule r).defn := by
    rw [armed]
    split <;> rfl
  rw [effectiveEvent_eq, rule_disarmFrom_by_state, defn, armed]

/-! ### The channels that an event triggers (R115, R141) -/

theorem timer_foldl_trigger (l : List (Fin 8)) (hl : l.Nodup) (s : State) (c : Fin 8) :
    (l.foldl (fun s t => s.triggerTimer t) s).timer c = if c ∈ l then (s.timer c).triggered else s.timer c := by
  induction l generalizing s with
  | nil => rfl
  | cons t ts ih =>
    obtain ⟨ht, hts⟩ := List.nodup_cons.mp hl
    rw [List.foldl_cons, ih hts, timer_triggerTimer]
    by_cases hc : c = t
    · subst hc
      simp [ht]
    · simp [hc, Ne.symm hc]

theorem timer_applyEventPart (e : Fin 2) (p : EventPart) (s : State) (c : Fin 8) :
    (s.applyEventPart .none e p).timer c = if p = .trigger c then (s.timer c).triggered else s.timer c := by
  cases p with
  | record n l =>
    rw [if_neg nofun]
    exact timer_congr (offerTo_frame _ _ _).timers c
  | trigger t =>
    refine (timer_triggerTimer s t c).trans ?_
    by_cases h : t = c
    · rw [if_pos h, if_pos (congrArg _ h), h]
    · rw [if_neg h, if_neg fun h' => h (EventPart.trigger.inj h')]
  | meet m =>
    rw [if_neg nofun]
    rfl

theorem timer_foldl_parts (e : Fin 2) (l : List EventPart) (hl : l.Nodup) (s : State) (c : Fin 8) :
    (l.foldl (fun s p => s.applyEventPart .none e p) s).timer c =
      if .trigger c ∈ l then (s.timer c).triggered else s.timer c := by
  induction l generalizing s with
  | nil => rfl
  | cons p ps ih =>
    obtain ⟨hp, hps⟩ := List.nodup_cons.mp hl
    rw [List.foldl_cons, ih hps, timer_applyEventPart]
    by_cases hc : p = .trigger c
    · subst hc
      simp [hp]
    · simp [hc, Ne.symm hc]

theorem nodup_triggeredBy (s : State) (p : TriggerSource → Bool) : (s.triggeredBy p).Nodup := (List.nodup_finRange 8).filter _

theorem eventParts_none (s : State) (e : Fin 2) (ts : List (Fin 8)) : s.eventParts .none e ts =
    (if (s.input e).recordQueue.isSome then [.record (s.input e).count (s.input e).activeLevel] else []) ++
      (s.offering ts).map .trigger := by simp [eventParts, EventMeetings.none]

theorem nodup_eventParts_none (s : State) (e : Fin 2) {ts : List (Fin 8)} (h : ts.Nodup) : (s.eventParts .none e ts).Nodup := by
  have triggers : ((s.offering ts).map EventPart.trigger).Nodup := (h.filter _).map fun _ _ => EventPart.trigger.inj
  rw [eventParts_none]
  split
  · exact List.nodup_cons.mpr ⟨by simp, triggers⟩
  · exact triggers

theorem trigger_mem_eventParts_none {ts : List (Fin 8)} {c : Fin 8} :
    EventPart.trigger c ∈ s.eventParts .none e ts ↔ c ∈ ts ∧ (s.timer c).intervalQueue.isSome = true := by
  rw [eventParts_none, List.mem_append, List.mem_map]
  constructor
  · rintro (h | ⟨x, hx, hc⟩)
    · split at h
      · exact absurd (List.mem_singleton.mp h) nofun
      · exact absurd h List.not_mem_nil
    · rw [← EventPart.trigger.inj hc]
      exact List.mem_filter.mp hx
  · exact fun h => .inr ⟨c, List.mem_filter.mpr h, rfl⟩

/-- Each channel that names the input is triggered once; the others stay. -/
theorem effectiveEvent_timer (e : Fin 2) (s : State) (c : Fin 8) : (s.effectiveEvent .none e).timer c =
    if (s.timer c).trigger = .input e.val then (s.timer c).triggered else s.timer c := by
  have nodup : (s.triggeredOf e).Nodup := nodup_triggeredBy s _
  let u := (s.setInput e { s.input e with lastEvent := s.timebase.timestamp }).setFlag (.input e)
  have first := timer_foldl_trigger (s.notOffering (s.triggeredOf e)) (nodup.filter _) u c
  have parted : (s.eventParted e).timer c = if (s.timer c).trigger = .input e.val then (s.timer c).triggered else s.timer c := by
    have perm := orderParts_perm (Config.raceKey ((s.notOffering (s.triggeredOf e)).foldl (fun s t => s.triggerTimer t) u).draw) 0
      (s.eventParts .none e (s.triggeredOf e))
    refine (timer_foldl_parts e _ (perm.nodup_iff.mpr (nodup_eventParts_none s e nodup)) _ c).trans ?_
    rw [show ∀ d, (({ (s.notOffering (s.triggeredOf e)).foldl (fun s t => s.triggerTimer t) u with draw := d } : State).timer c) =
      ((s.notOffering (s.triggeredOf e)).foldl (fun s t => s.triggerTimer t) u).timer c from fun _ => rfl, first,
      show u.timer c = s.timer c from rfl]
    simp only [mem_orderParts, trigger_mem_eventParts_none, notOffering, List.mem_filter, mem_triggeredOf]
    by_cases ht : (s.timer c).trigger = .input e.val <;> by_cases hq : (s.timer c).intervalQueue.isSome = true <;> simp [ht, hq]
  rw [effectiveEvent_eq]
  exact (timer_congr ((mapRules_timers _ _).trans (mapRules_timers _ _)) c).trans parted

/-! ### The record of an event that triggers no channel (R141, R142) -/

theorem effectiveEvent_record {n : Fin 4} (hq : (s.input e).recordQueue = some n) (hc : ∀ c, (s.timer c).trigger ≠ .input e.val)
    (hon : (s.queue n).on = true) (hroom : (s.queue n).list.length < (s.queue n).depth) :
    ((s.effectiveEvent .none e).queue n).list = (s.queue n).list ++
      [⟨s.nextSerial, s.timebase.timestamp, .inputEvent e (s.input e).count (s.input e).activeLevel⟩] := by
  have none_triggered : s.triggeredOf e = [] := List.eq_nil_iff_forall_not_mem.mpr fun c h => hc c (mem_triggeredOf.mp h)
  let u := (s.setInput e { s.input e with lastEvent := s.timebase.timestamp }).setFlag (.input e)
  let v : State := { u with draw := u.draw + 1 }
  let w := v.setInput e { v.input e with lastEvent := v.timebase.timestamp }
  have input : v.input e = { s.input e with lastEvent := s.timebase.timestamp } := (input_setInput s e e _).trans (if_pos rfl)
  have parts : s.eventParts .none e [] = [.record (s.input e).count (s.input e).activeLevel] := by
    simp [eventParts, EventMeetings.none, hq, offering]
  have parted : s.eventParted e = w.offerTo (v.input e).recordQueue (.inputEvent e (s.input e).count (s.input e).activeLevel) := by
    rw [eventParted, none_triggered, parts, race_single]
    rfl
  have placed := (offerTo_offered w (v.input e).recordQueue (.inputEvent e (s.input e).count (s.input e).activeLevel)).list
    ((congrArg EventInput.recordQueue input).trans hq) hon hroom
  rw [effectiveEvent_eq]
  refine (congrArg Queue.list (queue_congr ((mapRules_queues _ _).trans (mapRules_queues _ _)) n)).trans ?_
  rw [parted]
  exact placed

theorem effectiveEvent_frame (e : Fin 2) (s : State) : EventFrame s (s.effectiveEvent .none e) :=
  effectiveEvent_keeps .refl .trans id (fun _ s => .refl s) e s

end Sys2Proof.Machine.State

namespace Sys2Proof.Machine

/-! ### The sampler of a filtered input (R138) -/

theorem State.moveSampler_sampler (s : State) (e : Fin 2) (m m' : Sampler) :
    ((s.moveSampler .none e m m').input e).sampler = some m' := by
  have set : ∀ i : EventInput, i.sampler = some m' → ((s.setInput e i).input e).sampler = some m' := fun i hi => by
    rw [State.input_setInput, if_pos rfl, hi]
  by_cases h : State.IsEvent (s.input e) m m'
  · rw [State.moveSampler_event h]
    dsimp only
    split
    · rw [(State.effectiveEvent_input e _).1]
      exact set _ rfl
    · exact set _ rfl
  · rw [State.moveSampler_still h]
    exact set _ rfl

/-- Settles O39. -/
theorem inputWordAndSampler : Obligations.InputWordAndSampler := by
  refine ⟨fun s e v left hw ho => ⟨fun hi hv => ?_, fun hi hbad => ?_, fun hv hok => ?_, fun hi hv hok => ?_⟩,
    fun s e seen a b c hm => ?_⟩
  · exact word_answered ho (by simp) hw (inputConfigWrite_active (s := s.setFrame _) hi hv)
  · exact word_answered ho (by simp) hw (inputConfigWrite_bad (s := s.setFrame _) hi fun h => hbad ((EventInput.configOk_iff v).mp h))
  · exact word_answered ho (by simp) hw (inputConfigWrite_off (s := s.setFrame _) hv ((EventInput.configOk_iff v).mpr hok))
  · exact word_answered ho (by simp) hw (inputConfigWrite_on (s := s.setFrame _) hi hv ((EventInput.configOk_iff v).mpr hok))
  · simp only [State.sampleInput, hm]
    rw [State.moveSampler_sampler, Sampler.take, majority_eq]
    congr 2

end Sys2Proof.Machine
end

section
/-! A change of the pin of an input (R136, R137, R139 to R142), met by nothing or by a tick among the parts of its event (R106). -/

namespace Sys2Proof.Machine

theorem Timebase.tick_running (b : Timebase) : b.tick.running = b.running := by
  unfold tick firstBegun
  split <;> rfl

theorem Timebase.tick_timestamp (b : Timebase) : b.tick.timestamp = b.timestamp + 1 := rfl

namespace State

/-! ### A tick among the parts of an event (R106, R142) -/

/-- Where an event of input `e` stands between its parts, when a tick is named to fall among them: whether its record has been offered
and whether the tick has been taken. `i` is the input as the event began, `w` the timestamp then, `L` the lists and `p` the pins. -/
structure EventMet (e : Fin 2) (i : EventInput) (w : Word) (L : Fin 4 → List Record) (p : Pins) (offered ticked : Bool) (s : State) :
    Prop where
  powered : s.powered = true
  running : s.timebase.running = true
  stamp : s.timebase.timestamp = if ticked then w + 1 else w
  pins : s.pins = p
  flag : s.alert.flagSet (.input e) = true
  input : s.input e = { i with lastEvent := (s.input e).lastEvent }
  last : (s.input e).lastEvent = w ∨ (s.input e).lastEvent = w + 1
  records : ∀ n, ∀ r ∈ (s.queue n).list, r ∈ L n ∨ ((r.timestamp = w ∨ r.timestamp = w + 1) ∧
    (r.body = .inputEvent e i.count i.activeLevel → offered = true ∧ r.timestamp = (s.input e).lastEvent))

namespace EventMet

variable {e : Fin 2} {i : EventInput} {w : Word} {L : Fin 4 → List Record} {p : Pins} {offered ticked : Bool}

/-- The counter stands at one of the two values. -/
theorem at_stamp {s : State} (h : EventMet e i w L p offered ticked s) : s.timebase.timestamp = w ∨ s.timebase.timestamp = w + 1 := by
  rw [h.stamp]
  cases ticked with
  | false => exact .inl rfl
  | true => exact .inr rfl

theorem of_same {s t : State} (hpow : t.powered = s.powered) (hb : t.timebase = s.timebase) (hp : t.pins = s.pins)
    (ha : s.alert.flagSet (.input e) = true → t.alert.flagSet (.input e) = true) (hi : t.input e = s.input e)
    (hq : t.queues = s.queues) : Keeps (EventMet e i w L p offered ticked) s t := fun h => by
  obtain ⟨powered, running, stamp, pins, flag, input, last, records⟩ := h
  refine ⟨hpow.trans powered, by rw [hb]; exact running, by rw [hb]; exact stamp, hp.trans pins, ha flag, ?_, by rw [hi]; exact last,
    fun n r hr => ?_⟩
  · rw [hi]
    exact input
  · rw [queue_congr hq] at hr
    rw [hi]
    exact records n r hr

/-- A placement of another record than the event's own. -/
theorem placed {s : State} {n : Fin 4} {b : RecordBody} (ha : ∀ a, b ≠ .access a) (hb : b ≠ .inputEvent e i.count i.activeLevel) :
    Keeps (EventMet e i w L p offered ticked) s (s.placeIn n b).1 := fun h => by
  have frame := placeAt_frame s s.timebase.timestamp n b
  have input : (s.placeIn n b).1.input e = s.input e := input_congr frame.inputs e
  refine ⟨frame.powered.trans h.powered, by rw [placeIn, frame.timebase]; exact h.running, by rw [placeIn, frame.timebase]; exact h.stamp,
    frame.pins.trans h.pins, ?_, by rw [input]; exact h.input, by rw [input]; exact h.last, fun m r hr => ?_⟩
  · exact effectClosed_flags.place s n b ha _ h.flag
  · rw [input]
    obtain hr | hr := mem_placeAt hr
    · exact h.records m r hr
    · rw [hr]
      exact .inr ⟨h.at_stamp, fun hown => absurd hown hb⟩

/-- Everything but the parts of the event itself leaves the event where it stands. -/
theorem closed : EventClosedOn (· ≠ e) (Keeps (EventMet e i w L p offered ticked)) where
  refl _ := id
  trans h h' := h' ∘ h
  draw _ := of_same rfl rfl rfl id rfl rfl
  flag s g _ := of_same rfl rfl rfl (FlagsGrow.flag s g _) rfl rfl
  place s n b ha he := placed ha fun hb => he _ _ _ hb rfl
  arm s _ := of_same (mapRules_powered s _) (mapRules_timebase s _) (mapRules_pins s _)
    (FlagsGrow.of_flags (congrArg Alert.flags (mapRules_alert s _)) _) (input_congr (mapRules_inputs s _) e) (mapRules_queues s _)
  disarm s _ := of_same (mapRules_powered s _) (mapRules_timebase s _) (mapRules_pins s _)
    (FlagsGrow.of_flags (congrArg Alert.flags (mapRules_alert s _)) _) (input_congr (mapRules_inputs s _) e) (mapRules_queues s _)
  windows s _ := of_same (mapRules_powered s _) (mapRules_timebase s _) (mapRules_pins s _)
    (FlagsGrow.of_flags (congrArg Alert.flags (mapRules_alert s _)) _) (input_congr (mapRules_inputs s _) e) (mapRules_queues s _)
  timer _ _ _ := of_same rfl rfl rfl id rfl rfl
  stamped s x hx := of_same rfl rfl rfl id (by rw [input_setInput, if_neg hx]) rfl
  gate _ _ := of_same rfl rfl rfl id rfl rfl
  alert s a ha := of_same rfl rfl rfl (FlagsGrow.of_flags (t := { s with alert := a }) ha _) rfl rfl
  sampled s x _ hx := of_same rfl rfl rfl id (by rw [input_setInput, if_neg hx]) rfl
  counted s x hx := of_same rfl rfl rfl id (by rw [input_setInput, if_neg hx]) rfl

/-- The event's own record (R142): its placement is the moment of the last-event timestamp. -/
theorem recorded {s : State} (h : EventMet e i w L p false ticked s) :
    EventMet e i w L p true ticked (s.applyEventPart .none e (.record i.count i.activeLevel)) := by
  let u := s.setInput e { s.input e with lastEvent := s.timebase.timestamp }
  have own : u.input e = { s.input e with lastEvent := s.timebase.timestamp } := (input_setInput s e e _).trans (if_pos rfl)
  have moved : EventMet e i w L p true ticked u := by
    refine ⟨h.powered, h.running, h.stamp, h.pins, h.flag, ?_, ?_, fun n r hr => ?_⟩
    · rw [own, h.input]
    · rw [own]
      exact h.at_stamp
    · refine (h.records n r hr).imp_right fun ⟨hw, hb⟩ => ⟨hw, fun hown => absurd (hb hown).1 nofun⟩
  have placedIn : ∀ n, EventMet e i w L p true ticked (u.placeIn n (.inputEvent e i.count i.activeLevel)).1 := fun n => by
    have frame := placeAt_frame u u.timebase.timestamp n (.inputEvent e i.count i.activeLevel)
    have input := input_congr frame.inputs e
    refine ⟨frame.powered.trans moved.powered, by rw [placeIn, frame.timebase]; exact moved.running,
      by rw [placeIn, frame.timebase]; exact moved.stamp, frame.pins.trans moved.pins,
      effectClosed_flags.place u n (.inputEvent e i.count i.activeLevel) nofun _ moved.flag, ?_, ?_, fun m r hr => ?_⟩
    · rw [placeIn, input]
      exact moved.input
    · rw [placeIn, input]
      exact moved.last
    · rw [placeIn, input]
      obtain hr | hr := mem_placeAt hr
      · exact moved.records m r hr
      · rw [hr, own]
        exact .inr ⟨moved.at_stamp, fun _ => ⟨rfl, rfl⟩⟩
  change EventMet e i w L p true ticked (u.offerTo (s.input e).recordQueue (.inputEvent e i.count i.activeLevel))
  cases (s.input e).recordQueue with
  | none => exact moved
  | some n => exact (closed (e := e)).judgeNotify _ n _ (placedIn n)

/-- The tick: an unfiltered input takes no sample at it (R137, R138). -/
theorem ticks {s : State} (h : EventMet e i w L p offered false s) (hf : fld i.config 2 3 = 0) :
    EventMet e i w L p offered true (s.takeMeeting .tick) := by
  have met := closed (e := e) (i := i) (w := w) (L := L) (p := p) (offered := offered) (ticked := false)
  have after := closed (e := e) (i := i) (w := w) (L := L) (p := p) (offered := offered) (ticked := true)
  let u : State := { s with alert := s.alert.commandEnds .unplaced }
  have begun : EventMet e i w L p offered false u := met.alert s _ (Alert.commandEnds_flags _ _) h
  have settled := met.settleOwed u begun
  let v : State := { u.settleOwed with timebase := u.settleOwed.timebase.tick, alert := { u.settleOwed.alert with lastTick := .unplaced } }
  have ticked : EventMet e i w L p offered true v := by
    obtain ⟨powered, running, stamp, pins, flag, input, last, records⟩ := settled
    refine ⟨powered, (Timebase.tick_running _).trans running, ?_, pins, flag, input, last, records⟩
    exact (Timebase.tick_timestamp _).trans (congrArg (· + 1) stamp)
  have unsampled : (v.input e).samplesAt v.timebase.tapCount = false := by
    rw [ticked.input]
    simp [EventInput.samplesAt, EventInput.filterTap, EventInput.filterCode, hf]
  have others : ∀ x ∈ v.sampling, x ≠ e := fun x hx hxe => by
    have takes := (List.mem_filter.mp hx).2
    rw [hxe, unsampled] at takes
    exact absurd takes nofun
  have taken : s.takeMeeting .tick = u.takeTick := by
    change u.onPower tickIfRunning = _
    rw [onPower_on begun.powered, tickIfRunning, if_pos begun.running]
  rw [taken]
  exact after.endCommand _ _ (after.handOutTick v others ticked)

/-- The parts of the event in any order, the record and the tick once each. -/
theorem parts {c : BitVec 8} {l : Bool} (hc : c = i.count) (hl : l = i.activeLevel) (hf : fld i.config 2 3 = 0) (k : EventMeetings)
    (hk : k.take = takeMeeting) (ps : List EventPart) {offered ticked : Bool} {s : State}
    (h : EventMet e i w L p offered ticked s)
    (hps : ∀ x ∈ ps, x = .record c l ∨ x = .meet .tick ∨ ∃ t, x = .trigger t)
    (hr : ps.count (.record c l) = if offered then 0 else 1) (ht : ps.count (.meet .tick) = if ticked then 0 else 1) :
    EventMet e i w L p true true (ps.foldl (fun s x => s.applyEventPart k e x) s) := by
  induction ps generalizing s offered ticked with
  | nil =>
    cases offered <;> cases ticked <;> simp at hr ht
    exact h
  | cons x xs ih =>
    have rest := fun y hy => hps y (List.mem_cons_of_mem x hy)
    rw [List.foldl_cons]
    obtain hx | hx | ⟨t, hx⟩ := hps x List.mem_cons_self
    · subst hx
      cases offered with
      | true => simp at hr
      | false =>
        have done : EventMet e i w L p true ticked (s.applyEventPart k e (.record c l)) := by
          rw [hc, hl]
          exact h.recorded
        exact ih done rest (by simpa using hr) (by simpa using ht)
    · subst hx
      cases ticked with
      | true => simp at ht
      | false =>
        have done : EventMet e i w L p offered true (s.applyEventPart k e (.meet .tick)) := by
          change EventMet e i w L p offered true (k.take .tick s)
          rw [hk]
          exact h.ticks hf
        exact ih done rest (by simpa using hr) (by simpa using ht)
    · subst hx
      exact ih ((closed (e := e)).triggerTimer s t h) rest (by simpa using hr) (by simpa using ht)

end EventMet

end State

end Sys2Proof.Machine
end

section
/-! The change of a pin, settled by the cases of the input (R136 to R142). -/

namespace Sys2Proof.Machine

namespace State

variable {s : State} {e : Fin 2} {level : Bool}

/-! ### The pin (R137) -/

theorem changePin_changed (hpow : s.powered = true) (hp : s.evPin e = !level) (k : EventMeetings) :
    s.changePin k e level = s.endCommand ((s.setEvPin e level).followPin k e level) := by
  unfold changePin
  rw [if_neg (by rw [hp]; cases level <;> exact nofun), onPower_on (by exact hpow)]

/-- A disabled or a filtered input does not take the change. -/
theorem followPin_ignored (h : (s.input e).sampler = none ∨ fld (s.input e).config 2 3 ≠ 0) (k : EventMeetings) :
    s.followPin k e level = s := by
  unfold followPin
  split
  next m hm hf =>
    obtain h | h := h
    · exact absurd (h.symm.trans hm) nofun
    · exact absurd (hf.symm.trans (if_neg h)) nofun
  · rfl

theorem followPin_taken {m : Sampler} (hm : (s.input e).sampler = some m) (hf : fld (s.input e).config 2 3 = 0) (k : EventMeetings) :
    s.followPin k e level = s.moveSampler k e m (.seed level) := by
  have unfiltered : (s.input e).filterTap = none := if_pos hf
  simp only [followPin, hm, unfiltered]

theorem isEvent_iff {m : Sampler} (hs : m.seen = !level) {i : EventInput} :
    IsEvent i m (.seed level) ↔ level ≠ wbit i.config 1 := by
  unfold IsEvent EventInput.activeLevel EventInput.falling Sampler.seed
  rw [hs]
  cases level <;> cases wbit i.config 1 <;> simp

/-- The state in which the event of a pin change hands out its parts. -/
abbrev pinEvent (e : Fin 2) (level : Bool) (s : State) : State :=
  (s.setEvPin e level).setInput e { s.input e with sampler := some (.seed level), count := satInc (s.input e).count }

theorem pinEvent_input (e : Fin 2) (level : Bool) (s : State) : (s.pinEvent e level).input e =
    { s.input e with sampler := some (.seed level), count := satInc (s.input e).count } := (input_setInput _ e e _).trans (if_pos rfl)

end State

theorem exec_evPinChange (e : Fin 2) (c : PinChange) (s : State) :
    exec (.evPinChange e c) s = .next (s.changePin ⟨c.inside, State.takeMeeting⟩ e c.level) := rfl

section

variable {s : State} {e : Fin 2} {level : Bool} {ms : List Meeting}

/-- The change of the pin that is an effective event. -/
theorem exec_evPinChange_effective {m : Sampler} (hpow : s.powered = true) (hp : s.evPin e = !level) (hm : (s.input e).sampler = some m)
    (hs : m.seen = !level) (hf : fld (s.input e).config 2 3 = 0) (hl : level ≠ wbit (s.input e).config 1)
    (ho : wbit (s.input e).config 5 = false ∨ s.alert.flagSet (.input e) = false) :
    exec (.evPinChange e ⟨level, ms⟩) s =
      .next (s.endCommand ((s.pinEvent e level).effectiveEvent ⟨ms, State.takeMeeting⟩ e)) := by
  rw [exec_evPinChange, State.changePin_changed hpow hp, State.followPin_taken (s := s.setEvPin e level) hm hf,
    State.moveSampler_effective (s := s.setEvPin e level) ((State.isEvent_iff hs).mpr hl) ho]
  rfl

/-- The level that the event reports. -/
theorem pinEvent_level (hl : level ≠ wbit (s.input e).config 1) : ((s.pinEvent e level).input e).activeLevel = level := by
  rw [State.pinEvent_input]
  unfold EventInput.activeLevel EventInput.falling
  revert hl
  cases level <;> cases wbit (s.input e).config 1 <;> simp

/-- With nothing named among its parts (R141, R142). -/
theorem pinChange_quiet {m : Sampler} (hpow : s.powered = true) (hp : s.evPin e = !level) (hm : (s.input e).sampler = some m)
    (hs : m.seen = !level) (hf : fld (s.input e).config 2 3 = 0) (hl : level ≠ wbit (s.input e).config 1)
    (ho : wbit (s.input e).config 5 = false ∨ s.alert.flagSet (.input e) = false) :
    exec (.evPinChange e ⟨level, []⟩) s = .next (s.endCommand ((s.pinEvent e level).effectiveEvent .none e)) := by
  rw [exec_evPinChange_effective hpow hp hm hs hf hl ho, State.effectiveEvent_quiet rfl]

/-- With the tick named among its parts (R106; log 26). -/
theorem pinChange_ticked (hpow : s.powered = true) (hf : fld (s.input e).config 2 3 = 0)
    (hrun : s.timebase.running = true) :
    State.EventMet e ((s.pinEvent e level).input e) s.timebase.timestamp (fun n => (s.queue n).list)
      (s.setEvPin e level).pins true true (s.endCommand ((s.pinEvent e level).effectiveEvent ⟨[.tick], State.takeMeeting⟩ e)) := by
  let k : State.EventMeetings := ⟨[.tick], State.takeMeeting⟩
  let u := s.pinEvent e level
  let i := u.input e
  let v := (u.setInput e { u.input e with lastEvent := u.timebase.timestamp }).setFlag (.input e)
  have own : v.input e = { i with lastEvent := s.timebase.timestamp } := (State.input_setInput u e e _).trans (if_pos rfl)
  have begun : State.EventMet e i s.timebase.timestamp (fun n => (s.queue n).list) (s.setEvPin e level).pins false false v := by
    refine ⟨hpow, hrun, rfl, rfl, State.flagSet_setFlag_self _ _, ?_, .inl ?_, fun n r hr => .inl hr⟩
    · rw [own]
    · rw [own]
  have met : ∀ o t, State.EventClosedOn (· ≠ e) (State.Keeps (State.EventMet e i s.timebase.timestamp (fun n => (s.queue n).list)
    (s.setEvPin e level).pins o t)) := fun _ _ => State.EventMet.closed
  have unfiltered : fld i.config 2 3 = 0 := by
    rw [show i.config = (s.input e).config from
      (congrArg EventInput.config (State.pinEvent_input e level s)).trans rfl]
    exact hf
  let ts := u.triggeredOf e
  have listed : u.eventParts k e ts = .record i.count i.activeLevel :: (ts.map .trigger ++ [.meet .tick]) := by
    simp [State.eventParts, k, i]
  have perm := orderParts_perm (Config.raceKey v.draw) 0 (u.eventParts k e ts)
  have done : State.EventMet e i s.timebase.timestamp (fun n => (s.queue n).list) (s.setEvPin e level).pins true true
      (race (u.eventParts k e ts) (State.applyEventPart k e) v) := by
    refine State.EventMet.parts rfl rfl unfiltered k rfl _ ((met _ _).draw v begun) (fun x hx => ?_) ?_ ?_
    · have hx := perm.mem_iff.mp hx
      rw [listed] at hx
      simp only [List.mem_cons, List.mem_append, List.mem_map] at hx
      obtain hx | ⟨t, -, hx⟩ | hx := hx
      · exact .inl hx
      · exact .inr (.inr ⟨t, hx.symm⟩)
      · exact .inr (.inl (hx.resolve_right List.not_mem_nil))
    · have none_triggers : (ts.map State.EventPart.trigger).count (.record i.count i.activeLevel) = 0 :=
        List.count_eq_zero.mpr (by simp)
      rw [perm.count_eq, listed, List.count_cons_self, List.count_append, none_triggers]
      rfl
    · have none_triggers : (ts.map State.EventPart.trigger).count (.meet .tick) = 0 := List.count_eq_zero.mpr (by simp)
      rw [perm.count_eq, listed, List.count_cons_of_ne (by exact nofun), List.count_append, none_triggers]
      rfl
  exact (met _ _).endCommand s _ ((met _ _).disarm _ _ ((met _ _).arm _ _ done))

end

/-- Settles O38. -/
theorem pinChangeOfAnInput : Obligations.PinChangeOfAnInput := by
  intro s e level ms hpow hp
  refine ⟨fun h => ?_, fun m hm hs hf => ⟨fun hl => ?_, fun hl hh hset => ?_, fun hl ho hms hrun => ?_, fun hl ho hms => ?_⟩⟩
  · rw [exec_evPinChange, State.changePin_changed hpow hp, State.followPin_ignored (s := s.setEvPin e level) h,
      State.endCommand_of_eq (by rfl)]
    rfl
  · rw [exec_evPinChange, State.changePin_changed hpow hp, State.followPin_taken (s := s.setEvPin e level) hm hf,
      State.moveSampler_still (s := s.setEvPin e level) (fun h => (State.isEvent_iff hs).mp h hl), State.endCommand_of_eq (by rfl)]
    rfl
  · rw [exec_evPinChange, State.changePin_changed hpow hp, State.followPin_taken (s := s.setEvPin e level) hm hf,
      State.moveSampler_held (s := s.setEvPin e level) ((State.isEvent_iff hs).mpr hl) hh hset, State.endCommand_of_eq (by rfl)]
    rfl
  · subst hms
    have level' := pinEvent_level (s := s) (e := e) hl
    have input := State.pinEvent_input e level s
    have met := pinChange_ticked (s := s) (e := e) (level := level) hpow hf hrun
    have own := met.input
    refine ⟨_, exec_evPinChange_effective hpow hp hm hs hf hl ho, met.stamp, ?_, met.flag, met.pins, met.last, fun n r hr => ?_⟩
    · rw [own, input]
    · refine (met.records n r hr).imp_right fun ⟨hstamp, hown⟩ => ⟨hstamp, fun hb => (hown ?_).2⟩
      rw [hb, level', input]
  · subst hms
    have level' := pinEvent_level (s := s) (e := e) hl
    have input := State.pinEvent_input e level s
    obtain ⟨own, other⟩ := State.effectiveEvent_input e (s.pinEvent e level)
    have frame := State.effectiveEvent_frame e (s.pinEvent e level)
    have taken := pinChange_quiet hpow hp hm hs hf hl ho
    have flag := State.effectiveEvent_flagSet e (s.pinEvent e level)
    have timer := State.effectiveEvent_timer e (s.pinEvent e level)
    have rule := State.effectiveEvent_rule e (s.pinEvent e level)
    have record := fun n hq hc hon hroom => State.effectiveEvent_record (s := s.pinEvent e level) (e := e) (n := n) hq hc hon hroom
    rw [level', input] at record
    generalize (s.pinEvent e level).effectiveEvent .none e = u at *
    refine ⟨_, taken, own.trans ?_, (State.endCommand_flagSet ..).trans flag, frame.pins, fun x hx => ?_,
      fun n hq hc hon hroom => record n hq hc hon hroom, fun c hc => ?_, fun c hc => (timer c).trans (if_neg hc), rule,
      frame.path, frame.gate, frame.link, frame.store, frame.timebase⟩
    · rw [input]
      rfl
    · exact (other x hx).trans ((State.input_setInput _ e x _).trans (if_neg (Ne.symm hx)))
    · refine (timer c).trans ((if_pos hc).trans ?_)
      rw [State.timer_triggerTimer, if_pos rfl]
      rfl

end Sys2Proof.Machine
end

section
/-! The tap ticks handed out (R105, R107): a tick at which no input samples, and a tick at which one does. -/

namespace Sys2Proof.Machine

namespace State

variable {s : State}

/-! ### A tick with nothing owed from the last one (R105, R106) -/

/-- The counts of the timebase at a tick, its tap ticks not yet handed out nor placed. -/
abbrev tickBegun (s : State) : State := { s with timebase := s.timebase.tick, alert := { s.alert with lastTick := .unplaced } }

theorem takeTick_of_none (h : s.owedParts = []) : s.takeTick = s.tickBegun.endCommand s.tickBegun.handOutTick := by
  rw [takeTick, settleOwed_of_none h]

theorem exec_tick_of_none (hpow : s.powered = true) (hrun : s.timebase.running = true) (h : s.owedParts = []) :
    Machine.exec .tick s = .next (s.tickBegun.endCommand s.tickBegun.handOutTick) := by
  refine (whenPowered_on (f := tickIfRunning) hpow).trans (congrArg _ ?_)
  rw [tickIfRunning, if_pos hrun, takeTick_of_none h]

theorem owedParts_nil (h : s.owedParts = []) : s.gate.tickOwed = false ∧ s.alert.tickOwed = false := by
  rw [owedParts, List.append_eq_nil_iff, List.append_eq_nil_iff] at h
  obtain ⟨⟨-, hg⟩, ha⟩ := h
  constructor
  · cases hc : s.gate.tickOwed with
    | false => rfl
    | true => simp [hc] at hg
  · cases hc : s.alert.tickOwed with
    | false => rfl
    | true => simp [hc] at ha

/-! ### No sample at the tick (R107, R120, R126, R158, R170) -/

theorem takeTickParts_quiet (l : List TickPart) (hl : l.any TickPart.isSample = false) (s : State) :
    takeTickParts l s = l.foldl (fun s p => s.applyTickPart false p) s := by
  induction l generalizing s with
  | nil => rfl
  | cons p ps ih =>
    obtain ⟨-, hps⟩ := Bool.or_eq_false_iff.mp hl
    rw [takeTickParts, hps, ih hps, List.foldl_cons]

/-- The channels take their tap ticks one after the other, each once. -/
theorem foldl_ticked (l : List (Fin 8)) (hl : l.Nodup) (s : State) :
    ∃ v, l.foldl (fun s t => s.applyTickPart false (.timer t)) s = { s with timers := v } ∧
      ∀ t, ({ s with timers := v } : State).timer t = if t ∈ l then (s.timer t).takeTick else s.timer t := by
  induction l generalizing s with
  | nil => exact ⟨s.timers, rfl, fun _ => rfl⟩
  | cons t ts ih =>
    obtain ⟨ht, hts⟩ := List.nodup_cons.mp hl
    obtain ⟨v, hv, htimer⟩ := ih hts (s.setTimer t (s.timer t).takeTick)
    refine ⟨v, hv, fun x => (htimer x).trans ?_⟩
    rw [timer_setTimer]
    by_cases hx : x = t
    · subst hx
      simp [ht]
    · simp [hx, Ne.symm hx]

theorem mem_tickedTimers_of_still (h : s.sampling = []) {t : Fin 8} :
    t ∈ s.tickedTimers ↔ tapTicks (s.timer t).tap s.timebase.tapCount = true ∧ (s.timer t).state = .running := by
  simp [tickedTimers, allTimers, h]

theorem applyTickPart_alert (u : State) : u.applyTickPart false .alert =
    if tapTicks u.alert.pulseTap u.timebase.tapCount = true then { u with alert := u.alert.takeTick } else u := rfl

/-- The gate after its part of a tick. -/
def gateTicked (s : State) : Gate :=
  if s.gate.state = .reopening ∧ tapTicks s.gate.holdOffTap s.timebase.tapCount = true then s.gate.takeTick else s.gate

/-- The alert controller after its part of a tick. -/
def alertTicked (s : State) : Alert :=
  if s.alert.pulse ≠ 0 ∧ tapTicks s.alert.pulseTap s.timebase.tapCount = true then s.alert.takeTick else s.alert

theorem foldl_gatePart {u : State} (hg : u.gate = s.gate) (hb : u.timebase = s.timebase) :
    (if s.gate.state == .reopening && tapTicks s.gate.holdOffTap s.timebase.tapCount then [TickPart.gate] else []).foldl
      (fun s p => s.applyTickPart false p) u = { u with gate := s.gateTicked } := by
  unfold gateTicked
  rw [← hg, ← hb]
  by_cases hc : u.gate.state = .reopening ∧ tapTicks u.gate.holdOffTap u.timebase.tapCount = true
  · rw [if_pos (by simpa using hc), if_pos hc]
    rfl
  · rw [if_neg (by simpa using hc), if_neg hc]
    rfl

theorem foldl_alertPart {u : State} (ha : u.alert = s.alert) (hb : u.timebase = s.timebase) :
    (if s.alert.pulse != 0 then [TickPart.alert] else []).foldl (fun s p => s.applyTickPart false p) u =
      { u with alert := s.alertTicked } := by
  unfold alertTicked
  rw [← ha, ← hb]
  by_cases hc : u.alert.pulse = 0
  · rw [if_neg (by simp [hc]), if_neg (by simp [hc])]
    rfl
  · rw [if_pos (by simpa using hc), List.foldl_cons, List.foldl_nil, applyTickPart_alert]
    by_cases ht : tapTicks u.alert.pulseTap u.timebase.tapCount = true
    · rw [if_pos ht, if_pos ⟨hc, ht⟩]
    · rw [if_neg ht, if_neg fun h => ht h.2]

theorem handOutTick_still (h : s.sampling = []) : ∃ v,
    s.handOutTick = { s with timers := v, gate := s.gateTicked, alert := s.alertTicked } ∧
      ∀ t, ({ s with timers := v } : State).timer t = if t ∈ s.tickedTimers then (s.timer t).takeTick else s.timer t := by
  obtain ⟨v, hv, htimer⟩ := foldl_ticked s.tickedTimers ((List.nodup_finRange 8).filter _) s
  refine ⟨v, ?_, htimer⟩
  have parts : s.tickParts = s.tickedTimers.map TickPart.timer ++
      (if s.gate.state == .reopening && tapTicks s.gate.holdOffTap s.timebase.tapCount then [.gate] else []) ++
      (if s.alert.pulse != 0 then [.alert] else []) := by simp [tickParts, h]
  have quiet : s.tickParts.any TickPart.isSample = false := by
    rw [parts]
    simp only [List.any_append, List.any_map, Bool.or_eq_false_iff]
    refine ⟨⟨List.any_eq_false.mpr fun _ _ => nofun, ?_⟩, ?_⟩
    · split <;> rfl
    · split <;> rfl
  unfold handOutTick
  rw [if_pos (by rw [h]; rfl), takeTickParts_quiet _ quiet, parts, List.foldl_append, List.foldl_append, List.foldl_map, hv,
    foldl_gatePart (s := s) (u := { s with timers := v }) rfl rfl]
  exact foldl_alertPart (s := s) (u := { s with timers := v, gate := s.gateTicked }) rfl rfl

end State

namespace Timer

theorem takeTick_not_running {ch : Timer} (h : ch.state ≠ .running) : ch.takeTick = ch := if_pos h

theorem takeTick_last {ch : Timer} (hs : ch.state = .running) (h : ch.atExpiry = true) : ch.takeTick = { ch with tickOwed := true } := by
  rw [takeTick, if_neg (not_not.mpr hs), if_pos h]

theorem takeTick_down {ch : Timer} (hs : ch.state = .running) (hm : ch.measuring = false) (h : ch.counter ≠ 1) :
    ch.takeTick = { ch with counter := ch.counter - 1, tickOwed := false } := by
  rw [takeTick, if_neg (not_not.mpr hs), if_neg (mt (atExpiry_down hm hs).mp h), if_neg (by simp [hm])]

theorem takeTick_up {ch : Timer} (hs : ch.state = .running) (hm : ch.measuring = true)
    (h : ch.counter.toNat + 1 ≠ ch.reload.toNat) :
    ch.takeTick = { ch with counter := if ch.counter = 65535 then 65535 else ch.counter + 1, tickOwed := false } := by
  have next : satInc ch.counter = if ch.counter = 65535 then 65535 else ch.counter + 1 := by
    unfold satInc
    rw [show BitVec.allOnes 16 = 65535 from rfl]
    split
    next hc => exact hc
    · rfl
  rw [takeTick, if_neg (not_not.mpr hs), if_neg (mt (atExpiry_measure hm hs).mp h), if_pos hm, next]

end Timer

namespace Gate

theorem takeTick_last {g : Gate} (hs : g.state = .reopening) (h : g.holdOff.toNat ≤ 1) : g.takeTick = { g with tickOwed := true } := by
  rw [takeTick, if_neg (not_not.mpr hs), if_pos h]

theorem takeTick_more {g : Gate} (hs : g.state = .reopening) (h : 2 ≤ g.holdOff.toNat) (ho : g.tickOwed = false) :
    g.takeTick = { g with holdOff := g.holdOff - 1 } := by
  rw [takeTick, if_neg (not_not.mpr hs), if_neg (by omega), ← ho]

end Gate

/-- The pulse before its last count. -/
theorem Alert.takeTick_counting {a : Alert} (h0 : a.pulse ≠ 0) (h1 : a.pulse ≠ 1) (ho : a.tickOwed = false) :
    a.takeTick = { a with pulse := a.pulse - 1 } := by
  rw [takeTick, if_neg h0, if_neg h1, ← ho]

/-! ### A sample at the tick (R138 to R141) -/

namespace State

variable {e : Fin 2}

/-- What the parts of a tick leave as it was for a sample of input `e` that is not theirs. -/
def Aside (e : Fin 2) (s t : State) : Prop :=
  t.pins = s.pins ∧ t.timebase = s.timebase ∧ t.input e = s.input e ∧ t.alert.flagSet (.input e) = s.alert.flagSet (.input e)

theorem Aside.trans {s t u : State} (h : Aside e s t) (h' : Aside e t u) : Aside e s u := by
  obtain ⟨hp, hb, hi, hf⟩ := h
  obtain ⟨hp', hb', hi', hf'⟩ := h'
  exact ⟨hp'.trans hp, hb'.trans hb, hi'.trans hi, hf'.trans hf⟩

theorem Aside.of_flags {s t : State} (hp : t.pins = s.pins) (hb : t.timebase = s.timebase) (hi : t.input e = s.input e)
    (ha : t.alert.flags = s.alert.flags) : Aside e s t := ⟨hp, hb, hi, by rw [Alert.flagSet, ha]; rfl⟩

theorem Aside.flag (s : State) {g : Flag} (hg : ∀ x, g = .input x → x ≠ e) : Aside e s (s.setFlag g) :=
  ⟨rfl, rfl, rfl, Bool.eq_iff_iff.mpr ((flagSet_setFlag s g (.input e)).trans
    ⟨fun h => h.resolve_left fun he => hg e he.symm rfl, .inr⟩)⟩

theorem Aside.placed (s : State) (n : Fin 4) (b : RecordBody) : Aside e s (s.placeIn n b).1 := by
  have lost : ∀ u : State, Aside e u (u.loseIn n) := fun u =>
    (Aside.of_flags (t := u.setQueue n (u.queue n).lose) rfl rfl rfl rfl).trans (Aside.flag _ (g := .qo n) nofun)
  have appended : ∀ (u : State) (w : Word), Aside e u (u.append w n b) := fun u w => .of_flags rfl rfl rfl rfl
  cases hr : (s.queue n).reception with
  | room =>
    rw [placeIn, placeAt_room hr]
    exact appended s _
  | displace =>
    rw [placeIn, placeAt_displace hr]
    exact ((Aside.of_flags (t := s.dropOldest n) rfl rfl rfl rfl).trans (lost _)).trans (appended _ _)
  | refuse =>
    rw [placeIn, placeAt_refuse hr]
    exact lost s

/-- Whatever is no event of the input leaves it aside. -/
theorem eventClosedOn_aside (e : Fin 2) : EventClosedOn (· ≠ e) (Aside e) where
  refl _ := .of_flags rfl rfl rfl rfl
  trans := Aside.trans
  draw _ := .of_flags rfl rfl rfl rfl
  flag s _ hg := Aside.flag s hg
  place s n b _ _ := Aside.placed s n b
  arm s _ := .of_flags (mapRules_pins s _) (mapRules_timebase s _) (input_congr (mapRules_inputs s _) e)
    (congrArg Alert.flags (mapRules_alert s _))
  disarm s _ := .of_flags (mapRules_pins s _) (mapRules_timebase s _) (input_congr (mapRules_inputs s _) e)
    (congrArg Alert.flags (mapRules_alert s _))
  windows s _ := .of_flags (mapRules_pins s _) (mapRules_timebase s _) (input_congr (mapRules_inputs s _) e)
    (congrArg Alert.flags (mapRules_alert s _))
  timer _ _ _ := .of_flags rfl rfl rfl rfl
  stamped s x hx := .of_flags rfl rfl (by rw [input_setInput, if_neg hx]) rfl
  gate _ _ := .of_flags rfl rfl rfl rfl
  alert _ _ ha := .of_flags rfl rfl rfl ha
  sampled s x _ hx := .of_flags rfl rfl (by rw [input_setInput, if_neg hx]) rfl
  counted s x hx := .of_flags rfl rfl (by rw [input_setInput, if_neg hx]) rfl

/-- The one sample of an input among the parts of a tick, with what is aside of it before and after. -/
theorem takeTickParts_sample (l : List TickPart) (hl : l.count (.sample e) = 1) (s : State) :
    ∃ u, Aside e s u ∧ Aside e (u.sampleInput e) (takeTickParts l s) := by
  have h := eventClosedOn_aside e
  induction l generalizing s with
  | nil => simp at hl
  | cons p ps ih =>
    by_cases hp : p = .sample e
    · subst hp
      have rest : TickPart.sample e ∉ ps := fun hm => by
        have := List.count_pos_iff.mpr hm
        rw [List.count_cons_self] at hl
        omega
      exact ⟨s, h.refl s, h.takeTickParts ps (fun x hx hxe => rest (hxe ▸ hx)) _⟩
    · rw [List.count_cons_of_ne (fun h => hp h)] at hl
      obtain ⟨u, hu, hd⟩ := ih hl (s.applyTickPart (ps.any TickPart.isSample) p)
      exact ⟨u, (h.applyTickPart _ (fun x hx hxe => hp (hx.trans (congrArg _ hxe))) s).trans hu, hd⟩

theorem tickParts_count_sample {s : State} (h : e ∈ s.sampling) : s.tickParts.count (.sample e) = 1 := by
  have sampled : (s.sampling.map TickPart.sample).count (.sample e) = 1 := by
    refine List.count_eq_one_of_mem ?_ (List.mem_map_of_mem h)
    exact ((List.nodup_finRange 2).filter _).map fun _ _ => TickPart.sample.inj
  have timers : (s.tickedTimers.map TickPart.timer).count (.sample e) = 0 := List.count_eq_zero.mpr (by simp)
  unfold tickParts
  rw [List.count_append, List.count_append, List.count_append, sampled, timers]
  split <;> split <;> simp

theorem handOutTick_sample {s : State} (h : e ∈ s.sampling) :
    ∃ u, Aside e s u ∧ Aside e (u.sampleInput e) s.handOutTick := by
  unfold handOutTick
  rw [if_neg (by cases hs : s.sampling <;> simp_all)]
  refine takeTickParts_sample _ ?_ { s with draw := s.draw + 1 }
  rw [(orderParts_perm _ _ _).count_eq]
  exact tickParts_count_sample h

/-! ### The sample itself -/

section

variable {s : State} {m : Sampler} (hm : (s.input e).sampler = some m)
include hm

/-- A sample that is no event. -/
theorem sampleInput_still (h : ¬ IsEvent (s.input e) m (m.take (s.evPin e))) :
    (s.sampleInput e).input e = { s.input e with sampler := some (m.take (s.evPin e)) } := by
  simp only [sampleInput, hm]
  rw [moveSampler_still h, input_setInput, if_pos rfl]

theorem sampleInput_held (h : IsEvent (s.input e) m (m.take (s.evPin e))) (hh : wbit (s.input e).config 5 = true)
    (hs : s.alert.flagSet (.input e) = true) : (s.sampleInput e).input e =
      { s.input e with sampler := some (m.take (s.evPin e)), count := satInc (s.input e).count } := by
  simp only [sampleInput, hm]
  rw [moveSampler_held h hh hs, input_setInput, if_pos rfl]

theorem sampleInput_effective (h : IsEvent (s.input e) m (m.take (s.evPin e)))
    (ho : wbit (s.input e).config 5 = false ∨ s.alert.flagSet (.input e) = false) :
    (s.sampleInput e).input e = { s.input e with
      sampler := some (m.take (s.evPin e)), count := satInc (s.input e).count, lastEvent := s.timebase.timestamp } ∧
      (s.sampleInput e).alert.flagSet (.input e) = true := by
  simp only [sampleInput, hm]
  rw [moveSampler_effective h ho]
  refine ⟨?_, effectiveEvent_flagSet e _⟩
  rw [(effectiveEvent_input e _).1, input_setInput, if_pos rfl]
  rfl

end

end State

/-- Settles O34. -/
theorem tickCountsTheChannels : Obligations.TickCountsTheChannels := by
  refine ⟨fun s hpow hrun hnone hstill => ?_, fun s e seen a b c hpow hrun hnone hm hen hcode htick => ?_⟩
  · obtain ⟨gateFree, alertFree⟩ := State.owedParts_nil hnone
    have tap : ∀ tap : BitVec 3, tapTicks tap (s.timebase.tapCount + 1) = true ↔ (s.timebase.tapCount + 1).toNat % 16 ^ tap.toNat = 0 :=
      fun tap => Alert.tapTicks_iff tap _
    have still : s.tickBegun.sampling = [] := List.filter_eq_nil_iff.mpr fun x _ => Bool.eq_false_iff.mp (hstill x)
    obtain ⟨v, out, timers⟩ := State.handOutTick_still still
    have timer : ∀ t, (s.tickBegun.endCommand s.tickBegun.handOutTick).timer t =
        if t ∈ s.tickBegun.tickedTimers then (s.timer t).takeTick else s.timer t := fun t => by
      rw [out]
      exact timers t
    have ticked : ∀ t, t ∈ s.tickBegun.tickedTimers ↔
        (s.timebase.tapCount + 1).toNat % 16 ^ (fld (s.timer t).config 4 3).toNat = 0 ∧ (s.timer t).state = .running := fun t =>
      (State.mem_tickedTimers_of_still still).trans (and_congr_left' (tap _))
    have gate : (s.tickBegun.endCommand s.tickBegun.handOutTick).gate = s.tickBegun.gateTicked := by rw [out]; rfl
    have alert : (s.tickBegun.endCommand s.tickBegun.handOutTick).alert = s.tickBegun.alertTicked := by
      have place : s.tickBegun.alertTicked.lastTick = .unplaced := by
        unfold State.alertTicked
        split
        · exact Alert.takeTick_lastTick _
        · rfl
      rw [out, State.endCommand_of_eq (by exact place)]
    refine ⟨_, State.exec_tick_of_none hpow hrun hnone, by rw [out]; rfl, by rw [out]; rfl, by rw [out]; rfl, fun h => ?_,
      fun hr ht => ⟨fun hl => ?_, fun hl => ?_⟩, fun h => ?_, fun h0 ht => ⟨fun h1 => ?_, fun h1 => ?_⟩,
      fun t => ⟨fun h => ?_, fun hr ht hc => ⟨fun hl => ?_, fun hl => ?_⟩, fun hr ht hc => ⟨fun hl => ?_, fun hl => ?_⟩⟩⟩
    · exact gate.trans (if_neg fun hc => h.elim (fun h => h hc.1) fun h => h ((tap _).mp hc.2))
    · exact (gate.trans (if_pos ⟨hr, (tap _).mpr ht⟩)).trans (Gate.takeTick_last hr hl)
    · exact (gate.trans (if_pos ⟨hr, (tap _).mpr ht⟩)).trans (Gate.takeTick_more hr hl gateFree)
    · exact alert.trans (if_neg fun hc => h.elim (fun h => hc.1 h) fun h => h ((tap _).mp hc.2))
    · exact (alert.trans (if_pos ⟨h0, (tap _).mpr ht⟩)).trans (Alert.takeTick_one h1)
    · exact (alert.trans (if_pos ⟨h0, (tap _).mpr ht⟩)).trans
        (Alert.takeTick_counting (a := { s.alert with lastTick := .unplaced }) h0 h1 alertFree)
    · exact (timer t).trans (if_neg fun hc => h.elim (fun h => h ((ticked t).mp hc).2) fun h => h ((ticked t).mp hc).1)
    · exact ((timer t).trans (if_pos ((ticked t).mpr ⟨ht, hr⟩))).trans
        (Timer.takeTick_last hr ((Timer.atExpiry_down (Timer.measuring_eq_false hc) hr).mpr hl))
    · exact ((timer t).trans (if_pos ((ticked t).mpr ⟨ht, hr⟩))).trans
        (Timer.takeTick_down hr (Timer.measuring_eq_false hc) hl)
    · exact ((timer t).trans (if_pos ((ticked t).mpr ⟨ht, hr⟩))).trans
        (Timer.takeTick_last hr ((Timer.atExpiry_measure (Timer.measuring_of_code hc) hr).mpr hl))
    · exact ((timer t).trans (if_pos ((ticked t).mpr ⟨ht, hr⟩))).trans
        (Timer.takeTick_up hr (Timer.measuring_of_code hc) hl)
  · let u₀ := s.tickBegun
    have tap : tapTicks (fld (s.input e).config 2 3 - 1) (s.timebase.tapCount + 1) = true := by
      have one : (1 : BitVec 3).toNat = 1 := rfl
      have code := (fld (s.input e).config 2 3).isLt
      rw [Alert.tapTicks_iff, BitVec.toNat_sub, one]
      rwa [show (2 ^ 3 - 1 + (fld (s.input e).config 2 3).toNat) % 2 ^ 3 = (fld (s.input e).config 2 3).toNat - 1 by omega]
    have filtered : (s.input e).filterTap = some (fld (s.input e).config 2 3 - 1) :=
      if_neg fun h => by rw [show fld (s.input e).config 2 3 = 0 from h] at hcode; exact absurd hcode (by decide)
    have takes : (s.input e).samplesAt (s.timebase.tapCount + 1) = true := by
      rw [EventInput.samplesAt, filtered]
      exact Bool.and_eq_true_iff.mpr ⟨hen, tap⟩
    obtain ⟨u, ⟨pins, timebase, input, flag⟩, -, -, result, flagged⟩ := State.handOutTick_sample (s := u₀) (e := e)
      (List.mem_filter.mpr ⟨List.mem_finRange e, takes⟩)
    have pin : u.evPin e = s.evPin e := by rw [State.evPin, pins]; rfl
    have own : u.input e = s.input e := input
    have sampler : (u.input e).sampler = some ⟨seen, a, b, c⟩ := by rw [own]; exact hm
    have stamp : u.timebase.timestamp = s.timebase.timestamp + 1 := by rw [timebase]; rfl
    have taken : Sampler.take (u.evPin e) ⟨seen, a, b, c⟩ =
        ⟨decide (2 ≤ b.toNat + c.toNat + (s.evPin e).toNat), b, c, s.evPin e⟩ := by rw [pin, Sampler.take, majority_eq]
    have event : State.IsEvent (u.input e) ⟨seen, a, b, c⟩ (Sampler.take (u.evPin e) ⟨seen, a, b, c⟩) ↔
        decide (2 ≤ b.toNat + c.toNat + (s.evPin e).toNat) ≠ seen ∧
          decide (2 ≤ b.toNat + c.toNat + (s.evPin e).toNat) ≠ wbit (s.input e).config 1 := by
      rw [taken, own]
      unfold State.IsEvent EventInput.activeLevel EventInput.falling
      generalize decide (2 ≤ b.toNat + c.toNat + (s.evPin e).toNat) = now
      cases now <;> cases seen <;> cases wbit (s.input e).config 1 <;> simp
    have ended : ∀ x : State, (u₀.endCommand x).input e = x.input e := fun _ => rfl
    have flagEnded : (u₀.endCommand u₀.handOutTick).alert.flagSet (.input e) = (u.sampleInput e).alert.flagSet (.input e) :=
      (State.endCommand_flagSet ..).trans flagged
    refine ⟨_, State.exec_tick_of_none hpow hrun hnone, ?_⟩
    rw [ended, result, flagEnded]
    by_cases hev : decide (2 ≤ b.toNat + c.toNat + (s.evPin e).toNat) ≠ seen ∧
        decide (2 ≤ b.toNat + c.toNat + (s.evPin e).toNat) ≠ wbit (s.input e).config 1
    · by_cases ho : wbit (s.input e).config 5 = false ∨ s.alert.flagSet (.input e) = false
      · obtain ⟨out, set⟩ := State.sampleInput_effective sampler (event.mpr hev) (by rw [own, flag]; exact ho)
        rw [out, taken, own, stamp]
        refine ⟨rfl, rfl, (if_pos hev).symm, fun _ _ => ⟨rfl, set⟩, fun h => ?_⟩
        obtain h | ⟨h5, hf⟩ := h
        · exact absurd hev h
        · exact (ho.elim (fun h => absurd (h.symm.trans h5) nofun) fun h => absurd (h.symm.trans hf) nofun)
      · simp only [not_or, Bool.not_eq_false] at ho
        have out := State.sampleInput_held sampler (event.mpr hev) (by rw [own]; exact ho.1) (by rw [flag]; exact ho.2)
        rw [out, taken, own]
        refine ⟨rfl, rfl, (if_pos hev).symm, fun _ h => ?_, fun _ => rfl⟩
        exact (h.elim (fun h => absurd (h.symm.trans ho.1) nofun) fun h => absurd (h.symm.trans ho.2) nofun)
    · have out := State.sampleInput_still sampler (mt event.mp hev)
      rw [out, taken, own]
      exact ⟨rfl, rfl, (if_neg hev).symm, fun h => absurd h hev, fun _ => rfl⟩

end Sys2Proof.Machine
end

section
/-! The ends of a forward, of the response limit and of the LATE port (R63 to R67, R71, R91). -/

namespace Sys2Proof.Machine

namespace State

/-! ### Flags at every moment -/

theorem FlagsGrow.inTickOrder {f : State → State} (hf : ∀ s, FlagsGrow s (f s)) (s : State) : FlagsGrow s (s.inTickOrder f) :=
  fun g h => (endCommand_flagSet _ _ g).trans (hf _ g h)

/-- Nothing that falls inside a command clears a flag. -/
theorem momentClosed_flags : MomentClosed FlagsGrow where
  toEffectClosed := effectClosed_flags
  orderExpire s t ht := by
    obtain ⟨p, e⟩ := inTickOrder_eq (State.expire t) s
    rw [e]
    exact fun g h => (endCommand_flagSet _ _ g).trans
      (effectClosed_flags.expire { s with draw := s.draw + 1, alert := { s.alert with lastTick := p } } t ht g h)
  orderOpen s hs ho := by
    obtain ⟨p, e⟩ := inTickOrder_eq State.gateEnterOpen s
    rw [e]
    exact fun g h => (endCommand_flagSet _ _ g).trans
      (effectClosed_flags.gateEnterOpen { s with draw := s.draw + 1, alert := { s.alert with lastTick := p } } hs ho g h)
  orderOwed s p := .inTickOrder (fun s => effectClosed_flags.takeOwed p s) s
  ends s start := .of_flags (Alert.commandEnds_flags _ _)
  ticked _ _ := .of_flags rfl
  gateTicked _ := .of_flags rfl
  alertTicked s _ := .of_flags (Alert.takeTick_flags s.alert)
  alertTaken _ _ := .of_flags rfl
  tick _ _ := .of_flags rfl
  pin _ _ _ := .of_flags rfl

theorem completeAll_flags (s : State) (before : Vector Nat 4) (o : TxnOutcome) (d : Option Word) :
    FlagsGrow s (s.completeAll before o d) :=
  effectClosed_flags.trans (.of_flags (congrArg Alert.flags (mapQueues_alert s _)))
    (effectClosed_flags.foldl (fun s n => flags_judgeNotify s n _) _ _)

theorem gateEndDrain_flags (s : State) : FlagsGrow s s.gateEndDrain := by
  have entered : FlagsGrow s s.gateEnterClosed := fun g h =>
    effectClosed_flags.offerTo _ _ (closedRecord s.gate) (by rw [closedRecord]; exact nofun) _
      ((FlagsGrow.flag { s with gate := { s.gate with state := .closed, refused := 0 } } .gate) g h)
  have left : ∀ u : State, FlagsGrow u u.gateLeaveClosed := fun u => by
    unfold gateLeaveClosed
    split
    · split
      · exact .of_flags rfl
      · exact fun g h => effectClosed_flags.offerTo _ _ (.gateOpened u.gate.refused) nofun _ h
    · exact effectClosed_flags.refl u
  unfold gateEndDrain
  split
  · exact effectClosed_flags.trans entered (left _)
  · exact effectClosed_flags.refl s

theorem GateFrame.moment {s t : State} (h : GateFrame s t) : MomentFrame s t := by
  obtain ⟨_, _, _, _, rfl⟩ := h
  exact ⟨_, _, _, _, _, _, _, _, _, _, rfl⟩

/-! ### The parts at the end of a forward -/

variable (t : Txn) (o : TxnOutcome) (d : Option Word)

theorem applyEndPart_flags (p : EndPart) (s : State) : FlagsGrow s (s.applyEndPart t o d p) := by
  cases p with
  | complete => exact completeAll_flags s _ o d
  | fault => exact effectClosed_flags.offerTo s _ (.pathFault .timeout t.number t.addr) nofun
  | drain => exact gateEndDrain_flags s
  | meet m => exact momentClosed_flags.takeMeeting m s

/-- What every part keeps, the parts keep, whatever is left due. -/
theorem takeEndParts_of_parts {R : State → State → Prop} (refl : ∀ s, R s s) (trans : ∀ {s t u}, R s t → R t u → R s u)
    {l : List EndPart} (hp : ∀ p ∈ l, ∀ s, R s (s.applyEndPart t o d p)) (s : State) : R s (takeEndParts t o d l s) := by
  induction l generalizing s with
  | nil => exact refl s
  | cons p ps ih =>
    have rest := trans (hp p List.mem_cons_self s) (ih (fun q hq => hp q (List.mem_cons_of_mem p hq)) (s.applyEndPart t o d p))
    cases p with
    | complete | fault | meet m => exact rest
    | drain =>
      cases ps with
      | nil => exact refl s
      | cons q qs => exact rest

theorem raceEndParts_of_parts {R : State → State → Prop} (refl : ∀ s, R s s) (trans : ∀ {s t u}, R s t → R t u → R s u)
    (draw : ∀ s : State, R s { s with draw := s.draw + 1 }) {l : List EndPart} (hp : ∀ p ∈ l, ∀ s, R s (s.applyEndPart t o d p))
    (s : State) : R s (s.raceEndParts t o d l) :=
  trans (draw s) (takeEndParts_of_parts t o d refl trans (fun p h => hp p ((mem_orderParts _ _ _ _).mp h)) _)

theorem raceEndParts_flags (l : List EndPart) (s : State) : FlagsGrow s (s.raceEndParts t o d l) :=
  raceEndParts_of_parts t o d effectClosed_flags.refl effectClosed_flags.trans effectClosed_flags.draw
    (fun p _ s => applyEndPart_flags t o d p s) s

/-- `t` differs from `s` at most in the gate, the records, the alert controller and the draw. -/
def QuietFrame (s t : State) : Prop :=
  ∃ (g : Gate) (q : Vector Queue 4) (k : Nat) (l : Alert) (n : Nat),
    t = { s with gate := g, queues := q, nextSerial := k, alert := l, draw := n }

theorem QuietFrame.refl (s : State) : QuietFrame s s := ⟨_, _, _, _, _, rfl⟩

theorem QuietFrame.trans {s t u : State} (h : QuietFrame s t) (h' : QuietFrame t u) : QuietFrame s u := by
  obtain ⟨_, _, _, _, _, rfl⟩ := h
  obtain ⟨_, _, _, _, _, rfl⟩ := h'
  exact ⟨_, _, _, _, _, rfl⟩

theorem QuietFrame.of_gate {s t : State} (h : GateFrame s t) : QuietFrame s t := by
  obtain ⟨_, _, _, _, rfl⟩ := h
  exact ⟨_, _, _, _, _, rfl⟩

theorem QuietFrame.blocks {s t : State} (h : QuietFrame s t) :
    t.rules = s.rules ∧ t.timers = s.timers ∧ t.inputs = s.inputs ∧ t.timebase = s.timebase ∧ t.pins = s.pins := by
  obtain ⟨_, _, _, _, _, rfl⟩ := h
  exact ⟨rfl, rfl, rfl, rfl, rfl⟩

/-- With nothing named to meet them, the parts touch the gate and the records alone. -/
theorem raceEndParts_quiet {l : List EndPart} (hm : ∀ m, .meet m ∉ l) (s : State) : QuietFrame s (s.raceEndParts t o d l) :=
  raceEndParts_of_parts t o d .refl .trans (fun _ => ⟨_, _, _, _, _, rfl⟩) (fun p hp s => by
    cases p with
    | complete => exact .of_gate (.of_records (completeAll_frame s _ o d))
    | fault => exact .of_gate (.of_records (offerTo_frame s _ _))
    | drain => exact .of_gate (gateEndDrain_gateFrame s)
    | meet m => exact absurd hp (hm m)) s

theorem raceEndParts_gate {l : List EndPart} (hd : .drain ∉ l) (hm : ∀ m, .meet m ∉ l) (s : State) :
    (s.raceEndParts t o d l).gate = s.gate :=
  raceEndParts_of_parts t o d (R := fun s u => u.gate = s.gate) (fun _ => rfl) (fun h h' => h'.trans h) (fun _ => rfl) (fun p hp s => by
    cases p with
    | complete => exact (completeAll_frame s _ o d).gate
    | fault => exact offerTo_gate s _ _
    | drain => exact absurd hp hd
    | meet m => exact absurd hp (hm m)) s

theorem drainPart_of_not_draining {s : State} (h : s.gate.state ≠ .draining) : s.drainPart = [] := by simp [drainPart, Gate.drainDue, h]

theorem endMeetings_of_not_draining {s : State} (h : s.gate.state ≠ .draining) : s.endMeetings t = [] := by
  simp [endMeetings, drainPart_of_not_draining h]

/-- Nothing named to fall at the end of the forward. -/
theorem endMeetings_of_none {t : Txn} (h : afterDeciding t.between = []) (s : State) : s.endMeetings t = [] := by
  have none : t.between.filterMap atEnd? = [] := List.filterMap_eq_nil_iff.mpr fun b hb => by
    have := List.filter_eq_nil_iff.mp h b hb
    simpa using this
  simp [endMeetings, none]

theorem not_mem_drainPart (s : State) (m : Meeting) : .meet m ∉ s.drainPart := by
  unfold drainPart
  split <;> simp

theorem not_mem_faultPart (s : State) {p : EndPart} (hp : p ≠ .fault) : p ∉ s.faultPart := by
  unfold faultPart
  split <;> simp [hp]

end State

/-! ### FORWARD_COMPLETE (R63, R64, R74) -/

namespace State

/-- The state in which the parts at the end of a forward are taken. -/
def forwardDone (t : Txn) (c : Completion) (s : State) : State := ({ s with path := s.path.accessDone }.flagMemErr c).gateToldEnd t

/-- The outcome and the word that the completion gives the records, and the answer that it gives. -/
def outcomeOf (c : Completion) (s : State) : TxnOutcome := s.endOutcome (match c with | .ok _ => .completed | .memErr => .memoryError)
def wordOf (c : Completion) : Option Word := match c with | .ok w => some w | .memErr => none
def answerOf (t : Txn) (c : Completion) (s : State) : Option Answer := s.endAnswer (match c with
  | .ok w => (match t.kind with | .read => .doneData w | .write => .done)
  | .memErr => .error)

theorem forwardEnds_eq (t : Txn) (c : Completion) (s : State) : s.forwardEnds t c =
    ((s.forwardDone t c).raceEndParts t (s.outcomeOf c) (wordOf c)
      (.complete :: ((s.forwardDone t c).drainPart ++ (s.forwardDone t c).endMeetings t))).finishTxn (s.answerOf t c) := rfl

variable (t : Txn) (c : Completion) (s : State)

theorem gateToldEnd_gate : (s.gateToldEnd t).gate = { s.gate with inFlight := if t.kind = .write then false else s.gate.inFlight } := by
  unfold gateToldEnd
  split <;> rfl

theorem flagMemErr_frame : RecordFrame s (s.flagMemErr c) := by
  cases c with
  | ok w => exact .refl s
  | memErr => exact setFlag_frame s _

theorem gateToldEnd_gateFrame : GateFrame s (s.gateToldEnd t) := by
  unfold gateToldEnd
  split
  · exact .gate s _
  · exact .refl s

theorem forwardDone_frame : GateFrame { s with path := s.path.accessDone } (s.forwardDone t c) :=
  (GateFrame.of_records (flagMemErr_frame c _)).trans (gateToldEnd_gateFrame t _)

theorem forwardDone_gate : (s.forwardDone t c).gate =
    { s.gate with inFlight := if t.kind = .write then false else s.gate.inFlight } := by
  rw [forwardDone, gateToldEnd_gate, (flagMemErr_frame c _).gate]

theorem forwardDone_queue (n : Fin 4) : (s.forwardDone t c).queue n = s.queue n := by
  have told : (s.forwardDone t c).queues = ({ s with path := s.path.accessDone }.flagMemErr c).queues := gateToldEnd_queues t _
  rw [queue_congr told]
  cases c <;> rfl

theorem forwardDone_memErr : (s.forwardDone t .memErr).alert.flagSet .path = true := by
  have told : ∀ u : State, (u.gateToldEnd t).alert = u.alert := fun u => by
    unfold gateToldEnd
    split <;> rfl
  rw [forwardDone, told]
  exact flagSet_setFlag_self { s with path := s.path.accessDone } .path

/-- With no drain to end, no end of a drain is among the parts. -/
theorem drain_not_mem_forward {s : State} (h : s.gate.state ≠ .draining) :
    .drain ∉ EndPart.complete :: ((s.forwardDone t c).drainPart ++ (s.forwardDone t c).endMeetings t) := by
  have state : (s.forwardDone t c).gate.state ≠ .draining := by
    rw [forwardDone_gate]
    exact h
  simp [drainPart_of_not_draining state, endMeetings_of_not_draining t state]

/-- With no drain to end, or nothing named to fall there, nothing meets the parts. -/
theorem meet_not_mem_forward {t : Txn} {s : State} (h : s.gate.state ≠ .draining ∨ afterDeciding t.between = []) (m : Meeting) :
    .meet m ∉ EndPart.complete :: ((s.forwardDone t c).drainPart ++ (s.forwardDone t c).endMeetings t) := by
  have meetings : (s.forwardDone t c).endMeetings t = [] := h.elim (fun hg => endMeetings_of_not_draining t (by
    rw [forwardDone_gate]
    exact hg)) fun hb => endMeetings_of_none hb _
  rw [meetings, List.append_nil]
  exact fun hm => not_mem_drainPart _ m ((List.mem_cons.mp hm).resolve_left nofun)

/-- With no drain to end the records complete, and that is all. -/
theorem forwardEnds_of_not_draining {s : State} (h : s.gate.state ≠ .draining) : s.forwardEnds t c =
    (({ s.forwardDone t c with draw := (s.forwardDone t c).draw + 1 } : State).completeAll (s.forwardDone t c).availCounts (s.outcomeOf c)
      (wordOf c)).finishTxn (s.answerOf t c) := by
  have state : (s.forwardDone t c).gate.state ≠ .draining := by
    rw [forwardDone_gate]
    exact h
  rw [forwardEnds_eq, drainPart_of_not_draining state, endMeetings_of_not_draining t state]
  rfl

end State

/-- Settles O14: the parts leave the path, the frame of the parts leaves the other blocks. -/
theorem forwardCompletionEndsTheTransaction : Obligations.ForwardCompletionEndsTheTransaction := by
  intro s x c hpow hphase htxn
  let u := s.forwardDone x c
  let l : List State.EndPart := .complete :: (u.drainPart ++ u.endMeetings x)
  have frame := State.forwardDone_frame x c s
  have moments := State.raceEndParts_momentFrame x (s.outcomeOf c) (State.wordOf c) l u
  have marker : (u.raceEndParts x (s.outcomeOf c) (State.wordOf c) l).gate.inFlight = u.gate.inFlight := State.takeEndParts_inFlight ..
  have inFlight : u.gate.inFlight = if x.kind = .write then false else s.gate.inFlight :=
    congrArg Gate.inFlight (State.forwardDone_gate x c s)
  have pending : (u.raceEndParts x (s.outcomeOf c) (State.wordOf c) l).NonePending :=
    State.takeEndParts_nonePending x _ _ _ _ (.inl ((mem_orderParts _ _ _ _).mpr List.mem_cons_self))
  have flags := State.raceEndParts_flags x (s.outcomeOf c) (State.wordOf c) l u
  have gate : s.gate.state ≠ .draining → (u.raceEndParts x (s.outcomeOf c) (State.wordOf c) l).gate = u.gate := fun hg =>
    State.raceEndParts_gate x _ _ (State.drain_not_mem_forward x c hg) (State.meet_not_mem_forward c (.inl hg)) u
  have quiet : s.gate.state ≠ .draining ∨ afterDeciding x.between = [] →
      State.QuietFrame u (u.raceEndParts x (s.outcomeOf c) (State.wordOf c) l) := fun hq =>
    State.raceEndParts_quiet x _ _ (State.meet_not_mem_forward c hq) u
  rw [exec_forwardComplete_of_forward hpow hphase htxn c, State.forwardEnds_eq]
  generalize u.raceEndParts x (s.outcomeOf c) (State.wordOf c) l = v at moments marker pending flags gate quiet
  refine ⟨_, rfl, ?_, fun hk => marker.trans (inFlight.trans (if_pos hk)),
    fun hk => marker.trans (inFlight.trans (if_neg (by rw [hk]; exact nofun))),
    fun hg => (gate hg).trans (State.forwardDone_gate x c s), pending, fun he => ?_, fun hq => ?_, moments.link.trans frame.link,
    moments.store.trans frame.store, moments.defaultActions.trans frame.defaultActions, moments.unmatched.trans frame.unmatched,
    moments.copy.trans frame.copy⟩
  · have path : v.path.finish (s.answerOf x c) = s.path.accessDone.finish (s.answerOf x c) :=
      congrArg (Path.finish (s.answerOf x c)) (moments.path.trans frame.path)
    rw [State.endCommand_path, State.finishTxn_path, path]
    cases c <;> rfl
  · subst he
    exact (State.endCommand_flagSet _ _ _).trans (flags _ (State.forwardDone_memErr x s))
  · obtain ⟨hr, ht, hi, hb, hp⟩ := (quiet hq).blocks
    exact ⟨hr.trans frame.rules, ht.trans frame.timers, hi.trans frame.inputs, hb.trans frame.timebase, hp.trans frame.pins⟩

/-! ### The second expiry (R67) -/

theorem exec_secondLimitExpiry {s : State} (hpow : s.powered = true) (hport : s.path.port = .late) :
    exec .secondLimitExpiry s = .next (s.endCommand s.secondLimitExpires) := by
  have row : exec .secondLimitExpiry s = execSecondLimitExpiry s := rfl
  rw [row, execSecondLimitExpiry, whenPowered_on hpow]
  simp only [hport]

/-- Settles O17. -/
theorem portLeavesLateByExpiryOrStray : Obligations.PortLeavesLateByExpiryOrStray := by
  refine fun s hpow hport => ⟨fun x hx => ?_, fun c => ?_⟩
  · let u : State := { s with path := s.path.leave .down }.setFlag .path
    let b : RecordBody := .pathFault .downEntered x.1 x.2
    have ends : s.secondLimitExpires = u.offerTo s.path.recordQueue b := by
      rw [State.secondLimitExpires, hx]
      rfl
    have frame := State.offerTo_frame u s.path.recordQueue b
    have offered := State.offerTo_offered u s.path.recordQueue b
    refine ⟨_, exec_secondLimitExpiry hpow hport, ?_⟩
    rw [ends]
    refine ⟨frame.path, ?_, offered.absent, fun n hq hon hroom => offered.list hq hon hroom, frame.gate, frame.rules, frame.timers,
      frame.inputs, frame.link, frame.store⟩
    exact (State.endCommand_flagSet _ _ _).trans
      (State.effectClosed_flags.offerTo u _ b nofun _ (State.flagSet_setFlag_self { s with path := s.path.leave .down } .path))
  · have row : exec (.strayCompletion c) s = execStrayCompletion c s := rfl
    rw [row, execStrayCompletion, whenPowered_on hpow]
    simp only [hport]
    rfl

end Sys2Proof.Machine
end

section
/-! The records at the end of a forward (R49, R91), and the expiry of the response limit (R65, R66, R71, R72). -/

namespace Sys2Proof.Machine

namespace State

/-! ### Completion -/

/-- A COMPLETE record stays as it is. -/
theorem completeRecord_done {r : Record} (h : r.isPending = false) (o : TxnOutcome) (d : Option Word) : completeRecord o d r = r := by
  unfold completeRecord
  split
  next a hb =>
    have done : a.outcome.isNone = false := by simpa [Record.isPending, hb] using h
    rw [done]
    rfl
  · rfl

theorem completeRecord_pending {r : Record} {a : AccessRecord} (hb : r.body = .access a) (ha : a.outcome = none) (o : TxnOutcome)
    (d : Option Word) : completeRecord o d r = { r with body := .access { a with
      outcome := some o
      data := if a.kind = .read ∧ a.content = .withData ∧ (o = .completed ∨ o = .discarded) then d else a.data } } := by
  unfold completeRecord
  simp only [hb, ha, Option.isNone_none, if_true]

@[simp] theorem completeRecord_timestamp (o : TxnOutcome) (d : Option Word) (r : Record) :
    (completeRecord o d r).timestamp = r.timestamp := by
  unfold completeRecord
  split
  · split <;> rfl
  · rfl

@[simp] theorem completeAll_nextSerial (s : State) (before : Vector Nat 4) (o : TxnOutcome) (d : Option Word) :
    (s.completeAll before o d).nextSerial = s.nextSerial :=
  (foldl_frame (R := fun s u => u.nextSerial = s.nextSerial) (fun _ => rfl) (fun h h' => h'.trans h)
    (fun s n => judgeNotify_nextSerial s n _) _ _).trans (mapQueues_nextSerial s _)

/-- The record that the expiry of the limit offers (R71). -/
def limitRecord (t : Txn) : RecordBody := .pathFault .timeout t.number t.addr

theorem completeRecord_limitRecord (o : TxnOutcome) (d : Option Word) (k : Nat) (w : Word) (t : Txn) :
    completeRecord o d ⟨k, w, limitRecord t⟩ = ⟨k, w, limitRecord t⟩ := rfl

variable (t : Txn) (o : TxnOutcome) (d : Option Word)

/-- The completion and the TIMEOUT record, in either order: a queue that takes the record has it behind the completed ones. -/
theorem queue_complete_fault {s : State} {n : Fin 4}
    (h : s.path.recordQueue ≠ some n ∨ (s.queue n).on = true ∧ (s.queue n).list.length < (s.queue n).depth) :
    let done := (s.queue n).list.map (completeRecord o d) ++
      (if s.path.recordQueue = some n then [⟨s.nextSerial, s.timebase.timestamp, limitRecord t⟩] else [])
    (((s.applyEndPart t o d .complete).applyEndPart t o d .fault).queue n).list = done ∧
      (((s.applyEndPart t o d .fault).applyEndPart t o d .complete).queue n).list = done := by
  intro done
  let u := s.completeAll s.availCounts o d
  let v := s.offerTo s.path.recordQueue (limitRecord t)
  have queue : u.queue n = { s.queue n with list := (s.queue n).list.map (completeRecord o d) } := completeAll_queue s _ o d n
  have frame : RecordFrame s u := completeAll_frame s _ o d
  have queue' : (v.completeAll v.availCounts o d).queue n = { v.queue n with list := (v.queue n).list.map (completeRecord o d) } :=
    completeAll_queue v _ o d n
  have after : (s.applyEndPart t o d .complete).applyEndPart t o d .fault = u.offerTo s.path.recordQueue (limitRecord t) := by
    change u.offerTo u.path.recordQueue (limitRecord t) = _
    rw [frame.path]
  have before : (s.applyEndPart t o d .fault).applyEndPart t o d .complete = v.completeAll v.availCounts o d := rfl
  have offered := offerTo_offered u s.path.recordQueue (limitRecord t)
  have offered' := offerTo_offered s s.path.recordQueue (limitRecord t)
  rw [after, before, queue']
  by_cases hq : s.path.recordQueue = some n
  · obtain ⟨hon, hroom⟩ := h.resolve_left (not_not.mpr hq)
    have room : (u.queue n).list.length < (u.queue n).depth := by
      rw [queue]
      simpa [Queue.depth] using hroom
    have stamp : u.timebase.timestamp = s.timebase.timestamp := congrArg Timebase.timestamp frame.timebase
    refine ⟨(offered.list hq (by rw [queue]; exact hon) room).trans ?_, ?_⟩
    · simp only [done, hq, if_true, queue, stamp]
      rw [completeAll_nextSerial]
    · have list := offered'.list hq hon hroom
      simp only [done, hq, if_true]
      change List.map _ (v.queue n).list = _
      rw [list, List.map_append, List.map_singleton, completeRecord_limitRecord]
  · have others : ∀ w : State, (w.offerTo s.path.recordQueue (limitRecord t)).queue n = w.queue n := fun w => by
      cases hr : s.path.recordQueue with
      | none => rfl
      | some m => exact offer_queue_ne (fun e => hq (by rw [hr, e])) _
    refine ⟨?_, ?_⟩
    · rw [others, queue]
      simp only [done, hq, if_false, List.append_nil]
    · simp only [v, done, others, hq, if_false, List.append_nil]

/-- Two parts alone come in one of two orders. -/
theorem orderParts_pair {α : Type} (key : Nat → Nat) (n : Nat) (x y : α) :
    orderParts key n [x, y] = [x, y] ∨ orderParts key n [x, y] = [y, x] := by
  have two : key n % ([y].length + 1) = 0 ∨ key n % ([y].length + 1) = 1 := by
    simp only [List.length_singleton]
    omega
  have pair : orderParts key n [x, y] = insertAt x [y] (key n % ([y].length + 1)) := rfl
  rw [pair]
  exact two.imp (fun h => by rw [h]; rfl) (fun h => by rw [h]; rfl)

/-- What a list of records becomes at the end of a forward. -/
theorem completed_getElem? {l : List Record} {i : Nat} {r : Record} (h : l[i]? = some r) (l' : List Record) :
    (l.map (completeRecord o d) ++ l')[i]? = some (completeRecord o d r) := by
  obtain ⟨hi, -⟩ := List.getElem?_eq_some_iff.mp h
  rw [List.getElem?_append_left (by simpa using hi), List.getElem?_map, h]
  rfl

end State

/-! ### The records of a forward that completes -/

theorem State.forwardEnds_queue {s : State} (h : s.gate.state ≠ .draining) (t : Txn) (c : Completion) (n : Fin 4) :
    (s.forwardEnds t c).queue n =
      { s.queue n with list := (s.queue n).list.map (State.completeRecord (s.outcomeOf c) (State.wordOf c)) } := by
  have queue := State.completeAll_queue { s.forwardDone t c with draw := (s.forwardDone t c).draw + 1 }
    (s.forwardDone t c).availCounts (s.outcomeOf c) (State.wordOf c) n
  have same : ({ s.forwardDone t c with draw := (s.forwardDone t c).draw + 1 } : State).queue n = s.queue n :=
    State.forwardDone_queue t c s n
  rw [same] at queue
  rw [State.forwardEnds_of_not_draining t c h]
  exact queue

/-- The second half of R91 as the statement about records has it. -/
theorem forwardComplete_records (s : State) (x : Txn) (c : Completion) (hpow : s.powered = true) (hphase : s.path.phase = .forward)
    (htxn : s.path.txn = some x) (hg : s.gate.state ≠ .draining) :
    let o : TxnOutcome := if s.path.abandoned then .abandoned else match c with
      | .ok _ => .completed
      | .memErr => .memoryError
    ∃ t, exec (.forwardComplete c) s = .next t ∧ ∀ n : Fin 4,
      (t.queue n).list.length = (s.queue n).list.length ∧
      (t.queue n).loss = (s.queue n).loss ∧ (t.queue n).on = (s.queue n).on ∧ (t.queue n).config = (s.queue n).config ∧
      ∀ (i : Nat) (r : Record), (s.queue n).list[i]? = some r →
        (r.isPending = false → (t.queue n).list[i]? = some r) ∧
        ∀ a : AccessRecord, r.body = .access a → a.outcome = none →
          (t.queue n).list[i]? = some { r with body := .access { a with
            outcome := some o
            data := if a.kind = .read ∧ a.content = .withData ∧ o = .completed then
                (match c with | .ok w => some w | .memErr => none)
              else a.data } } := by
  intro o
  have outcome : s.outcomeOf c = o := rfl
  have other : o ≠ .discarded := by
    simp only [o]
    split
    · exact nofun
    · cases c <;> exact nofun
  refine ⟨_, exec_forwardComplete_of_forward hpow hphase htxn c, fun n => ?_⟩
  have queue : (s.endCommand (s.forwardEnds x c)).queue n = _ := State.forwardEnds_queue hg x c n
  rw [queue, outcome]
  refine ⟨List.length_map _, rfl, rfl, rfl, fun i r hr => ?_⟩
  have found := State.completed_getElem? o (State.wordOf c) hr []
  rw [List.append_nil] at found
  refine ⟨fun hd => ?_, fun a hb ha => ?_⟩
  · rwa [State.completeRecord_done hd] at found
  · rw [State.completeRecord_pending hb ha] at found
    simp only [other, or_false] at found
    exact found

/-! ### RESPONSE_LIMIT_EXPIRY (R66) -/

namespace State

/-- The state in which the parts at the expiry of the limit are taken, and these parts. -/
def limitDone (t : Txn) (s : State) : State :=
  if s.path.phase == .forward then ({ s with path := s.path.late t }.setFlag .path).gateToldEnd t
  else { s with path := s.path.late t }.setFlag .path
def limitParts (t : Txn) (s : State) : List EndPart :=
  if s.path.phase == .forward then
    .complete :: ((s.limitDone t).faultPart ++ (s.limitDone t).drainPart ++ (s.limitDone t).endMeetings t)
  else (s.limitDone t).faultPart

theorem limitExpires_eq (t : Txn) (s : State) : s.limitExpires t =
    ((s.limitDone t).raceEndParts t (s.endOutcome .timeout) none (s.limitParts t)).finishTxn (s.endAnswer .error) := rfl

variable (t : Txn) (s : State)

theorem limitDone_frame : GateFrame { s with path := s.path.late t } (s.limitDone t) := by
  have flagged : GateFrame { s with path := s.path.late t } ({ s with path := s.path.late t }.setFlag .path) :=
    .of_records (setFlag_frame _ _)
  unfold limitDone
  split
  · exact flagged.trans (gateToldEnd_gateFrame t _)
  · exact flagged

theorem limitDone_recordQueue : (s.limitDone t).path.recordQueue = s.path.recordQueue :=
  (congrArg Path.recordQueue (limitDone_frame t s).path).trans rfl

theorem limitDone_gate : (s.limitDone t).gate =
    { s.gate with inFlight := if s.path.phase = .forward ∧ t.kind = .write then false else s.gate.inFlight } := by
  unfold limitDone
  by_cases h : s.path.phase = .forward
  · rw [if_pos (by simp [h]), gateToldEnd_gate]
    simp [h]
  · rw [if_neg (by simp [h])]
    simp [h]

theorem limitDone_records : (s.limitDone t).queues = s.queues ∧ (s.limitDone t).nextSerial = s.nextSerial ∧
    (s.limitDone t).alert.flagSet .path = true := by
  have told : ∀ u : State, (u.gateToldEnd t).queues = u.queues ∧ (u.gateToldEnd t).nextSerial = u.nextSerial ∧
      (u.gateToldEnd t).alert = u.alert := fun u => by
    unfold gateToldEnd
    split <;> exact ⟨rfl, rfl, rfl⟩
  have flag := flagSet_setFlag_self { s with path := s.path.late t } .path
  unfold limitDone
  split
  · obtain ⟨hq, hk, ha⟩ := told ({ s with path := s.path.late t }.setFlag .path)
    exact ⟨hq, hk, (congrArg (fun a : Alert => a.flagSet .path) ha).trans flag⟩
  · exact ⟨rfl, rfl, flag⟩

theorem drain_not_mem_limitParts {s : State} (h : s.gate.state ≠ .draining) : .drain ∉ s.limitParts t := by
  have state : (s.limitDone t).gate.state ≠ .draining := by
    rw [limitDone_gate]
    exact h
  have fault := not_mem_faultPart (s.limitDone t) (p := .drain) nofun
  unfold limitParts
  split
  · simp [drainPart_of_not_draining state, endMeetings_of_not_draining t state, fault]
  · exact fault

theorem meet_mem_limitParts {m : Meeting} (h : .meet m ∈ s.limitParts t) : .meet m ∈ (s.limitDone t).endMeetings t := by
  have fault := not_mem_faultPart (s.limitDone t) (p := .meet m) nofun
  have drain := not_mem_drainPart (s.limitDone t) m
  unfold limitParts at h
  split at h
  · simpa [fault, drain] using h
  · exact absurd h fault

theorem meet_not_mem_limitParts {t : Txn} {s : State} (h : s.gate.state ≠ .draining ∨ afterDeciding t.between = []) (m : Meeting) :
    .meet m ∉ s.limitParts t := by
  have meetings : (s.limitDone t).endMeetings t = [] := h.elim (fun hg => endMeetings_of_not_draining t (by
    rw [limitDone_gate]
    exact hg)) fun hb => endMeetings_of_none hb _
  intro hm
  have := meet_mem_limitParts t s hm
  rw [meetings] at this
  exact absurd this nofun

theorem faultPart_eq : s.faultPart = if s.path.recordQueue.isSome then [.fault] else [] := rfl

/-- The parts of an expiry in FORWARD with no drain to end. -/
theorem limitParts_forward {s : State} (hf : s.path.phase = .forward) (hg : s.gate.state ≠ .draining) :
    s.limitParts t = .complete :: (s.limitDone t).faultPart := by
  have state : (s.limitDone t).gate.state ≠ .draining := by
    rw [limitDone_gate]
    exact hg
  unfold limitParts
  rw [if_pos (by simp [hf]), drainPart_of_not_draining state, endMeetings_of_not_draining t state, List.append_nil, List.append_nil]

/-- The parts of an expiry outside FORWARD. -/
theorem limitParts_other {s : State} (hf : s.path.phase ≠ .forward) : s.limitParts t = (s.limitDone t).faultPart :=
  if_neg (by simp [hf])

/-- The queues after an expiry in FORWARD with no drain to end. -/
theorem limitExpires_list {s : State} (hf : s.path.phase = .forward) (hg : s.gate.state ≠ .draining) {n : Fin 4}
    (h : s.path.recordQueue ≠ some n ∨ (s.queue n).on = true ∧ (s.queue n).list.length < (s.queue n).depth) :
    ((s.limitExpires t).queue n).list = (s.queue n).list.map (completeRecord (s.endOutcome .timeout) none) ++
      (if s.path.recordQueue = some n then [⟨s.nextSerial, s.timebase.timestamp, limitRecord t⟩] else []) := by
  obtain ⟨queues, serial, -⟩ := limitDone_records t s
  have frame := limitDone_frame t s
  let u : State := { s.limitDone t with draw := (s.limitDone t).draw + 1 }
  have queue : u.queue n = s.queue n := queue_congr queues n
  have path : u.path.recordQueue = s.path.recordQueue := limitDone_recordQueue t s
  have stamp : u.timebase.timestamp = s.timebase.timestamp := congrArg Timebase.timestamp frame.timebase
  have number : u.nextSerial = s.nextSerial := serial
  obtain ⟨first, last⟩ := queue_complete_fault t (s.endOutcome .timeout) none (s := u) (n := n) (by rwa [path, queue])
  simp only [queue, path, stamp, number] at first last
  have ended : ∀ l, orderParts (Config.raceKey (s.limitDone t).draw) 0 (s.limitParts t) = l →
      (s.limitExpires t).queue n = (takeEndParts t (s.endOutcome .timeout) none l u).queue n := fun l hl => by
    rw [limitExpires_eq, raceEndParts, hl]
    rfl
  rw [limitParts_forward t hf hg, faultPart_eq, limitDone_recordQueue t s] at ended
  by_cases hq : s.path.recordQueue = none
  · rw [if_neg (by simp [hq])] at ended
    rw [ended [.complete] rfl]
    have done : (u.completeAll u.availCounts (s.endOutcome .timeout) none).queue n = _ := completeAll_queue u _ _ _ n
    simp only [takeEndParts, applyEndPart]
    rw [done, queue, hq]
    simp
  · rw [if_pos (Option.isSome_iff_ne_none.mpr hq)] at ended
    obtain e | e := orderParts_pair (Config.raceKey (s.limitDone t).draw) 0 EndPart.complete .fault
    · exact (congrArg Queue.list (ended _ e)).trans first
    · exact (congrArg Queue.list (ended _ e)).trans last

/-- The queues after an expiry in PREREAD. -/
theorem limitExpires_preread {s : State} (hf : s.path.phase ≠ .forward) :
    (s.path.recordQueue = none → (s.limitExpires t).queues = s.queues) ∧
    ∀ n, s.path.recordQueue = some n → (s.queue n).on = true → (s.queue n).list.length < (s.queue n).depth →
      ((s.limitExpires t).queue n).list = (s.queue n).list ++ [⟨s.nextSerial, s.timebase.timestamp, limitRecord t⟩] := by
  obtain ⟨queues, serial, -⟩ := limitDone_records t s
  have frame := limitDone_frame t s
  have path := limitDone_recordQueue t s
  let u : State := { s.limitDone t with draw := (s.limitDone t).draw + 1 }
  have parts : s.limitParts t = if s.path.recordQueue.isSome then [.fault] else [] := by
    rw [limitParts_other t hf, faultPart_eq, path]
  rw [limitExpires_eq, parts]
  refine ⟨fun hq => ?_, fun n hq hon hroom => ?_⟩
  · rw [hq]
    exact queues
  · have queue : u.queue n = s.queue n := queue_congr queues n
    have taken : (s.limitDone t).raceEndParts t (s.endOutcome .timeout) none [.fault] =
        u.offerTo u.path.recordQueue (limitRecord t) := rfl
    have placed := (offerTo_offered u u.path.recordQueue (limitRecord t)).list (n := n) (path.trans hq) (by rw [queue]; exact hon)
      (by rw [queue]; exact hroom)
    rw [hq, Option.isSome_some, if_pos rfl, taken]
    refine placed.trans ?_
    rw [queue]
    exact congrArg₂ (fun k w => (s.queue n).list ++ [⟨k, w, limitRecord t⟩]) serial (congrArg Timebase.timestamp frame.timebase)

end State

end Sys2Proof.Machine
end

section
/-! The expiry of the response limit (R65, R66, R71, R72), with the timestamps of what it places when a tick falls among it (R106). -/

namespace Sys2Proof.Machine

namespace State

variable {w : Word} {S : Word → Prop} {L : Fin 4 → List Record}

/-- A tick, whatever else is due, moves the counter by at most one, and what is placed at it carries one of the two values. -/
theorem takeMeeting_tick_stamped (hw : S w) (hw' : S (w + 1)) {s : State} (h : Stamped w S L s) :
    Stamped w S L (s.takeMeeting .tick) ∨ Stamped (w + 1) S L (s.takeMeeting .tick) := by
  have before := tickClosed_stamped (L := L) hw
  have after := tickClosed_stamped (L := L) hw'
  let u : State := { s with alert := s.alert.commandEnds .unplaced }
  have begun : Stamped w S L u := before.ends s _ h
  have settled := before.settleOwed u begun
  have ticked : Stamped (w + 1) S L u.takeTick :=
    after.endCommand _ _ (after.handOutTick _ nofun ⟨congrArg (· + 1) settled.1, settled.2⟩)
  have ran : Stamped w S L u.tickIfRunning ∨ Stamped (w + 1) S L u.tickIfRunning := by
    unfold tickIfRunning
    split
    · exact .inr ticked
    · exact .inl begun
  change Stamped w S L (u.onPower tickIfRunning) ∨ Stamped (w + 1) S L (u.onPower tickIfRunning)
  unfold onPower
  split
  · exact ran
  · exact .inl begun

/-- The lists may be completed in their places. -/
theorem Stamped.completeAll {o : TxnOutcome} {d : Option Word} (hL : ∀ n, ∀ r ∈ L n, completeRecord o d r ∈ L n) {s : State}
    (h : Stamped w S L s) (before : Vector Nat 4) : Stamped w S L (s.completeAll before o d) := by
  refine ⟨(congrArg Timebase.timestamp (completeAll_frame s before o d).timebase).trans h.1, fun n r hr => ?_⟩
  rw [completeAll_queue] at hr
  obtain ⟨x, hx, rfl⟩ := List.mem_map.mp hr
  exact (h.2 n x hx).imp (hL n x) fun hx => by rwa [completeRecord_timestamp]

theorem gateClosed_stamped (hw : S w) : GateClosed (Keeps (Stamped w S L)) :=
  { tickClosed_stamped hw with gate := fun _ _ _ => .of_same rfl rfl }

theorem takeEndParts_stamped {o : TxnOutcome} {d : Option Word} (hL : ∀ n, ∀ r ∈ L n, completeRecord o d r ∈ L n) (t : Txn)
    (hw : S w) (hw' : S (w + 1)) (l : List EndPart) (hl : ∀ m, .meet m ∈ l → m = .tick) {v : Word}
    (hv : v = w ∧ l.count (.meet .tick) ≤ 1 ∨ v = w + 1 ∧ l.count (.meet .tick) = 0) {s : State} (h : Stamped v S L s) :
    ∃ v, Stamped v S L (takeEndParts t o d l s) := by
  have hS : S v := by
    obtain ⟨rfl, -⟩ | ⟨rfl, -⟩ := hv
    · exact hw
    · exact hw'
  have gates := gateClosed_stamped (L := L) hS
  induction l generalizing s v with
  | nil => exact ⟨v, h⟩
  | cons p ps ih =>
    have rest := fun m hm => hl m (List.mem_cons_of_mem p hm)
    have fewer : ∀ p : EndPart, p ≠ .meet .tick → v = w ∧ (p :: ps).count (.meet .tick) ≤ 1 ∨
        v = w + 1 ∧ (p :: ps).count (.meet .tick) = 0 → v = w ∧ ps.count (.meet .tick) ≤ 1 ∨ v = w + 1 ∧ ps.count (.meet .tick) = 0 :=
      fun p hp hv => by rwa [List.count_cons_of_ne hp] at hv
    cases p with
    | complete => exact ih rest (fewer .complete nofun hv) (h.completeAll hL s.availCounts) hS gates
    | fault => exact ih rest (fewer .fault nofun hv) (gates.offerTo s s.path.recordQueue (limitRecord t) nofun h) hS gates
    | drain =>
      cases ps with
      | nil => exact ⟨v, h⟩
      | cons q qs => exact ih rest (fewer .drain nofun hv) (gates.endDrain s h) hS gates
    | meet m =>
      obtain rfl := hl m List.mem_cons_self
      rw [List.count_cons_self] at hv
      obtain ⟨rfl, hc⟩ := hv.resolve_right fun hv => by omega
      have none : ps.count (.meet .tick) = 0 := by omega
      obtain met | met := takeMeeting_tick_stamped hw hw' h
      · exact ih rest (.inl ⟨rfl, by omega⟩) met hS gates
      · exact ih rest (.inr ⟨rfl, none⟩) met hw' (gateClosed_stamped hw')

/-- The records of a state and what they become complete. -/
def completedOr (o : TxnOutcome) (d : Option Word) (s : State) (n : Fin 4) : List Record :=
  (s.queue n).list ++ (s.queue n).list.map (completeRecord o d)

theorem completeRecord_mem_completedOr {o : TxnOutcome} {d : Option Word} {s : State} {n : Fin 4} {r : Record}
    (h : r ∈ completedOr o d s n) : completeRecord o d r ∈ completedOr o d s n := by
  refine List.mem_append_right _ ?_
  obtain h | h := List.mem_append.mp h
  · exact List.mem_map_of_mem h
  · obtain ⟨x, hx, rfl⟩ := List.mem_map.mp h
    rw [completeRecord_done (completeRecord_isPending o d x)]
    exact List.mem_map_of_mem hx

theorem serial_of_mem_completedOr {o : TxnOutcome} {d : Option Word} {s : State} {n : Fin 4} {r : Record}
    (h : r ∈ completedOr o d s n) : ∃ y ∈ (s.queue n).list, y.serial = r.serial ∧ y.timestamp = r.timestamp := by
  obtain h | h := List.mem_append.mp h
  · exact ⟨r, h, rfl, rfl⟩
  · obtain ⟨x, hx, rfl⟩ := List.mem_map.mp h
    exact ⟨x, hx, by simp⟩

/-- One of two adjacent values of the counter. -/
def OneApart (w x : Word) : Prop := x = w ∨ x = w + 1

theorem limitExpires_stamped (t : Txn) (s : State) (hb : t.between = [.atEnd .tick]) (n : Fin 4) :
    ∀ r ∈ ((s.limitExpires t).queue n).list, (∃ y ∈ (s.queue n).list, y.serial = r.serial ∧ y.timestamp = r.timestamp) ∨
      OneApart s.timebase.timestamp r.timestamp := by
  obtain ⟨queues, -, -⟩ := limitDone_records t s
  let o := s.endOutcome .timeout
  let parts := orderParts (Config.raceKey (s.limitDone t).draw) 0 (s.limitParts t)
  have meetings : (s.limitDone t).endMeetings t = [] ∨ (s.limitDone t).endMeetings t = [.meet .tick] := by
    unfold endMeetings
    split
    · exact .inl rfl
    · rw [hb]
      exact .inr rfl
  have ticks : ∀ m, .meet m ∈ parts → m = .tick := fun m hm => by
    have named := meet_mem_limitParts t s ((mem_orderParts _ _ _ _).mp hm)
    obtain e | e := meetings
    · rw [e] at named
      exact absurd named nofun
    · rw [e] at named
      exact EndPart.meet.inj (List.mem_singleton.mp named)
  have once : parts.count (.meet .tick) ≤ 1 := by
    have fault : (s.limitDone t).faultPart.count (.meet .tick) = 0 :=
      List.count_eq_zero.mpr (not_mem_faultPart _ nofun)
    have drain : (s.limitDone t).drainPart.count (.meet .tick) = 0 := List.count_eq_zero.mpr (not_mem_drainPart _ _)
    rw [(orderParts_perm _ _ _).count_eq]
    unfold limitParts
    split
    · rw [List.count_cons_of_ne (a := EndPart.meet .tick) (b := EndPart.complete) (by exact nofun), List.count_append, List.count_append, fault, drain]
      obtain e | e := meetings <;> rw [e] <;> simp
    · rw [fault]
      exact Nat.zero_le _
  have start : Stamped s.timebase.timestamp (OneApart s.timebase.timestamp) (completedOr o none s)
      ({ s.limitDone t with draw := (s.limitDone t).draw + 1 } : State) := by
    refine ⟨congrArg Timebase.timestamp (limitDone_frame t s).timebase, fun n r hr => .inl ?_⟩
    have same : ({ s.limitDone t with draw := (s.limitDone t).draw + 1 } : State).queue n = s.queue n := queue_congr queues n
    rw [same] at hr
    exact List.mem_append_left _ hr
  obtain ⟨v, done⟩ := takeEndParts_stamped (o := o) (d := none) (fun _ _ => completeRecord_mem_completedOr) t (.inl rfl) (.inr rfl) parts
    ticks (.inl ⟨rfl, once⟩) start
  exact fun r hr => (done.2 n r hr).imp_left serial_of_mem_completedOr

end State

theorem exec_responseLimitExpiry {s : State} {x : Txn} (hpow : s.powered = true) (hport : s.path.port = .busy)
    (htxn : s.path.txn = some x) : exec .responseLimitExpiry s = .next (s.endCommand (s.limitExpires x)) := by
  have row : exec .responseLimitExpiry s = execResponseLimitExpiry s := rfl
  rw [row, execResponseLimitExpiry, whenPowered_on hpow]
  simp only [hport, htxn]

/-- Settles O16. -/
theorem limitExpiryTakesThePortToLate : Obligations.LimitExpiryTakesThePortToLate := by
  intro s x hpow hport htxn _
  let u := s.limitDone x
  let l := s.limitParts x
  have frame := State.limitDone_frame x s
  have gateDone := State.limitDone_gate x s
  obtain ⟨-, -, flag⟩ := State.limitDone_records x s
  have moments := State.raceEndParts_momentFrame x (s.endOutcome .timeout) none l u
  have marker : (u.raceEndParts x (s.endOutcome .timeout) none l).gate.inFlight = u.gate.inFlight := State.takeEndParts_inFlight ..
  have flags := State.raceEndParts_flags x (s.endOutcome .timeout) none l u
  have pending : s.path.phase = .forward → (u.raceEndParts x (s.endOutcome .timeout) none l).NonePending := fun hf => by
    have complete : .complete ∈ s.limitParts x := by
      rw [State.limitParts, if_pos (by simp [hf])]
      exact List.mem_cons_self
    exact State.takeEndParts_nonePending x _ _ _ _ (.inl ((mem_orderParts _ _ _ _).mpr complete))
  have gate : s.gate.state ≠ .draining → (u.raceEndParts x (s.endOutcome .timeout) none l).gate = u.gate := fun hg =>
    State.raceEndParts_gate x _ _ (State.drain_not_mem_limitParts x hg) (State.meet_not_mem_limitParts (.inl hg)) u
  have quiet : s.gate.state ≠ .draining ∨ afterDeciding x.between = [] →
      State.QuietFrame u (u.raceEndParts x (s.endOutcome .timeout) none l) := fun hq =>
    State.raceEndParts_quiet x _ _ (State.meet_not_mem_limitParts hq) u
  have preread := fun hf : s.path.phase ≠ .forward => State.limitExpires_preread x hf
  have lists := fun (hf : s.path.phase = .forward) (hg : s.gate.state ≠ .draining) n => State.limitExpires_list x (n := n) hf hg
  have stamped := State.limitExpires_stamped x s
  rw [exec_responseLimitExpiry hpow hport htxn]
  rw [State.limitExpires_eq] at preread lists stamped ⊢
  generalize u.raceEndParts x (s.endOutcome .timeout) none l = v at *
  refine ⟨_, rfl, ?_, (State.endCommand_flagSet _ _ _).trans (flags _ flag), fun hf hk => ?_, pending,
    fun hg => (gate hg).trans gateDone, fun hf hq => (preread (by rw [hf]; exact nofun)).1 hq, fun n hf hq hon hroom =>
      (preread (by rw [hf]; exact nofun)).2 n hq hon hroom, fun n hf hg hn => ?_, fun hq => ?_, fun hb n r hr => stamped hb n r hr,
    moments.link.trans frame.link, moments.store.trans frame.store⟩
  · rw [State.endCommand_path, State.finishTxn_path, moments.path, frame.path]
    rfl
  · refine marker.trans ((congrArg Gate.inFlight gateDone).trans ?_)
    exact if_pos ⟨hf, hk⟩
  · have list := lists hf hg n hn
    have outcome : s.endOutcome .timeout = if s.path.abandoned then .abandoned else .timeout := rfl
    have other : s.endOutcome .timeout ≠ .completed ∧ s.endOutcome .timeout ≠ .discarded := by
      rw [outcome]
      split <;> exact ⟨nofun, nofun⟩
    refine ⟨(congrArg List.length list).trans ?_, fun hq => (congrArg (·[(s.queue n).list.length]?) list).trans ?_, fun i r hr => ?_⟩
    · rw [List.length_append, List.length_map]
      split <;> rfl
    · rw [if_pos hq]
      simp [State.limitRecord]
    · have found := (congrArg (·[i]?) list).trans (State.completed_getElem? _ _ hr _)
      refine ⟨fun hd => ?_, fun a hb ha => ?_⟩
      · rw [State.completeRecord_done hd] at found
        exact found
      · rw [State.completeRecord_pending hb ha] at found
        refine found.trans ?_
        obtain ⟨notCompleted, notDiscarded⟩ := other
        rw [← outcome]
        simp only [notCompleted, notDiscarded, or_self, and_false, if_false]
  · obtain ⟨hr, ht, hi, hb, hp⟩ := (quiet hq).blocks
    exact ⟨hr.trans frame.rules, ht.trans frame.timers, hi.trans frame.inputs, hb.trans frame.timebase, hp.trans frame.pins⟩

end Sys2Proof.Machine
end

section
/-! The decision part by part (R36 to R45): the parts before its placement, the placement, and the parts after it. -/

namespace Sys2Proof.Machine

namespace State

/-! ### The parts on either side of the placement -/

/-- A part of a decision other than its placement. -/
def passPart (s : State) : DecisionPart → State
  | .reserve => s
  | .trigger c => s.triggerTimer c
  | .read => s
  | .meet m => s.takeMeeting m

/-- Without the placement the parts leave the verdict. -/
theorem takeDecisionParts_pass {reserve : State → State × Verdict} {l : List DecisionPart} (h : .reserve ∉ l) (q : State × Verdict) :
    takeDecisionParts reserve l q = (l.foldl passPart q.1, q.2) := by
  induction l generalizing q with
  | nil => rfl
  | cons p ps ih =>
    have rest := ih (fun hm => h (List.mem_cons_of_mem p hm))
    cases p with
    | reserve => exact absurd List.mem_cons_self h
    | trigger c => exact rest (q.1.triggerTimer c, q.2)
    | read => exact rest q
    | meet m => exact rest (q.1.takeMeeting m, q.2)

theorem takeDecisionParts_split {reserve : State → State × Verdict} {l₁ l₂ : List DecisionPart} (h₁ : .reserve ∉ l₁)
    (h₂ : .reserve ∉ l₂) (q : State × Verdict) : takeDecisionParts reserve (l₁ ++ .reserve :: l₂) q =
      (l₂.foldl passPart (reserve (l₁.foldl passPart q.1)).1, (reserve (l₁.foldl passPart q.1)).2) := by
  have appended : takeDecisionParts reserve (l₁ ++ .reserve :: l₂) q =
      takeDecisionParts reserve l₂ (reserve (takeDecisionParts reserve l₁ q).1) := by
    simp only [takeDecisionParts, List.foldl_append, List.foldl_cons]
  rw [appended, takeDecisionParts_pass h₁, takeDecisionParts_pass h₂]

/-- What every trigger and every meeting named keep, the parts keep. -/
theorem foldl_passPart {R : State → State → Prop} (refl : ∀ s, R s s) (trans : ∀ {s t u}, R s t → R t u → R s u)
    (trigger : ∀ s c, R s (s.triggerTimer c)) {l : List DecisionPart} (meet : ∀ m, .meet m ∈ l → ∀ s : State, R s (s.takeMeeting m))
    (s : State) : R s (l.foldl passPart s) := by
  induction l generalizing s with
  | nil => exact refl s
  | cons p ps ih =>
    refine trans ?_ (ih (fun m h => meet m (List.mem_cons_of_mem p h)) _)
    cases p with
    | reserve | read => exact refl s
    | trigger c => exact trigger s c
    | meet m => exact meet m List.mem_cons_self s

/-! ### A decision in its parts -/

/-- The deciding rule (R33). -/
def deciderOf (t : Txn) (before : Option Word) (s : State) : Option (Fin 24) :=
  (s.scan t (if before.isSome then effectiveNew t (before.getD 0) else t.data) (before.getD 0) allRules).2

/-- The placement of a decision made in `s`, taken in `u`. -/
def placement (t : Txn) (before : Option Word) (sub : Bool) (s : State) (stamp : Word) (u : State) : State × Verdict :=
  u.reserve t before sub (s.decidedAction t (s.deciderOf t before)) (s.discardData (s.deciderOf t before))
    (s.reservations (s.hitsOf t before) (s.deciderOf t before)) s.nextSerial stamp

/-- The channels that the hits of a decision trigger (R44). -/
def hitTriggers (t : Txn) (before : Option Word) (s : State) : List (Fin 8) :=
  s.triggeredBy fun g => (s.hitsOf t before).any fun r => g == .rule r.val

/-- The state in which the parts of a decision begin: the hits counted and the channels triggered that no order concerns. -/
def partsBegin (t : Txn) (before : Option Word) (quiet : List (Fin 8)) (s : State) : State :=
  let u := quiet.foldl (fun s c => s.triggerTimer c) ((s.hitsOf t before).foldl hitRule s)
  { u with draw := u.draw + 1 }

/-- The order of the parts of a decision that `inside` meets, the channels triggered before them, and the parts taken. -/
def partsOrder (t : Txn) (before : Option Word) (inside : List Meeting) (s : State) : List DecisionPart :=
  orderParts (Config.raceKey s.draw) 0 (s.decisionParts inside (s.hitTriggers t before))
def quietTriggers (t : Txn) (before : Option Word) (inside : List Meeting) (s : State) : List (Fin 8) :=
  if inside.isEmpty then s.notOffering (s.hitTriggers t before) else []
def partsTaken (t : Txn) (before : Option Word) (sub : Bool) (inside : List Meeting) (s : State) : State × Verdict :=
  takeDecisionParts (s.placement t before sub (s.decisionStamp (s.partsOrder t before inside))) (s.partsOrder t before inside)
    (s.partsBegin t before (s.quietTriggers t before inside), .forward)

/-- What falls among the parts of a decision (log 26). -/
def metInside (t : Txn) (before : Option Word) (s : State) : List Meeting :=
  if (s.hitsOf t before).isEmpty then [] else insideOf t.between

theorem decision_eq_partsTaken (t : Txn) (before : Option Word) (sub : Bool) (s : State) : s.decision t before sub =
    ⟨(s.partsTaken t before sub (s.metInside t before)).1, (s.partsTaken t before sub (s.metInside t before)).2,
      (s.decision t before sub).changes⟩ := rfl

theorem metInside_of_none {t : Txn} (h : insideOf t.between = []) (before : Option Word) (s : State) : s.metInside t before = [] := by
  simp [metInside, h]

/-- The decision `d` of a transaction in `s`, taken apart at its placement: before it `quiet` and `first`, after it `last`. -/
structure Parted (t : Txn) (before : Option Word) (sub : Bool) (s : State) (d : Decided) (quiet : List (Fin 8))
    (first last : List DecisionPart) (stamp : Word) : Prop where
  state : d.state =
    last.foldl passPart (s.placement t before sub stamp (first.foldl passPart (s.partsBegin t before quiet))).1
  verdict : d.verdict = (s.placement t before sub stamp (first.foldl passPart (s.partsBegin t before quiet))).2
  /-- nothing else falls among the parts than what is named, and that only where a rule was hit -/
  meet : ∀ m, .meet m ∈ first ++ last → s.hitsOf t before ≠ [] ∧ m ∈ insideOf t.between
  /-- with nothing named every channel is triggered once -/
  triggers : insideOf t.between = [] → (quiet.map DecisionPart.trigger ++ (first ++ last)).Perm ((s.hitTriggers t before).map .trigger)
  /-- with nothing named the counter is read before any tick -/
  stamped : insideOf t.between = [] → stamp = s.timebase.timestamp

theorem filter_perm_split {α : Type} (p : α → Bool) (l : List α) : (l.filter (fun x => !p x) ++ l.filter p).Perm l :=
  (List.perm_append_comm).trans (List.filter_append_perm p l)

theorem exists_parted (t : Txn) (before : Option Word) (sub : Bool) (s : State) :
    ∃ quiet first last stamp, Parted t before sub s (s.decision t before sub) quiet first last stamp := by
  let ts := s.hitTriggers t before
  let inside := s.metInside t before
  let quiet := s.quietTriggers t before inside
  let order := s.partsOrder t before inside
  let stamp := s.decisionStamp order
  obtain ⟨rest, parts, alone, none⟩ : ∃ rest, s.decisionParts inside ts = .reserve :: rest ∧ .reserve ∉ rest ∧
      (inside = [] → rest = (s.offering ts).map .trigger) := by
    unfold decisionParts
    split
    · exact ⟨_, rfl, by simp, fun _ => rfl⟩
    next h => exact ⟨_, rfl, by simp, fun e => absurd (by rw [e]; rfl) h⟩
  have perm : order.Perm (.reserve :: rest) := by
    rw [← parts]
    exact orderParts_perm _ _ _
  obtain ⟨first, last, split⟩ := List.append_of_mem (perm.mem_iff.mpr List.mem_cons_self)
  have others : (first ++ last).Perm rest := (List.perm_middle.symm.trans (split ▸ perm)).cons_inv
  have before₁ : .reserve ∉ first := fun h => alone (others.mem_iff.mp (List.mem_append_left _ h))
  have after : .reserve ∉ last := fun h => alone (others.mem_iff.mp (List.mem_append_right _ h))
  have taken : takeDecisionParts (s.placement t before sub stamp) order (s.partsBegin t before quiet, .forward) = _ :=
    (congrArg (fun l => takeDecisionParts _ l _) split).trans (takeDecisionParts_split before₁ after _)
  have decided := decision_eq_partsTaken t before sub s
  have nothing : insideOf t.between = [] → inside = [] := fun h => metInside_of_none h before s
  refine ⟨quiet, first, last, stamp, ?_, ?_, fun m hm => ?_, fun h => ?_, fun h => ?_⟩
  · rw [decided]
    exact congrArg Prod.fst taken
  · rw [decided]
    exact (congrArg Prod.snd taken :)
  · have named : m ∈ inside := by
      have hm : .meet m ∈ s.decisionParts inside ts := by
        rw [parts]
        exact List.mem_cons_of_mem _ (others.mem_iff.mp hm)
      unfold decisionParts at hm
      split at hm
      · simp at hm
      · simpa using hm
    simp only [inside, metInside] at named
    split at named
    · exact absurd named nofun
    next hh => exact ⟨fun e => hh (by rw [e]; rfl), named⟩
  · have inside := nothing h
    have quiets : quiet = s.notOffering ts := if_pos (by rw [inside]; rfl)
    rw [none inside] at others
    rw [quiets]
    refine (List.Perm.append_left _ others).trans ?_
    rw [← List.map_append]
    exact (filter_perm_split (fun c => (s.timer c).intervalQueue.isSome) ts).map _
  · have inside := nothing h
    have unmet : ∀ m, .meet m ∉ order := fun m hm => by
      have hm := perm.mem_iff.mp hm
      rw [none inside] at hm
      simp at hm
    have count : (order.takeWhile fun p => p != .read && p != .reserve).count (.meet .tick) = 0 :=
      List.count_eq_zero.mpr fun hm => unmet _ ((List.takeWhile_prefix _).sublist.subset hm)
    simp only [stamp, decisionStamp, count]
    split
    · exact BitVec.add_zero _
    · rfl

namespace Parted

variable {t : Txn} {before : Option Word} {sub : Bool} {s : State} {d : Decided} {quiet : List (Fin 8)}
  {first last : List DecisionPart} {stamp : Word} (h : Parted t before sub s d quiet first last stamp)
include h

/-- The state in which the placement is made. -/
theorem reached {R : State → State → Prop} (refl : ∀ s, R s s) (trans : ∀ {s t u}, R s t → R t u → R s u)
    (draw : ∀ s : State, R s { s with draw := s.draw + 1 }) (trigger : ∀ s c, R s (s.triggerTimer c))
    (meet : ∀ m ∈ insideOf t.between, ∀ s : State, R s (s.takeMeeting m)) :
    R ((s.hitsOf t before).foldl hitRule s) (first.foldl passPart (s.partsBegin t before quiet)) :=
  trans (trans (foldl_frame refl trans trigger _ _) (draw _))
    (foldl_passPart refl trans trigger (fun m hm => meet m (h.meet m (List.mem_append_left _ hm)).2) _)

/-- The state that the decision leaves, from the one that the placement has left. -/
theorem left {R : State → State → Prop} (refl : ∀ s, R s s) (trans : ∀ {s t u}, R s t → R t u → R s u)
    (trigger : ∀ s c, R s (s.triggerTimer c)) (meet : ∀ m ∈ insideOf t.between, ∀ s : State, R s (s.takeMeeting m)) :
    R (s.placement t before sub stamp (first.foldl passPart (s.partsBegin t before quiet))).1 d.state := by
  rw [h.state]
  exact foldl_passPart refl trans trigger (fun m hm => meet m (h.meet m (List.mem_append_right _ hm)).2) _

/-- The whole decision, from the state with its hits counted. -/
theorem through {R : State → State → Prop} (refl : ∀ s, R s s) (trans : ∀ {s t u}, R s t → R t u → R s u)
    (draw : ∀ s : State, R s { s with draw := s.draw + 1 }) (trigger : ∀ s c, R s (s.triggerTimer c))
    (meet : ∀ m ∈ insideOf t.between, ∀ s : State, R s (s.takeMeeting m))
    (place : ∀ u, R u (s.placement t before sub stamp u).1) : R ((s.hitsOf t before).foldl hitRule s) d.state :=
  trans (trans (h.reached refl trans draw trigger meet) (place _)) (h.left refl trans trigger meet)

end Parted

/-! ### What is named to fall elsewhere does not enter a decision -/

section between

variable (t : Txn) (before : Option Word) (s : State)

theorem scan_between (new old : Word) (l : List (Fin 24)) : s.scan { t with between := [] } new old l = s.scan t new old l := by
  induction l with
  | nil => rfl
  | cons r rs ih =>
    unfold State.scan
    rw [ih]

theorem hitsOf_between : s.hitsOf { t with between := [] } before = s.hitsOf t before := congrArg Prod.fst (scan_between t s ..)

theorem deciderOf_between : s.deciderOf { t with between := [] } before = s.deciderOf t before := congrArg Prod.snd (scan_between t s ..)

theorem placeAll_between (w : Word) (vs : List Reservation) (p : State × Bool) :
    placeAll { t with between := [] } before w vs p = placeAll t before w vs p := by
  induction vs generalizing p with
  | nil => rfl
  | cons v vs ih => exact ih _

theorem placement_between (sub : Bool) (stamp : Word) :
    s.placement { t with between := [] } before sub stamp = s.placement t before sub stamp := by
  funext u
  unfold placement
  rw [hitsOf_between, deciderOf_between]
  unfold State.reserve
  dsimp only
  rw [placeAll_between]
  rfl

theorem partsTaken_between (sub : Bool) (inside : List Meeting) :
    s.partsTaken { t with between := [] } before sub inside = s.partsTaken t before sub inside := by
  have triggers : s.hitTriggers { t with between := [] } before = s.hitTriggers t before := by
    unfold hitTriggers
    rw [hitsOf_between]
  unfold partsTaken partsOrder quietTriggers partsBegin
  rw [triggers, hitsOf_between, placement_between]

end between

theorem decision_of_nothing_inside {t : Txn} (h : insideOf t.between = []) (before : Option Word) (sub : Bool) (s : State) :
    (s.decision { t with between := [] } before sub).state = (s.decision t before sub).state ∧
      (s.decision { t with between := [] } before sub).verdict = (s.decision t before sub).verdict := by
  rw [decision_eq_partsTaken, decision_eq_partsTaken t, metInside_of_none h, metInside_of_none (by rfl), partsTaken_between]
  exact ⟨rfl, rfl⟩

end State

end Sys2Proof.Machine
end

section
/-! A taken request that is decided at once (R59, R61, R62, R68), and the access that no rule concerns (R35). -/

namespace Sys2Proof.Machine

namespace State

/-! ### A request that goes to its decision -/

/-- What a decided transaction leaves once it is carried out and its command has ended (R47, R61, R62). -/
abbrev afterCarryOut (s : State) (t : Txn) (d : Decided) : State := s.endCommand (d.state.carryOut t d.verdict)

/-- The state with the changes of a decision still to come, and these changes. -/
theorem thenChanges_decided (s u : State) (x : Txn) (before : Option Word) (sub : Bool) :
    s.thenChanges (u.decideAndCarryOut x before sub) =
      ((if u.hitsOf x before = [] then s.afterCarryOut x (u.decision x before sub)
        else (s.afterCarryOut x (u.decision x before sub)).meetAll x.between).afterDecision (u.decision x before sub).changes) := by
  have changes : (u.decideAndCarryOut x before sub).2 = (u.decision x before sub).changes := rfl
  by_cases h : u.hitsOf x before = []
  · have none : (u.decision x before sub).changes = ⟨[], [], x.between⟩ := by
      have same : (u.decision x before sub).changes =
          ⟨u.hitsOf x before, (u.hitsOf x before).filter fun r => (u.rule r).countdown == 1, x.between⟩ := rfl
      rw [same, h]
      rfl
    rw [thenChanges_of_noHits s (by rw [changes, none]), if_pos h, none]
    rfl
  · rw [thenChanges_of_hits s h, if_neg h]
    rfl

variable {s : State}

theorem startTxn_decided {t : Txn} (hg : t.kind = .write → s.gate.state = .opened) (hp : s.needsPreread t = false) :
    s.startTxn t = s.decideAndCarryOut t none false := by
  rw [startTxn, if_neg fun h => h.2 (hg h.1), hp]
  rfl

/-- The state in which a request presented in `s` is decided. -/
abbrev presented (s : State) : State :=
  { s with path := { s.path with number := s.path.number + 1, held := none, abandoned := false, answer := none } }

end State

/-- A request that no hold keeps, no gate answers and no pre-read delays. -/
theorem exec_upstreamRequest_started {s : State} {q : Request} (hq : q.wf = true) (hh : s.path.held = none) (h : s.NoHold)
    (hg : s.gate.state ≠ .draining) :
    exec (.upstreamRequest q) s = .next (s.thenChanges (s.presented.startTxn (captureRequest (s.path.number + 1) q))) := by
  let u : State := { s with path := { s.path with answer := none } }
  have taken : u.take q = u.numbered.startTxn (captureRequest (u.path.number + 1) q) := State.take_of_not_draining (s := u) hg q
  rw [exec_upstreamRequest_taken hq hh h, taken]

theorem exec_upstreamRequest_decided {s : State} {q : Request} (hq : q.wf = true) (hh : s.path.held = none) (h : s.NoHold)
    (hr : (captureRequest (s.path.number + 1) q).kind = .read → s.gate.state ≠ .draining)
    (hw : (captureRequest (s.path.number + 1) q).kind = .write → s.gate.state = .opened)
    (hp : s.needsPreread (captureRequest (s.path.number + 1) q) = false) :
    exec (.upstreamRequest q) s = .next (s.thenChanges
      (s.presented.decideAndCarryOut (captureRequest (s.path.number + 1) q) none false)) := by
  have hg : s.gate.state ≠ .draining := by
    cases hk : (captureRequest (s.path.number + 1) q).kind with
    | read => exact hr hk
    | write =>
      rw [hw hk]
      exact nofun
  rw [exec_upstreamRequest_started hq hh h hg, State.startTxn_decided (s := s.presented) hw hp]

namespace State

/-! ### What carrying out leaves -/

theorem carryOut_forward (t : Txn) (s : State) : s.carryOut t .forward = { s with
    path := s.path.begin .forward { t with between := afterDeciding t.between }
    gate := { s.gate with inFlight := s.gate.inFlight || t.kind == .write } } := by
  unfold carryOut
  dsimp only
  cases hk : t.kind with
  | read =>
    have same : (s.gate.inFlight || AccessKind.read == .write) = s.gate.inFlight := Bool.or_false _
    rw [same]
    rfl
  | write =>
    have set : (s.gate.inFlight || AccessKind.write == .write) = true := Bool.or_true _
    rw [set]
    rfl

theorem carryOut_ended (t : Txn) (o : TxnOutcome) (a : Answer) (s : State) : s.carryOut t (.ended o a) = s.finishTxn (some a) := rfl

/-- The path and the marker of the gate are all that carrying out touches. -/
theorem carryOut_eq (t : Txn) (v : Verdict) (s : State) : ∃ p b, s.carryOut t v = { s with path := p, gate := { s.gate with inFlight := b } } := by
  cases v with
  | forward => exact ⟨_, _, carryOut_forward t s⟩
  | ended o a => exact ⟨_, s.gate.inFlight, rfl⟩

/-! ### Completion where nothing is PENDING -/

theorem mapQueues_of_same {s : State} {f : Fin 4 → Queue → Queue} (h : ∀ n, f n (s.queue n) = s.queue n) : s.mapQueues f = s := by
  have same : Vector.ofFn (fun i => f i s.queues[i]) = s.queues := Vector.ext fun i hi => by
    rw [Vector.getElem_ofFn]
    exact h ⟨i, hi⟩
  exact congrArg (fun q : Vector Queue 4 => { s with queues := q }) same

/-- A count that has not risen sets no notify flag (R84). -/
theorem judgeNotify_available (s : State) (n : Fin 4) : s.judgeNotify n (s.queue n).available = s :=
  if_neg fun h => absurd (h.1.trans_le h.2) (lt_irrefl _)

theorem completeAll_of_nonePending {s : State} (h : s.NonePending) (o : TxnOutcome) (d : Option Word) :
    s.completeAll s.availCounts o d = s := by
  have list : ∀ n, (s.queue n).list.map (completeRecord o d) = (s.queue n).list := fun n =>
    (List.map_congr_left fun r hr => completeRecord_done ((pendingCount_eq_zero_iff _).mp (h n) r hr) o d).trans (List.map_id _)
  have judged : ∀ l : List (Fin 4), l.foldl (fun u n => u.judgeNotify n s.availCounts[n]) s = s := fun l => by
    induction l with
    | nil => rfl
    | cons n l ih =>
      have count : s.availCounts[n] = (s.queue n).available := by simp [availCounts]
      rw [List.foldl_cons, count, judgeNotify_available, ih]
  unfold completeAll
  rw [mapQueues_of_same fun n => by rw [list n]]
  exact judged allQueues

/-! ### The placement -/

/-- The reservations placed, before the verdict. -/
def placed (t : Txn) (before : Option Word) (vs : List Reservation) (k : Nat) (w : Word) (s : State) : State × Bool :=
  placeAll t before (s.accessStamp k w vs) vs (s, false)

theorem reserve_verdict (t : Txn) (before : Option Word) (sub : Bool) (a : Action) (d : Word) (vs : List Reservation) (k : Nat)
    (w : Word) (s : State) : (s.reserve t before sub a d vs k w).2 =
      (s.placed t before vs k w).1.verdict t sub a d (s.placed t before vs k w).2 := by
  unfold reserve
  dsimp only
  split <;> rfl

theorem reserve_of_forward {t : Txn} {before : Option Word} {sub : Bool} {a : Action} {d : Word} {vs : List Reservation} {k : Nat}
    {w : Word} {s : State} (h : (s.reserve t before sub a d vs k w).2 = .forward) :
    (s.reserve t before sub a d vs k w).1 = (s.placed t before vs k w).1 := by
  rw [reserve_verdict] at h
  unfold placed at h ⊢
  unfold reserve
  dsimp only
  rw [h]

theorem reserve_of_ended {t : Txn} {before : Option Word} {sub : Bool} {a : Action} {d : Word} {vs : List Reservation} {k : Nat}
    {w : Word} {s : State} {o : TxnOutcome} {y : Answer} (h : (s.reserve t before sub a d vs k w).2 = .ended o y) :
    (s.reserve t before sub a d vs k w).1 =
      ((s.placed t before vs k w).1.completeAll s.availCounts o (some d)).consulted (.ended o y) := by
  rw [reserve_verdict] at h
  unfold placed at h ⊢
  unfold reserve
  dsimp only
  rw [h]

/-! ### A decision without a candidate (R35) -/

theorem scan_of_noCandidate {s : State} {t : Txn} (h : s.NoCandidate t.kind t.addr) (new old : Word) (l : List (Fin 24)) :
    s.scan t new old l = ([], none) := by
  induction l with
  | nil => rfl
  | cons r rs ih =>
    unfold scan
    dsimp only
    rw [h r, ih]
    rfl

theorem needsPreread_of_noCandidate {s : State} {t : Txn} (h : s.NoCandidate t.kind t.addr) : s.needsPreread t = false := by
  simp [needsPreread, h]

/-- The default action of the kind. -/
def defaultTaken (s : State) (t : Txn) : Action := (s.defaultAction t.kind).getD .fault

/-- With no candidate and no unmatched capture nothing is placed and nothing handed out. -/
theorem decision_of_noCandidate {s : State} {t : Txn} (h : s.NoCandidate t.kind t.addr) (hu : wbit s.unmatched 0 = false)
    (before : Option Word) (sub : Bool) :
    (s.decision t before sub).verdict = s.verdict t sub (s.defaultTaken t) 0 false ∧
    ((s.decision t before sub).verdict = .forward ∨ s.NonePending →
      (s.decision t before sub).state = { s with draw := s.draw + 1 }.consulted (s.decision t before sub).verdict) := by
  let u : State := { s with draw := s.draw + 1 }
  have hits : s.hitsOf t before = [] := congrArg Prod.fst (scan_of_noCandidate h ..)
  have decider : s.deciderOf t before = none := congrArg Prod.snd (scan_of_noCandidate h ..)
  have triggers : s.hitTriggers t before = [] := by
    unfold hitTriggers triggeredBy
    rw [hits]
    exact List.filter_eq_nil_iff.mpr (by simp)
  have inside : s.metInside t before = [] := by simp [metInside, hits]
  have order : s.partsOrder t before [] = [.reserve] := by
    unfold partsOrder
    rw [triggers]
    rfl
  have begun : s.partsBegin t before (s.quietTriggers t before []) = u := by
    unfold partsBegin quietTriggers
    rw [hits, triggers]
    rfl
  have reservations : s.reservations [] none = [] := by simp [reservations, unmatchedPresent, hu]
  have placed : ∀ stamp, s.placement t before sub stamp u =
      u.reserve t before sub (s.defaultTaken t) 0 [] s.nextSerial stamp := fun stamp => by
    unfold placement
    rw [hits, decider, reservations]
    rfl
  have taken : ∃ stamp, s.partsTaken t before sub [] = u.reserve t before sub (s.defaultTaken t) 0 [] s.nextSerial stamp := by
    refine ⟨s.decisionStamp [.reserve], ?_⟩
    rw [← placed, partsTaken, order, begun]
    rfl
  obtain ⟨stamp, taken⟩ := taken
  have verdict : (u.reserve t before sub (s.defaultTaken t) 0 [] s.nextSerial stamp).2 = s.verdict t sub (s.defaultTaken t) 0 false :=
    reserve_verdict ..
  rw [decision_eq_partsTaken, inside, taken]
  refine ⟨verdict, fun hn => ?_⟩
  change (u.reserve t before sub (s.defaultTaken t) 0 [] s.nextSerial stamp).1 =
    u.consulted (u.reserve t before sub (s.defaultTaken t) 0 [] s.nextSerial stamp).2
  cases hv : (u.reserve t before sub (s.defaultTaken t) 0 [] s.nextSerial stamp).2 with
  | forward => exact reserve_of_forward hv
  | ended o a =>
    have none : u.NonePending := hn.resolve_left fun h => by
      have h : (u.reserve t before sub (s.defaultTaken t) 0 [] s.nextSerial stamp).2 = .forward := h
      exact absurd (hv.symm.trans h) nofun
    exact (reserve_of_ended hv).trans
      (congrArg (fun w : State => w.consulted (.ended o a)) (completeAll_of_nonePending none o (some 0)))

end State

end Sys2Proof.Machine
end

section
/-! The access that no rule concerns (R35), from its taking to what becomes of it. -/

namespace Sys2Proof.Machine

namespace State

theorem carryOut_forward_read {t : Txn} (h : t.kind = .read) (s : State) : s.carryOut t .forward =
    { s with path := s.path.begin .forward { t with between := afterDeciding t.between } } := by
  unfold carryOut
  exact if_neg (by rw [h]; exact nofun)

theorem carryOut_forward_write {t : Txn} (h : t.kind = .write) (s : State) : s.carryOut t .forward = { s with
    path := s.path.begin .forward { t with between := afterDeciding t.between }
    gate := { s.gate with inFlight := true } } := by
  unfold carryOut
  exact if_pos h

/-- An access without a candidate, decided by the default action. -/
theorem thenChanges_of_noCandidate {s u : State} {x : Txn} (h : u.NoCandidate x.kind x.addr) (hu : wbit u.unmatched 0 = false)
    (ha : u.alert.lastTick = s.alert.lastTick) {before : Option Word} {sub : Bool} {v : Verdict}
    (hv : u.verdict x sub (u.defaultTaken x) 0 false = v) (hn : v = .forward ∨ u.NonePending) :
    s.thenChanges (u.decideAndCarryOut x before sub) = ({ u with draw := u.draw + 1 }.consulted v).carryOut x v := by
  have hits : u.hitsOf x before = [] := congrArg Prod.fst (scan_of_noCandidate h ..)
  have changes : (u.decision x before sub).changes = ⟨[], [], x.between⟩ := by
    have same : (u.decision x before sub).changes =
        ⟨u.hitsOf x before, (u.hitsOf x before).filter fun r => (u.rule r).countdown == 1, x.between⟩ := rfl
    rw [same, hits]
    rfl
  obtain ⟨verdict, state⟩ := decision_of_noCandidate h hu before sub
  have verdict := verdict.trans hv
  rw [verdict] at state
  have alert : (({ u with draw := u.draw + 1 }.consulted v).carryOut x v).alert = u.alert := by
    obtain ⟨p, b, e⟩ := carryOut_eq x v ({ u with draw := u.draw + 1 }.consulted v)
    rw [e]
    unfold consulted
    split <;> rfl
  rw [thenChanges_decided, if_pos hits, changes, afterCarryOut, verdict, state hn, endCommand_of_eq (by rw [alert, ha])]
  rfl

variable {s : State} {t : Txn}

theorem defaultTaken_read (hk : t.kind = .read) : (fld s.defaultActions 4 2 = 0 → s.defaultTaken t = .pass) ∧
    (fld s.defaultActions 4 2 = 1 → s.defaultTaken t = .discard) ∧ (fld s.defaultActions 4 2 = 2 → s.defaultTaken t = .fault) := by
  have action : s.defaultTaken t = (defaultOf (fld s.defaultActions 4 2)).getD .fault := by
    unfold defaultTaken defaultAction
    rw [hk]
  refine ⟨fun h => ?_, fun h => ?_, fun h => ?_⟩ <;> rw [action, h] <;> rfl

theorem defaultTaken_write (hk : t.kind = .write) : (fld s.defaultActions 0 2 = 0 → s.defaultTaken t = .pass) ∧
    (fld s.defaultActions 0 2 = 1 → s.defaultTaken t = .discard) ∧ (fld s.defaultActions 0 2 = 2 → s.defaultTaken t = .fault) := by
  have action : s.defaultTaken t = (defaultOf (fld s.defaultActions 0 2)).getD .fault := by
    unfold defaultTaken defaultAction
    rw [hk]
  refine ⟨fun h => ?_, fun h => ?_, fun h => ?_⟩ <;> rw [action, h] <;> rfl

theorem forwardVerdict_ready (hp : s.path.port = .ready) (hg : t.kind = .write → s.gate.state = .opened) :
    s.forwardVerdict t = .forward := by
  rw [forwardVerdict, if_neg (by rw [hp]; exact nofun), if_neg fun h => h.2 (hg h.1)]

theorem forwardVerdict_down (hp : s.path.port = .down) : s.forwardVerdict t = .ended .pathDown .error := if_pos hp

/-! ### The verdicts of the default actions -/

theorem verdict_pass {a : Action} (h : a = .pass) (d : Word) (b : Bool) : s.verdict t false a d b = s.forwardVerdict t := by
  rw [h]
  rfl

theorem verdict_discard {a : Action} (h : a = .discard) (d : Word) (b : Bool) :
    s.verdict t false a d b = .ended .discarded (discardAnswer t d) := by
  rw [h]
  rfl

theorem verdict_fault {a : Action} (h : a = .fault) (d : Word) (b : Bool) : s.verdict t false a d b = .ended .refused .error := by
  rw [h]
  rfl

end State

/-- The transaction of a read and of a write, as their requests are captured (R25, R50). -/
abbrev readTxn (s : State) (a : BitVec 24) (bs : List Between) : Txn := ⟨s.path.number + 1, .read, byteAddr a, 15, 0, bs⟩
abbrev writeTxn (s : State) (a : BitVec 24) (lanes : Lanes) (d : Word) (bs : List Between) : Txn :=
  ⟨s.path.number + 1, .write, byteAddr a, lanes, d &&& laneMask lanes, bs⟩

/-- A read without a candidate that meets no drain. -/
theorem exec_read_of_noCandidate {s : State} {a : BitVec 24} {bs : List Between} (h : s.NoHold) (hh : s.path.held = none)
    (hg : s.gate.state ≠ .draining) (hc : s.NoCandidate .read (byteAddr a)) (hu : wbit s.unmatched 0 = false) (hn : s.NonePending)
    {v : Verdict} (hv : s.verdict (readTxn s a bs) false (s.defaultTaken (readTxn s a bs)) 0 false = v) :
    exec (.upstreamRequest (.read a bs)) s = .next (({ s.presented with draw := s.draw + 1 }.consulted v).carryOut (readTxn s a bs) v) := by
  have none : s.presented.NoCandidate (readTxn s a bs).kind (readTxn s a bs).addr := hc
  rw [exec_upstreamRequest_decided (q := .read a bs) rfl hh h (fun _ => hg) nofun (State.needsPreread_of_noCandidate (s := s) none)]
  exact congrArg _ (State.thenChanges_of_noCandidate (s := s) none hu rfl hv (.inr hn))

/-- A write without a candidate that meets an OPEN gate. -/
theorem exec_write_of_noCandidate {s : State} {a : BitVec 24} {lanes : Lanes} {d : Word} {bs : List Between} (h : s.NoHold)
    (hh : s.path.held = none) (hl : lanes ≠ 0) (hg : s.gate.state = .opened) (hc : s.NoCandidate .write (byteAddr a))
    (hu : wbit s.unmatched 0 = false) (hn : s.NonePending) {v : Verdict}
    (hv : s.verdict (writeTxn s a lanes d bs) false (s.defaultTaken (writeTxn s a lanes d bs)) 0 false = v) :
    exec (.upstreamRequest (.write a lanes d bs)) s =
      .next (({ s.presented with draw := s.draw + 1 }.consulted v).carryOut (writeTxn s a lanes d bs) v) := by
  have none : s.presented.NoCandidate (writeTxn s a lanes d bs).kind (writeTxn s a lanes d bs).addr := hc
  rw [exec_upstreamRequest_decided (q := .write a lanes d bs) (Request.write_wf hl) hh h nofun (fun _ => hg)
    (State.needsPreread_of_noCandidate (s := s) none)]
  exact congrArg _ (State.thenChanges_of_noCandidate (s := s) none hu rfl hv (.inr hn))

/-- A read without a candidate, whatever the gate: a drain that is due ends first (R155). -/
theorem exec_read_after_drain {s : State} {a : BitVec 24} {bs : List Between} (h : s.NoHold) (hh : s.path.held = none)
    (hc : s.NoCandidate .read (byteAddr a)) (hu : wbit s.unmatched 0 = false)
    (hd : fld s.defaultActions 4 2 = 0) (hp : s.path.port = .ready) :
    ∃ t, exec (.upstreamRequest (.read a bs)) s = .next t ∧
      t.path = s.presented.path.begin .forward { readTxn s a bs with between := afterDeciding bs } ∧
      t.gate = s.gateEndDrain.gate ∧ ∀ f, s.gateEndDrain.alert.flagSet f = true → t.alert.flagSet f = true := by
  let u : State := { s with path := { s.path with answer := none } }
  have ended : u.gateEndDrain = s.gateEndDrain.withPath { s.path with answer := none } := State.gateEndDrain_withPath s _
  have frame := State.gateEndDrain_gateFrame s
  let v := s.gateEndDrain.withPath s.presented.path
  have taken : u.take (.read a bs) = v.startTxn (readTxn s a bs) := by
    rw [State.take_eq, ended]
    rfl
  have none : v.NoCandidate (readTxn s a bs).kind (readTxn s a bs).addr := fun r => by
    have same : v.rule r = s.rule r := State.rule_congr frame.rules r
    rw [same]
    exact hc r
  have unmatched : wbit v.unmatched 0 = false := by
    have same : v.unmatched = s.unmatched := frame.unmatched
    rw [same, hu]
  have default : v.defaultActions = s.defaultActions := frame.defaultActions
  have verdict : v.verdict (readTxn s a bs) false (v.defaultTaken (readTxn s a bs)) 0 false = .forward :=
    (State.verdict_pass ((State.defaultTaken_read rfl).1 (by rw [default, hd])) _ _).trans (State.forwardVerdict_ready hp nofun)
  have decided : v.startTxn (readTxn s a bs) = v.decideAndCarryOut (readTxn s a bs) Option.none false :=
    State.startTxn_decided nofun (State.needsPreread_of_noCandidate none)
  obtain ⟨-, state⟩ := State.decision_of_noCandidate none unmatched Option.none false
  obtain ⟨verdict', -⟩ := State.decision_of_noCandidate none unmatched Option.none false
  have verdict' := verdict'.trans verdict
  have hits : v.hitsOf (readTxn s a bs) Option.none = [] := congrArg Prod.fst (State.scan_of_noCandidate none ..)
  have carried : (v.decideAndCarryOut (readTxn s a bs) Option.none false).1 =
      { v with
        draw := v.draw + 1
        path := v.path.begin .forward { readTxn s a bs with between := afterDeciding bs } } := by
    have state := state (.inl verdict')
    rw [verdict'] at state
    rw [State.decideAndCarryOut, verdict', state]
    exact State.carryOut_forward_read (t := readTxn s a bs) rfl _
  refine ⟨_, exec_upstreamRequest_taken rfl hh h, ?_, ?_, fun f hf => ?_⟩ <;>
    rw [taken, decided, State.thenChanges_of_noHits _ hits, carried]
  · rfl
  · rfl
  · exact (State.endCommand_flagSet ..).trans hf

/-- Settles O6: the verdict of each default action, carried out. -/
theorem accessWithoutARuleFollowsTheDefault : Obligations.AccessWithoutARuleFollowsTheDefault := by
  intro s a bs h hh hn hu number limit forward ended
  refine ⟨fun hc hg => ⟨fun hd hp => ?_, fun hd hp => ?_, fun hd => ?_, fun hd => ?_⟩, fun hc hg hd hp => ?_,
    fun lanes d hl hg hc => ⟨fun hd hp => ?_, fun hd hp => ?_, fun hd => ?_, fun hd => ?_⟩⟩
  · rw [exec_read_of_noCandidate h hh hg hc hu hn (v := .forward)
      ((State.verdict_pass ((State.defaultTaken_read rfl).1 hd) _ _).trans (State.forwardVerdict_ready hp nofun)),
      State.carryOut_forward_read rfl]
    simp only [forward, number, limit, hh]
    rfl
  · rw [exec_read_of_noCandidate h hh hg hc hu hn (v := .ended .pathDown .error)
      ((State.verdict_pass ((State.defaultTaken_read rfl).1 hd) _ _).trans (State.forwardVerdict_down hp))]
    simp only [ended, number, hh]
    rfl
  · rw [exec_read_of_noCandidate h hh hg hc hu hn (v := .ended .discarded (.doneData 0))
      (State.verdict_discard ((State.defaultTaken_read rfl).2.1 hd) _ _)]
    simp only [ended, number, hh]
    rfl
  · rw [exec_read_of_noCandidate h hh hg hc hu hn (v := .ended .refused .error)
      (State.verdict_fault ((State.defaultTaken_read rfl).2.2 hd) _ _)]
    simp only [ended, number, hh]
    rfl
  · obtain ⟨t, ht, path, gate, flags⟩ := exec_read_after_drain (bs := bs) h hh hc hu hd hp
    refine ⟨t, ht, ?_, fun hf => ⟨?_, flags _ (State.gateEndDrain_flagSet hg hf)⟩, fun hf => ?_⟩
    · rw [path]
      simp only [forward, number, limit, hh]
      rfl
    · obtain ⟨closed, reopening, opened⟩ := State.gateEndDrain_gate hg hf
      rw [gate]
      by_cases hcause : s.gate.pfail = true ∨ s.gate.hold = true
      · rw [closed hcause]
        exact nofun
      · obtain ⟨hpf, hho⟩ : s.gate.pfail = false ∧ s.gate.hold = false := by simpa using hcause
        cases hm : s.gate.powerSeen with
        | true =>
          rw [reopening hpf hho hm]
          exact nofun
        | false =>
          rw [opened hpf hho hm]
          exact nofun
    · rw [gate, State.gateEndDrain_of_not_due (by simp [Gate.drainDue, hf])]
  · rw [exec_write_of_noCandidate h hh hl hg hc hu hn (v := .forward)
      ((State.verdict_pass ((State.defaultTaken_write rfl).1 hd) _ _).trans (State.forwardVerdict_ready hp fun _ => hg)),
      State.carryOut_forward_write rfl]
    simp only [forward, number, limit, hh]
    rfl
  · rw [exec_write_of_noCandidate h hh hl hg hc hu hn (v := .ended .pathDown .error)
      ((State.verdict_pass ((State.defaultTaken_write rfl).1 hd) _ _).trans (State.forwardVerdict_down hp))]
    simp only [ended, number, hh]
    rfl
  · rw [exec_write_of_noCandidate h hh hl hg hc hu hn (v := .ended .discarded .done)
      (State.verdict_discard ((State.defaultTaken_write rfl).2.1 hd) _ _)]
    simp only [ended, number, hh]
    rfl
  · rw [exec_write_of_noCandidate h hh hl hg hc hu hn (v := .ended .refused .error)
      (State.verdict_fault ((State.defaultTaken_write rfl).2.2 hd) _ _)]
    simp only [ended, number, hh]
    rfl

end Sys2Proof.Machine
end

section
/-! The hits of a decision and the changes that follow it (R10, R11, R13, R14, R37, R43 to R45, R147, R164). -/

namespace Sys2Proof.Machine

/-! ### One rule -/

namespace Rule

variable (x : Rule)

theorem arm_state_ne (h : x.state ≠ .disabled) : x.arm.state ≠ .disabled := by
  rw [arm_of_enabled h]
  exact nofun

theorem arm_arm : x.arm.arm = x.arm := by
  by_cases h : x.state = .disabled
  · rw [arm_of_disabled h, arm_of_disabled h]
  · rw [arm_of_enabled (arm_state_ne x h), arm_defn, arm_of_enabled h]

theorem disarm_disarm : x.disarm.disarm = x.disarm := disarm_of_not_live (disarm_not_live x)

/-- An armed rule is LIVE whether or not its countdown has come to zero before (R45). -/
theorem disarm_arm : x.disarm.arm = x.arm := by
  cases h : x.state with
  | live =>
    rw [disarm_of_live h]
    simp only [arm, h]
  | dormant | disabled => rw [disarm_of_not_live (by rw [h]; exact nofun)]

theorem hit_state : x.hit.state = x.state := rfl

theorem hit_countdown : x.hit.countdown = if x.countdown = 0 then 0 else x.countdown - 1 := rfl

end Rule

namespace State

/-! ### The changes (R45) -/

theorem rule_zeroed (z : List (Fin 24)) (s : State) (j : Fin 24) :
    (z.foldl (fun s r => s.setRule r (s.rule r).disarm) s).rule j = if j ∈ z then (s.rule j).disarm else s.rule j := by
  induction z generalizing s with
  | nil => rfl
  | cons r z ih =>
    rw [List.foldl_cons, ih, rule_setRule]
    by_cases e : r = j
    · subst e
      simp [Rule.disarm_disarm]
    · simp [e, Ne.symm e]

/-- A hit names the rule as its arm source (R45). -/
def ArmedBy (l : List (Fin 24)) (d : RuleDef) : Prop := ∃ k ∈ l, d.armSource = .rule k.val

open Classical in
theorem rule_foldl_armFrom (l : List (Fin 24)) (s : State) (j : Fin 24) :
    (l.foldl (fun s r => s.armFrom (.rule r.val)) s).rule j = if ArmedBy l (s.rule j).defn then (s.rule j).arm else s.rule j := by
  induction l generalizing s with
  | nil => exact (if_neg fun ⟨_, h, _⟩ => absurd h nofun).symm
  | cons r l ih =>
    have named : ArmedBy (r :: l) (s.rule j).defn ↔ (s.rule j).defn.armSource = .rule r.val ∨ ArmedBy l (s.rule j).defn := by
      simp [ArmedBy]
    rw [List.foldl_cons, ih, rule_armFrom]
    by_cases e : (s.rule j).defn.armSource = .rule r.val
    · rw [if_pos e, Rule.arm_defn, Rule.arm_arm, ite_self, if_pos (named.mpr (.inl e))]
    · rw [if_neg e]
      by_cases a : ArmedBy l (s.rule j).defn
      · rw [if_pos a, if_pos (named.mpr (.inr a))]
      · rw [if_neg a, if_neg fun h => (named.mp h).elim e a]

/-- A rule that a hit arms. -/
theorem afterDecision_armed {c : Changes} {s : State} {r : Fin 24} (h : ArmedBy c.hits (s.rule r).defn) :
    (s.afterDecision c).rule r = (s.rule r).arm := by
  have zeroed := rule_zeroed c.zeroed s r
  refine (rule_foldl_armFrom c.hits _ r).trans ?_
  by_cases hz : r ∈ c.zeroed
  · rw [if_pos hz] at zeroed
    rw [zeroed, Rule.disarm_defn, if_pos h, Rule.disarm_arm]
  · rw [if_neg hz] at zeroed
    rw [zeroed, if_pos h]

/-- A rule that no hit arms. -/
theorem afterDecision_unarmed {c : Changes} {s : State} {r : Fin 24} (h : ¬ ArmedBy c.hits (s.rule r).defn) :
    (s.afterDecision c).rule r = if r ∈ c.zeroed then (s.rule r).disarm else s.rule r := by
  have zeroed := rule_zeroed c.zeroed s r
  refine (rule_foldl_armFrom c.hits _ r).trans ?_
  by_cases hz : r ∈ c.zeroed
  · rw [if_pos hz] at zeroed
    rw [zeroed, Rule.disarm_defn, if_neg h, if_pos hz]
  · rw [if_neg hz] at zeroed
    rw [zeroed, if_neg h, if_neg hz]

/-- A change moves the state and the countdown of a rule, and nothing else. -/
theorem afterDecision_counts (c : Changes) (s : State) (r : Fin 24) :
    ((s.afterDecision c).rule r).hits = (s.rule r).hits ∧ ((s.afterDecision c).rule r).window = (s.rule r).window ∧
    ((s.afterDecision c).rule r).overQuota = (s.rule r).overQuota ∧ ((s.afterDecision c).rule r).alerted = (s.rule r).alerted ∧
    ((s.afterDecision c).rule r).defn = (s.rule r).defn := by
  have armed : ∀ x : Rule, x.arm.hits = x.hits ∧ x.arm.window = x.window ∧ x.arm.overQuota = x.overQuota ∧
      x.arm.alerted = x.alerted ∧ x.arm.defn = x.defn := fun x => by
    rw [Rule.arm_eq_ite]
    split <;> exact ⟨rfl, rfl, rfl, rfl, rfl⟩
  have disarmed : ∀ x : Rule, x.disarm.hits = x.hits ∧ x.disarm.window = x.window ∧ x.disarm.overQuota = x.overQuota ∧
      x.disarm.alerted = x.alerted ∧ x.disarm.defn = x.defn := fun x => by
    rw [Rule.disarm_eq_ite]
    split <;> exact ⟨rfl, rfl, rfl, rfl, rfl⟩
  by_cases h : ArmedBy c.hits (s.rule r).defn
  · rw [afterDecision_armed h]
    exact armed _
  · rw [afterDecision_unarmed h]
    split
    · exact disarmed _
    · exact ⟨rfl, rfl, rfl, rfl, rfl⟩

theorem rules_ext {s t : State} (h : ∀ r, s.rule r = t.rule r) : s.rules = t.rules := Vector.ext fun i hi => h ⟨i, hi⟩

/-- The changes look at the rules alone. -/
theorem afterDecision_rules_congr {c c' : Changes} (hh : c'.hits = c.hits) (hz : c'.zeroed = c.zeroed) {s u : State}
    (h : u.rules = s.rules) : (u.afterDecision c').rules = (s.afterDecision c).rules := rules_ext fun r => by
  have same := rule_congr h r
  by_cases ha : ArmedBy c.hits (s.rule r).defn
  · rw [afterDecision_armed ha, afterDecision_armed (by rwa [hh, same]), same]
  · rw [afterDecision_unarmed ha, afterDecision_unarmed (by rwa [hh, same]), same, hz]

/-! ### The flags RULE and QUOTA (R37, R43, R164) -/

theorem flagSet_setFlag_if (s : State) (b : Bool) (g f : Flag) :
    (if b then s.setFlag g else s).alert.flagSet f = true ↔ s.alert.flagSet f = true ∨ (f = g ∧ b = true) := by
  cases b with
  | true =>
    refine (flagSet_setFlag s g f).trans ?_
    simp [or_comm]
  | false => simp

theorem hitRule_flagSet (s : State) (r : Fin 24) (f : Flag) : (s.hitRule r).alert.flagSet f = true ↔ s.alert.flagSet f = true ∨
    (f = .rule ∧ (s.rule r).defn.alertOnHit = true) ∨
    (f = .quota ∧ (s.rule r).hitOverQuota = true ∧ (s.rule r).overQuota = false) := by
  have quota := flagSet_setFlag_if
    (if (s.rule r).defn.alertOnHit then (s.setRule r (s.rule r).hit).setFlag .rule else s.setRule r (s.rule r).hit)
    ((s.rule r).hitOverQuota && !(s.rule r).overQuota) .quota f
  have beyond : ((s.rule r).hitOverQuota && !(s.rule r).overQuota) = true ↔
      (s.rule r).hitOverQuota = true ∧ (s.rule r).overQuota = false := by simp
  exact quota.trans ((or_congr (flagSet_setFlag_if (s.setRule r (s.rule r).hit) _ .rule f)
    (and_congr_right fun _ => beyond)).trans or_assoc)

theorem hits_flagSet {l : List (Fin 24)} (hl : l.Nodup) (s : State) (f : Flag) :
    (l.foldl hitRule s).alert.flagSet f = true ↔ s.alert.flagSet f = true ∨
      (f = .rule ∧ ∃ r ∈ l, (s.rule r).defn.alertOnHit = true) ∨
      (f = .quota ∧ ∃ r ∈ l, (s.rule r).hitOverQuota = true ∧ (s.rule r).overQuota = false) := by
  induction l generalizing s with
  | nil => simp
  | cons r l ih =>
    obtain ⟨hr, hl⟩ := List.nodup_cons.mp hl
    have others : ∀ j ∈ l, (s.hitRule r).rule j = s.rule j := fun j hj =>
      (hitRule_rule s r j).trans (if_neg fun e : r = j => hr (by rwa [e]))
    have alerted : (∃ j ∈ l, ((s.hitRule r).rule j).defn.alertOnHit = true) ↔ ∃ j ∈ l, (s.rule j).defn.alertOnHit = true :=
      exists_congr fun j => and_congr_right fun hj => by rw [others j hj]
    have beyond : (∃ j ∈ l, ((s.hitRule r).rule j).hitOverQuota = true ∧ ((s.hitRule r).rule j).overQuota = false) ↔
        ∃ j ∈ l, (s.rule j).hitOverQuota = true ∧ (s.rule j).overQuota = false :=
      exists_congr fun j => and_congr_right fun hj => by rw [others j hj]
    rw [List.foldl_cons, ih hl, hitRule_flagSet, alerted, beyond]
    simp only [List.mem_cons, exists_eq_or_imp, and_or_left, or_assoc]
    exact or_congr_right (or_congr_right or_left_comm)

/-- Every flag but those of the queues stays. -/
def QueueFlagsOnly (s t : State) : Prop := ∀ f, (∀ n, f ≠ .qo n) → (∀ n, f ≠ .qn n) → t.alert.flagSet f = s.alert.flagSet f

namespace QueueFlagsOnly

theorem refl (s : State) : QueueFlagsOnly s s := fun _ _ _ => rfl

theorem trans {s t u : State} (h : QueueFlagsOnly s t) (h' : QueueFlagsOnly t u) : QueueFlagsOnly s u :=
  fun f ho hn => (h' f ho hn).trans (h f ho hn)

theorem of_flags {s t : State} (h : t.alert.flags = s.alert.flags) : QueueFlagsOnly s t := fun f _ _ => by rw [Alert.flagSet, h]; rfl

theorem setFlag (s : State) {g : Flag} (hg : ∀ f : Flag, (∀ n, f ≠ .qo n) → (∀ n, f ≠ .qn n) → f ≠ g) :
    QueueFlagsOnly s (s.setFlag g) := fun f ho hn =>
  Bool.eq_iff_iff.mpr ((flagSet_setFlag s g f).trans ⟨fun h => h.resolve_left (hg f ho hn), .inr⟩)

theorem loseIn (s : State) (n : Fin 4) : QueueFlagsOnly s (s.loseIn n) :=
  (setFlag (s.setQueue n (s.queue n).lose) (g := .qo n) fun _ ho _ => ho n)

theorem placeAt (s : State) (w : Word) (n : Fin 4) (b : RecordBody) : QueueFlagsOnly s (s.placeAt w n b).1 := by
  unfold State.placeAt
  split
  · exact .of_flags rfl
  · exact loseIn (s.dropOldest n) n
  · exact loseIn s n

theorem judgeNotify (s : State) (n : Fin 4) (k : Nat) : QueueFlagsOnly s (s.judgeNotify n k) := by
  unfold State.judgeNotify
  dsimp only
  split
  · exact setFlag s fun _ _ hn => hn n
  · exact .refl s

theorem triggerTimer (s : State) (c : Fin 8) : QueueFlagsOnly s (s.triggerTimer c) := by
  unfold State.triggerTimer offerTo
  dsimp only
  split
  · exact .of_flags rfl
  next n _ => exact trans (t := s.setTimer c (s.timer c).triggered) (.of_flags rfl) ((placeAt _ _ n _).trans (judgeNotify _ n _))

theorem completeAll (s : State) (before : Vector Nat 4) (o : TxnOutcome) (d : Option Word) :
    QueueFlagsOnly s (s.completeAll before o d) :=
  trans (.of_flags (congrArg Alert.flags (mapQueues_alert s _))) (foldl_frame .refl .trans (fun s n => judgeNotify s n _) _ _)

theorem placeAll (t : Txn) (before : Option Word) (w : Word) (vs : List Reservation) (p : State × Bool) :
    QueueFlagsOnly p.1 (placeAll t before w vs p).1 := by
  induction vs generalizing p with
  | nil => exact .refl _
  | cons v vs ih => exact (placeAt p.1 w v.queue _).trans (ih _)

theorem reserve (t : Txn) (before : Option Word) (sub : Bool) (a : Action) (d : Word) (vs : List Reservation) (k : Nat) (w : Word)
    (s : State) : QueueFlagsOnly s (s.reserve t before sub a d vs k w).1 := by
  have placed : QueueFlagsOnly s (s.placed t before vs k w).1 := placeAll t before _ vs (s, false)
  have consulted : ∀ (v : Verdict) (u : State), QueueFlagsOnly u (u.consulted v) := fun v u => by
    unfold State.consulted
    split
    · exact .of_flags rfl
    · exact .refl u
  cases hv : (s.reserve t before sub a d vs k w).2 with
  | forward =>
    rw [reserve_of_forward hv]
    exact placed
  | ended o y =>
    rw [reserve_of_ended hv]
    exact placed.trans ((completeAll _ _ o _).trans (consulted _ _))

end QueueFlagsOnly

/-! ### The placement touches the gate and the records alone -/

theorem reserve_gateFrame (t : Txn) (before : Option Word) (sub : Bool) (a : Action) (d : Word) (vs : List Reservation) (k : Nat)
    (w : Word) (s : State) : GateFrame s (s.reserve t before sub a d vs k w).1 := by
  obtain ⟨u, h, e⟩ := reserve_consulted t before sub a d vs k w s
  have consulted : ∀ (v : Verdict) (u : State), GateFrame u (u.consulted v) := fun v u => by
    unfold State.consulted
    split
    · exact .gate u _
    · exact .refl u
  rw [e]
  exact (GateFrame.of_records h).trans (consulted _ u)

end State

end Sys2Proof.Machine
end

section
/-! What a decision leaves in the rules, the channels and the flags, and how a command comes to it (R10 to R14, R37, R43 to R45, R147,
R164). -/

namespace Sys2Proof.Machine

namespace State

/-! ### Rules and channels after a decision -/

/-- Triggers and the placement leave the rules: the hits alone change them (R45). -/
theorem decision_rules {t : Txn} (h : insideOf t.between = []) (before : Option Word) (sub : Bool) (s : State) :
    (s.decision t before sub).state.rules = ((s.hitsOf t before).foldl hitRule s).rules := by
  obtain ⟨quiet, first, last, stamp, parted⟩ := exists_parted t before sub s
  exact parted.through (R := fun s u => u.rules = s.rules) (fun _ => rfl) (fun h h' => h'.trans h) (fun _ => rfl) triggerTimer_rules
    (fun m hm => absurd (h ▸ hm) nofun) (fun u => (reserve_gateFrame t before sub _ _ _ _ _ u).rules)

theorem rule_decision {t : Txn} (h : insideOf t.between = []) (before : Option Word) (sub : Bool) (s : State) (r : Fin 24) :
    (s.decision t before sub).state.rule r = if r ∈ s.hitsOf t before then (s.rule r).hit else s.rule r :=
  (rule_congr (decision_rules h before sub s) r).trans (hits_rule (hitsOf_nodup t before s) s r)

theorem timer_passPart (s : State) {p : DecisionPart} (h : ∀ m, p ≠ .meet m) (c : Fin 8) :
    (s.passPart p).timer c = if p = .trigger c then (s.timer c).triggered else s.timer c := by
  cases p with
  | reserve | read => exact (if_neg nofun).symm
  | meet m => exact absurd rfl (h m)
  | trigger d =>
    refine (timer_triggerTimer s d c).trans ?_
    by_cases e : d = c
    · subst e
      simp
    · have other : DecisionPart.trigger d ≠ .trigger c := fun he => e (DecisionPart.trigger.inj he)
      rw [if_neg e, if_neg other]

/-- The channels that parts trigger, each once. -/
theorem timer_foldl_passPart {l : List DecisionPart} (hl : l.Nodup) (hm : ∀ m, .meet m ∉ l) (s : State) (c : Fin 8) :
    (l.foldl passPart s).timer c = if .trigger c ∈ l then (s.timer c).triggered else s.timer c := by
  induction l generalizing s with
  | nil => rfl
  | cons p ps ih =>
    obtain ⟨hp, hps⟩ := List.nodup_cons.mp hl
    rw [List.foldl_cons, ih hps fun m h => hm m (List.mem_cons_of_mem p h),
      timer_passPart s fun m e => hm m (e ▸ List.mem_cons_self)]
    by_cases e : p = .trigger c
    · subst e
      simp [hp]
    · simp [e, Ne.symm e]

/-- A channel depends on what it was alone. -/
theorem timer_foldl_congr {l : List DecisionPart} (hm : ∀ m, .meet m ∉ l) {s u : State} {c : Fin 8} (h : u.timer c = s.timer c) :
    (l.foldl passPart u).timer c = (l.foldl passPart s).timer c := by
  induction l generalizing s u with
  | nil => exact h
  | cons p ps ih =>
    have unmet : ∀ m, p ≠ .meet m := fun m e => hm m (e ▸ List.mem_cons_self)
    refine ih (fun m h => hm m (List.mem_cons_of_mem p h)) ?_
    rw [timer_passPart u unmet, timer_passPart s unmet, h]

theorem mem_hitTriggers {t : Txn} {before : Option Word} {s : State} {c : Fin 8} :
    c ∈ s.hitTriggers t before ↔ ∃ k ∈ s.hitsOf t before, (s.timer c).trigger = .rule k.val := by
  simp [hitTriggers, triggeredBy, allTimers]

/-- The channels that a hit triggers are triggered once each, and no other channel moves (R44, R115). -/
theorem timer_decision {t : Txn} (h : insideOf t.between = []) (before : Option Word) (sub : Bool) (s : State) (c : Fin 8) :
    (s.decision t before sub).state.timer c =
      if c ∈ s.hitTriggers t before then (s.timer c).triggered else s.timer c := by
  obtain ⟨quiet, first, last, stamp, parted⟩ := exists_parted t before sub s
  have perm := parted.triggers h
  let all : List DecisionPart := quiet.map .trigger ++ (first ++ last)
  have distinct : ((s.hitTriggers t before).map DecisionPart.trigger).Nodup :=
    (nodup_triggeredBy s _).map fun _ _ e => DecisionPart.trigger.inj e
  have nodup : all.Nodup := perm.nodup_iff.mpr distinct
  have unmet : ∀ m, .meet m ∉ all := fun m hm => by simpa using perm.mem_iff.mp hm
  have unmetLast : ∀ m, .meet m ∉ last := fun m hm => unmet m (List.mem_append_right _ (List.mem_append_right _ hm))
  have unmetFirst : ∀ m, .meet m ∉ first := fun m hm => unmet m (List.mem_append_right _ (List.mem_append_left _ hm))
  have hits : ((s.hitsOf t before).foldl hitRule s).timer c = s.timer c :=
    timer_congr (foldl_frame (R := fun s u : State => u.timers = s.timers) (fun _ => rfl) (fun h h' => h'.trans h)
      (fun u r => by
        unfold hitRule
        dsimp only
        split <;> split <;> rfl) _ s) c
  let u := (s.hitsOf t before).foldl hitRule s
  have begun : (s.partsBegin t before quiet).timer c = ((quiet.map DecisionPart.trigger).foldl passPart u).timer c := by
    rw [List.foldl_map]
    rfl
  have placed : ∀ v : State, (s.placement t before sub stamp v).1.timer c = v.timer c := fun v =>
    timer_congr (reserve_gateFrame t before sub _ _ _ _ _ v).timers c
  have folded : (s.decision t before sub).state.timer c = (all.foldl passPart u).timer c := by
    rw [parted.state, List.foldl_append, List.foldl_append]
    exact timer_foldl_congr unmetLast ((placed _).trans (timer_foldl_congr unmetFirst begun))
  have member : .trigger c ∈ all ↔ c ∈ s.hitTriggers t before := by
    rw [perm.mem_iff]
    simp
  rw [folded, timer_foldl_passPart nodup unmet u c, hits]
  by_cases hc : c ∈ s.hitTriggers t before
  · rw [if_pos (member.mpr hc), if_pos hc]
  · rw [if_neg (mt member.mp hc), if_neg hc]

/-- The flags but those of the queues: a hit alone sets one (R43, R164). -/
theorem flagSet_decision {t : Txn} (h : insideOf t.between = []) (before : Option Word) (sub : Bool) (s : State) {f : Flag}
    (ho : ∀ n, f ≠ .qo n) (hn : ∀ n, f ≠ .qn n) :
    (s.decision t before sub).state.alert.flagSet f = ((s.hitsOf t before).foldl hitRule s).alert.flagSet f := by
  obtain ⟨quiet, first, last, stamp, parted⟩ := exists_parted t before sub s
  exact parted.through .refl .trans (fun _ => .of_flags rfl) QueueFlagsOnly.triggerTimer
    (fun m hm => absurd (h ▸ hm) nofun) (fun u => .reserve t before sub _ _ _ _ _ u) f ho hn

/-! ### A decision met by nothing -/

theorem afterDecision_fields (c : Changes) (s : State) : (s.afterDecision c).queues = s.queues ∧
    (s.afterDecision c).timers = s.timers ∧ (s.afterDecision c).alert = s.alert := by
  rw [afterDecision_rulesOnly]
  exact ⟨rfl, rfl, rfl⟩

variable (t : Txn) (before : Option Word) (sub : Bool) (s : State) (r : Fin 24)

/-- A rule that a hit of the decision arms (R45). -/
theorem decideTxn_armed (h : ArmedBy (s.hitsOf t before) (s.rule r).defn) :
    (s.decideTxn t before sub).1.rule r = (if r ∈ s.hitsOf t before then (s.rule r).hit else s.rule r).arm := by
  have rule := rule_decision (t := { t with between := [] }) rfl before sub s r
  have defn : ((s.decision { t with between := [] } before sub).state.rule r).defn = (s.rule r).defn := by
    rw [rule]
    split <;> rfl
  have armed : ArmedBy (s.decision { t with between := [] } before sub).changes.hits
      ((s.decision { t with between := [] } before sub).state.rule r).defn := by
    rw [defn, decision_hits, hitsOf_between]
    exact h
  refine (afterDecision_armed armed).trans ?_
  rw [rule, hitsOf_between]

/-- A rule that no hit of the decision arms. -/
theorem decideTxn_unarmed (h : ¬ ArmedBy (s.hitsOf t before) (s.rule r).defn) :
    (s.decideTxn t before sub).1.rule r =
      if r ∈ s.hitsOf t before then (if (s.rule r).countdown = 1 then (s.rule r).hit.disarm else (s.rule r).hit) else s.rule r := by
  have rule := rule_decision (t := { t with between := [] }) rfl before sub s r
  have defn : ((s.decision { t with between := [] } before sub).state.rule r).defn = (s.rule r).defn := by
    rw [rule]
    split <;> rfl
  have unarmed : ¬ ArmedBy (s.decision { t with between := [] } before sub).changes.hits
      ((s.decision { t with between := [] } before sub).state.rule r).defn := by
    rw [defn, decision_hits, hitsOf_between]
    exact h
  refine (afterDecision_unarmed unarmed).trans ?_
  rw [rule, decision_zeroed, hitsOf_between]
  by_cases hr : r ∈ s.hitsOf t before
  · by_cases hc : (s.rule r).countdown = 1
    · rw [if_pos (List.mem_filter.mpr ⟨hr, by simp [hc]⟩), if_pos hr, if_pos hr, if_pos hc]
    · rw [if_neg fun hz => hc (by simpa using (List.mem_filter.mp hz).2), if_pos hr, if_pos hr, if_neg hc]
  · rw [if_neg fun hz => hr (List.mem_filter.mp hz).1, if_neg hr, if_neg hr]

/-- The counts of a rule after a decision (R10, R11). -/
theorem decideTxn_counts (y z : Rule) (hy : y = (s.decideTxn t before sub).1.rule r)
    (hz : z = if r ∈ s.hitsOf t before then (s.rule r).hit else s.rule r) :
    y.hits = z.hits ∧ y.window = z.window ∧ y.overQuota = z.overQuota ∧ y.alerted = z.alerted ∧ y.defn = z.defn := by
  have rule := rule_decision (t := { t with between := [] }) rfl before sub s r
  rw [hitsOf_between, ← hz] at rule
  rw [hy, ← rule]
  exact afterDecision_counts _ _ r

end State

/-! ### Quotas in the terms of the statements -/

theorem Rule.hitOverQuota_iff (x : Rule) :
    x.hitOverQuota = true ↔ wbit x.defn.control 16 = true ∧ (fld x.defn.quotaArming 0 12).toNat ≤ x.window.toNat := by
  simp only [hitOverQuota, Bool.and_eq_true, decide_eq_true_eq, BitVec.le_def]
  rfl

theorem satInc_hits (x : BitVec 16) : satInc x = if x = 65535 then 65535 else x + 1 := by
  have top : BitVec.allOnes 16 = 65535 := rfl
  unfold satInc
  rw [top]
  by_cases h : x = 65535
  · rw [if_pos h, if_pos h, h]
  · rw [if_neg h, if_neg h]

/-- Settles O9. -/
theorem hitsCountOnceAtTheDecision : Obligations.HitsCountOnceAtTheDecision := by
  refine ⟨fun s t before sub => ?_, fun s t before sub r => ?_⟩
  · have alert : (s.decideTxn t before sub).1.alert = (s.decision { t with between := [] } before sub).state.alert :=
      (State.afterDecision_fields _ _).2.2
    have flag : ∀ f, (∀ n, f ≠ .qo n) → (∀ n, f ≠ .qn n) → ((s.decideTxn t before sub).1.alert.flagSet f = true ↔
        ((s.hitsOf t before).foldl State.hitRule s).alert.flagSet f = true) := fun f ho hn => by
      rw [alert, State.flagSet_decision (t := { t with between := [] }) rfl before sub s ho hn, State.hitsOf_between]
    have hits := State.hits_flagSet (State.hitsOf_nodup t before s) s
    refine ⟨(flag .rule nofun nofun).trans ((hits .rule).trans ?_), (flag .quota nofun nofun).trans ((hits .quota).trans ?_)⟩
    · simp only [true_and, reduceCtorEq, false_and, or_false]
      rfl
    · simp only [true_and, reduceCtorEq, false_and, false_or, Rule.hitOverQuota_iff, and_assoc]
      rfl
  · intro old hits x y
    have counts := State.decideTxn_counts t before sub s r y _ rfl rfl
    refine ⟨fun hr => ?_, fun hr => ?_, ?_⟩
    · rw [if_pos (show r ∈ s.hitsOf t before from hr)] at counts
      obtain ⟨hhits, hwindow, hover, halert, -⟩ := counts
      refine ⟨hhits.trans (satInc_hits _), hwindow.trans ?_, hover, halert⟩
      have beyond : (x.defn.quota && !x.hitOverQuota) = true ↔ x.defn.quota = true ∧ x.window < x.defn.quotaLimit := by
        simp only [Rule.hitOverQuota, Bool.and_eq_true, Bool.not_eq_true', Bool.and_eq_false_iff, decide_eq_false_iff_not, BitVec.not_le]
        constructor
        · exact fun ⟨hq, h⟩ => ⟨hq, h.resolve_left (by rw [hq]; exact nofun)⟩
        · exact fun ⟨hq, h⟩ => ⟨hq, .inr h⟩
      change (if (x.defn.quota && !x.hitOverQuota) = true then x.window + 1 else x.window) = _
      by_cases hb : x.defn.quota = true ∧ x.window < x.defn.quotaLimit
      · rw [if_pos (beyond.mpr hb), if_pos hb]
      · rw [if_neg (mt beyond.mp hb), if_neg hb]
    · rw [if_neg (show r ∉ s.hitsOf t before from hr)] at counts
      obtain ⟨hhits, hwindow, hover, halert, -⟩ := counts
      exact ⟨hhits, hwindow, hover, halert⟩
    · refine counts.2.2.2.2.trans ?_
      split <;> rfl

end Sys2Proof.Machine
end

section
/-! The changes of a decision and what a command does with it (R20, R23, R28, R29, R44, R45, R60, R115, R147, R149). -/

namespace Sys2Proof.Machine

namespace Rule

variable {x : Rule}

theorem disarm_countdown (x : Rule) : x.disarm.countdown = x.countdown := by
  rw [disarm_eq_ite]
  split <;> rfl

theorem hit_countdown_last (h : x.countdown = 1) : x.hit.countdown = 0 := by
  rw [hit_countdown, h]
  rfl

theorem hit_countdown_left (h : x.countdown ≠ 0) : x.hit.countdown = x.countdown - 1 := by rw [hit_countdown, if_neg h]

end Rule

namespace State

/-! ### A command that decides -/

/-- The changes that a decision leaves to come. -/
theorem decision_changes (t : Txn) (before : Option Word) (sub : Bool) (s : State) : (s.decision t before sub).changes =
    ⟨s.hitsOf t before, (s.hitsOf t before).filter fun r => (s.rule r).countdown == 1, t.between⟩ := rfl

theorem scan_congr {s u : State} (h : u.rules = s.rules) (t : Txn) (new old : Word) (l : List (Fin 24)) :
    u.scan t new old l = s.scan t new old l := by
  induction l with
  | nil => rfl
  | cons r rs ih =>
    unfold scan
    rw [ih, rule_congr h r]

variable (s u : State) (x : Txn) (before : Option Word) (sub : Bool)

/-- What a decision that nothing falls inside comes to is what the bare decision comes to. -/
theorem decideTxn_of_nothing_inside (h : insideOf x.between = []) :
    (u.decideTxn x before sub).2 = (u.decision x before sub).verdict ∧
    ((s.afterCarryOut x (u.decision x before sub)).afterDecision (u.decision x before sub).changes).rules =
      (u.decideTxn x before sub).1.rules ∧
    (s.afterCarryOut x (u.decision x before sub)).queues = (u.decideTxn x before sub).1.queues ∧
    (s.afterCarryOut x (u.decision x before sub)).timers = (u.decideTxn x before sub).1.timers ∧
    (s.afterCarryOut x (u.decision x before sub)).alert.flags = (u.decideTxn x before sub).1.alert.flags := by
  obtain ⟨state, verdict⟩ := decision_of_nothing_inside h before sub u
  have changes : (u.decision { x with between := [] } before sub).changes.hits = (u.decision x before sub).changes.hits ∧
      (u.decision { x with between := [] } before sub).changes.zeroed = (u.decision x before sub).changes.zeroed := by
    rw [decision_changes, decision_changes, hitsOf_between]
    exact ⟨rfl, rfl⟩
  have bare : (u.decideTxn x before sub).1 =
      (u.decision x before sub).state.afterDecision (u.decision { x with between := [] } before sub).changes := by
    rw [decideTxn, state]
  obtain ⟨queues, timers, alert⟩ := afterDecision_fields (u.decision { x with between := [] } before sub).changes
    (u.decision x before sub).state
  obtain ⟨p, b, carried⟩ := carryOut_eq x (u.decision x before sub).verdict (u.decision x before sub).state
  rw [bare, queues, timers, alert]
  refine ⟨verdict, ?_, ?_, ?_, ?_⟩
  · refine (afterDecision_rules_congr changes.1 changes.2 ?_).symm
    rw [afterCarryOut, endCommand_rules, carried]
  · rw [afterCarryOut, endCommand_queues, carried]
  · rw [afterCarryOut, endCommand_timers, carried]
  · rw [afterCarryOut, endCommand_alert, Alert.commandEnds_flags, carried]

/-- The path and the gate that a decided transaction leaves, when it goes on and when it is over. -/
theorem afterCarryOut_path : (s.afterCarryOut x (u.decision x before sub)).path = match (u.decision x before sub).verdict with
    | .forward => u.path.begin .forward { x with between := afterDeciding x.between }
    | .ended _ a => u.path.finish (some a) := by
  have path := (decision_momentFrame x before sub u).path
  rw [afterCarryOut, endCommand_path]
  cases (u.decision x before sub).verdict with
  | forward => rw [carryOut_forward, path]
  | ended o a => rw [carryOut_ended, finishTxn_path, path]

theorem afterCarryOut_gate (h : insideOf x.between = []) : (s.afterCarryOut x (u.decision x before sub)).gate =
    match (u.decision x before sub).verdict with
    | .forward => { u.gate with inFlight := u.gate.inFlight || x.kind == .write }
    | .ended o _ => { u.gate with refused := if o = .gated then satInc u.gate.refused else u.gate.refused } := by
  have gate := decision_gate x before sub u h
  rw [afterCarryOut, endCommand_gate]
  cases hv : (u.decision x before sub).verdict with
  | forward =>
    rw [hv] at gate
    rw [carryOut_forward, gate]
    rfl
  | ended o a =>
    rw [hv] at gate
    rw [carryOut_ended, finishTxn_gate, gate]
    cases o <;> rfl

end State

/-! ### The changes follow the decision (R45) -/

/-- The first half of R45, at one rule. -/
theorem decideTxn_changes (s : State) (t : Txn) (before : Option Word) (sub : Bool) (r : Fin 24) :
    let hits := s.hitsOf t before
    let x := s.rule r
    let y := (s.decideTxn t before sub).1.rule r
    let armed := State.ArmedBy hits x.defn
    (armed → x.state ≠ .disabled → y.state = .live ∧ y.countdown = x.defn.countdownLoad) ∧
    (¬ armed → r ∈ hits → x.countdown = 1 → y.state = .dormant ∧ y.countdown = 0) ∧
    (¬ armed → (r ∉ hits ∨ x.countdown ≠ 1) → y.state = x.state) ∧
    (¬ armed → r ∉ hits → y.countdown = x.countdown) ∧
    (¬ armed → r ∈ hits → x.countdown ≠ 0 → y.countdown = x.countdown - 1) ∧
    (x.state = .disabled → y.state = .disabled) := by
  intro hits x y armed
  have whenArmed : armed → y = (if r ∈ hits then x.hit else x).arm := State.decideTxn_armed t before sub s r
  have unarmed : ¬ armed → y = if r ∈ hits then (if x.countdown = 1 then x.hit.disarm else x.hit) else x :=
    State.decideTxn_unarmed t before sub s r
  refine ⟨fun ha hs => ?_, fun ha hr hc => ?_, fun ha h => ?_, fun ha hr => ?_, fun ha hr hc => ?_, fun hs => ?_⟩
  · rw [whenArmed ha]
    split
    · rw [Rule.arm_of_enabled (by rwa [Rule.hit_state])]
      exact ⟨rfl, rfl⟩
    · rw [Rule.arm_of_enabled hs]
      exact ⟨rfl, rfl⟩
  · have live : x.hit.state = .live := State.hitsOf_live hr
    rw [unarmed ha, if_pos hr, if_pos hc, Rule.disarm_of_live live]
    exact ⟨rfl, Rule.hit_countdown_last hc⟩
  · rw [unarmed ha]
    split
    next hr => rw [if_neg (h.resolve_left (not_not.mpr hr)), Rule.hit_state]
    · rfl
  · rw [unarmed ha, if_neg hr]
  · rw [unarmed ha, if_pos hr]
    split
    · rw [Rule.disarm_countdown, Rule.hit_countdown_left hc]
    · exact Rule.hit_countdown_left hc
  · have missed : r ∉ hits := fun hr => absurd (hs.symm.trans (State.hitsOf_live hr)) nofun
    by_cases ha : armed
    · rw [whenArmed ha, if_neg missed, Rule.arm_of_disabled hs, hs]
    · rw [unarmed ha, if_neg missed, hs]

/-- Settles O10. -/
theorem noticesOfHitsActAfterTheDecision : Obligations.NoticesOfHitsActAfterTheDecision := by
  refine ⟨fun s t before sub r => decideTxn_changes s t before sub r, fun s t before sub c => ?_, fun s c r => ?_,
    fun s q hq h hh => ?_⟩
  · intro old hits y
    have timers : (s.decideTxn t before sub).1.timers = (s.decision { t with between := [] } before sub).state.timers :=
      (State.afterDecision_fields _ _).2.1
    have timer : y = if c ∈ s.hitTriggers { t with between := [] } before then (s.timer c).triggered else s.timer c :=
      (State.timer_congr timers c).trans (State.timer_decision (t := { t with between := [] }) rfl before sub s c)
    have named : c ∈ s.hitTriggers { t with between := [] } before ↔ ∃ k ∈ hits, (s.timer c).trigger = .rule k.val := by
      rw [State.mem_hitTriggers, State.hitsOf_between]
      rfl
    refine ⟨fun hk => ?_, fun hk => ?_⟩
    · rw [timer, if_pos (named.mpr hk), State.timer_triggerTimer, if_pos rfl]
    · rw [timer, if_neg fun hc => by
        obtain ⟨k, hk', he⟩ := named.mp hc
        exact hk k hk' he]
  · intro x y armed
    have whenArmed : armed → y = x.arm := State.afterDecision_armed
    have unarmed : ¬ armed → y = if r ∈ c.zeroed then x.disarm else x := State.afterDecision_unarmed
    refine ⟨fun hs => ?_, fun ha hs => (whenArmed ha).trans (Rule.arm_of_enabled hs), fun ha hz hs => ?_, fun ha hz => ?_⟩
    · by_cases ha : armed
      · exact (whenArmed ha).trans (Rule.arm_of_disabled hs)
      · have still : x.disarm = x := Rule.disarm_of_not_live (by rw [hs]; exact nofun)
        rw [unarmed ha, still, ite_self]
    · rw [unarmed ha, if_pos hz, Rule.disarm_eq_ite]
      split
      · rfl
      next hl =>
        have dormant : x.state = .dormant := by
          cases hx : x.state with
          | disabled => exact absurd hx hs
          | dormant => rfl
          | live => exact absurd hx hl
        rw [← dormant]
    · rw [unarmed ha, if_neg hz]
  · intro x s' hits hr hw hp
    have same : s'.hitsOf x none = hits := congrArg Prod.fst (State.scan_congr (s := s) (u := s') rfl x x.data 0 allRules)
    have changes := State.decision_changes x none false s'
    refine ⟨s.afterCarryOut x (s'.decision x none false), (s'.decision x none false).changes, ?_, ?_, ?_, fun hi => ?_⟩
    · rw [changes, same]
    · rw [changes, same]
      rfl
    · rw [exec_upstreamRequest_decided hq hh h hr hw hp, State.thenChanges_decided, same]
    · exact (State.decideTxn_of_nothing_inside s s' x none false hi).2

end Sys2Proof.Machine
end

section
/-! The write that needs the before word (R23, R28, R29, R51, R57), and the end of its pre-read (R60, R62, R73). -/

namespace Sys2Proof.Machine

/-! ### What calls for the before word (R28) -/

namespace RuleDef

variable (d : RuleDef)

/-- The mask reaches into a lane that the write does not carry. -/
theorem reachesOutside_iff (lanes : Lanes) : d.dataMask &&& ~~~laneMask lanes ≠ 0 ↔
    ∃ i : Fin 32, wbit d.dataMask i.val = true ∧ lanes.getLsbD (i.val / 8) = false := by
  have bit : ∀ i : Fin 32, (d.dataMask &&& ~~~laneMask lanes).getLsbD i.val = true ↔
      wbit d.dataMask i.val = true ∧ lanes.getLsbD (i.val / 8) = false := fun i => by
    rw [BitVec.getLsbD_and, BitVec.getLsbD_not, laneMask_getLsbD, Bool.and_eq_true, decide_eq_true i.isLt, Bool.true_and,
      Bool.not_eq_true']
    rfl
  rw [← exists_congr bit]
  constructor
  · intro h
    by_contra hn
    refine h (BitVec.eq_of_getLsbD_eq fun i hi => ?_)
    exact (Bool.eq_false_iff.mpr fun ht => hn ⟨⟨i, hi⟩, ht⟩).trans BitVec.getLsbD_zero.symm
  · rintro ⟨i, hi⟩ h
    rw [h] at hi
    exact absurd (BitVec.getLsbD_zero.symm.trans hi) nofun

theorem needsBefore_iff (lanes : Lanes) : d.needsBefore lanes = true ↔
    (1 ≤ (fld d.control 3 3).toNat ∧ (fld d.control 3 3).toNat ≤ 5 ∧
      (fld d.control 3 3 = 5 ∨ wbit d.control 6 = true ∨
        ∃ i : Fin 32, wbit d.dataMask i.val = true ∧ lanes.getLsbD (i.val / 8) = false)) ∨
    (wbit d.control 10 = true ∧ fld d.control 13 2 = 2) := by
  have condition := d.hasCondition_iff
  have changed := d.op_changed_iff
  have content := d.content_withBefore_iff
  have outside := d.reachesOutside_iff lanes
  simp only [needsBefore, Bool.or_eq_true, Bool.and_eq_true, beq_iff_eq, bne_iff_ne]
  rw [condition, changed, content, outside]
  simp only [and_assoc, or_assoc]
  rfl

end RuleDef

namespace State

theorem needsPreread_iff {s : State} {t : Txn} (hk : t.kind = .write) : s.needsPreread t = true ↔
    ∃ r, (s.rule r).candidate .write t.addr = true ∧ (s.rule r).defn.needsBefore t.lanes = true := by
  simp [needsPreread, hk, allRules]

/-! ### The access in progress (R51) -/

theorem downstreamAccess_idle {s : State} (h : s.path.phase = .idle) : s.downstreamAccess = none := by
  simp only [downstreamAccess, h]

theorem downstreamAccess_preread {s : State} {x : Txn} (h : s.path.phase = .preread) (hx : s.path.txn = some x) :
    s.downstreamAccess = some (.read x.addr) := by simp only [downstreamAccess, h, hx]

theorem downstreamAccess_forward {s : State} {x : Txn} (h : s.path.phase = .forward) (hx : s.path.txn = some x) :
    s.downstreamAccess = match x.kind with
      | .read => some (.read x.addr)
      | .write => some (.write x.addr x.lanes x.data) := by
  simp only [downstreamAccess, h, hx] <;> rfl

/-! ### The pre-read (R57, R58, R65, R68) -/

theorem startTxn_preread {s : State} {t : Txn} (hg : s.gate.state = .opened) (hn : s.needsPreread t = true)
    (hp : s.path.port = .ready) : s.startTxn t = ({ s with path := s.path.begin .preread t } : State).undecided := by
  rw [startTxn, if_neg fun h => h.2 hg, if_pos hn, if_neg (by rw [hp]; exact nofun)]

theorem startTxn_substitute {s : State} {t : Txn} (hg : s.gate.state = .opened) (hn : s.needsPreread t = true)
    (hp : s.path.port = .down) : s.startTxn t = s.decideAndCarryOut t none true := by
  rw [startTxn, if_neg fun h => h.2 hg, if_pos hn, if_pos hp]

/-- On the zero substitute a write ends PATH_DOWN, whatever is decided (R23). -/
theorem verdict_substitute (t : Txn) (before : Option Word) (s : State) :
    (s.decision t before true).verdict = .ended .pathDown .error := by
  obtain ⟨quiet, first, last, stamp, parted⟩ := exists_parted t before true s
  rw [parted.verdict, placement, reserve_verdict]
  rfl

end State

/-- Settles O12. -/
theorem writeNeedingTheBeforeWordEntersPreread : Obligations.WriteNeedingTheBeforeWordEntersPreread := by
  refine ⟨fun s => ⟨State.downstreamAccess_idle, fun x hx => ⟨fun h => State.downstreamAccess_preread h hx, fun h hk => ?_, fun h hk => ?_⟩⟩,
    fun s a lanes d bs hl h hh hg => ?_⟩
  · rw [State.downstreamAccess_forward h hx, hk]
  · rw [State.downstreamAccess_forward h hx, hk]
  · intro needs
    let x := writeTxn s a lanes d bs
    let s' := s.presented
    let hits := (s.scan x x.data 0 allRules).1
    have notDraining : s.gate.state ≠ .draining := by
      rw [hg]
      exact nofun
    have started := exec_upstreamRequest_started (q := .write a lanes d bs) (Request.write_wf hl) hh h notDraining
    have needed : s'.needsPreread x = true ↔ ∃ r, (s.rule r).candidate .write (byteAddr a) = true ∧ needs r :=
      (State.needsPreread_iff (s := s') (t := x) rfl).trans
        (exists_congr fun r => and_congr_right fun _ => (s.rule r).defn.needsBefore_iff lanes)
    refine ⟨fun hn => ⟨fun hp => ?_, fun hp => ?_, fun hp => ?_⟩, fun hn => ?_⟩
    · rw [started]
      refine (congrArg (fun p => Host.Outcome.next (s.thenChanges p))
        (State.startTxn_preread (s := s') (t := x) hg (needed.mpr hn) hp)).trans ?_
      rw [State.thenChanges_undecided_of_alert (by rfl)]
      simp only [s', x, Path.begin, hh]
      rfl
    · rw [started]
      refine ⟨_, rfl, (State.thenChanges_path s _).trans ?_⟩
      have decided := State.startTxn_substitute (s := s') (t := x) hg (needed.mpr hn) hp
      have path := State.afterCarryOut_path s s' x none true
      rw [State.verdict_substitute] at path
      refine (congrArg (fun p : State × Changes => p.1.path) decided).trans (path.trans ?_)
      simp only [s', Path.finish, hh]
    · have decided := State.startTxn_substitute (s := s') (t := x) hg (needed.mpr hn) hp
      have path := State.afterCarryOut_path s s' x none true
      have gate := State.afterCarryOut_gate s s' x none true
      have nothing := State.decideTxn_of_nothing_inside s s' x none true
      have same : s'.hitsOf x none = hits := congrArg Prod.fst (State.scan_congr (s := s) (u := s') rfl x x.data 0 allRules)
      have changes := State.decision_changes x none true s'
      have verdict := State.verdict_substitute x none s'
      rw [verdict] at path gate nothing
      refine ⟨?_, s.afterCarryOut x (s'.decision x none true), (s'.decision x none true).changes, ?_, ?_, ?_, ?_, fun hi => ?_⟩
      · exact State.verdict_substitute { x with between := [] } none s'
      · rw [changes, same]
      · rw [changes, same]
        rfl
      · rw [started]
        refine (congrArg (fun p => Host.Outcome.next (s.thenChanges p)) decided).trans ?_
        rw [State.thenChanges_decided, same]
      · exact congrArg Path.answer path
      · obtain ⟨-, rules, queues, timers, flags⟩ := nothing hi
        exact ⟨rules, queues, timers, flags, gate hi⟩
    · have none : s.needsPreread x = false := Bool.eq_false_iff.mpr fun hp => by
        obtain ⟨r, hc, hr⟩ := needed.mp hp
        exact hn r hc hr
      rw [exec_upstreamRequest_decided (q := .write a lanes d bs) (Request.write_wf hl) hh h nofun (fun _ => hg) none]
      refine ⟨_, rfl, ?_⟩
      rw [State.thenChanges_path]
      exact State.carryOut_phase_ne_preread _ _ _

end Sys2Proof.Machine
end

section
/-! The end of a pre-read by its completion (R27, R29, R60, R62, R73). -/

namespace Sys2Proof.Machine

/-- The carried lanes come from the write, the others from memory (R29). -/
theorem effectiveNew_getLsbD (t : Txn) (w : Word) (i : Fin 32) : (effectiveNew t w).getLsbD i.val =
    if t.lanes.getLsbD (i.val / 8) then t.data.getLsbD i.val else w.getLsbD i.val := by
  unfold effectiveNew
  rw [BitVec.getLsbD_or, BitVec.getLsbD_and, BitVec.getLsbD_and, BitVec.getLsbD_not, laneMask_getLsbD, decide_eq_true i.isLt]
  cases t.lanes.getLsbD (i.val / 8) <;> simp

namespace State

variable {s : State} {t : Txn}

/-- The state in which the word of a pre-read is decided. -/
abbrev fetched (s : State) : State := { s with path := s.path.accessDone }

theorem prereadEnds_ok (ha : s.path.abandoned = false) (w : Word) :
    s.prereadEnds t (.ok w) = s.fetched.decideAndCarryOut t (some w) false := by
  unfold prereadEnds
  exact if_neg (by rw [ha]; exact nofun)

theorem prereadEnds_memErr (ha : s.path.abandoned = false) :
    s.prereadEnds t .memErr = ((s.fetched.setFlag .path).finishTxn (some .error)).undecided := by
  unfold prereadEnds
  exact if_neg (by rw [ha]; exact nofun)

theorem prereadEnds_abandoned (ha : s.path.abandoned = true) (c : Completion) :
    s.prereadEnds t c = ((s.fetched.flagMemErr c).finishTxn none).undecided := by
  unfold prereadEnds
  exact if_pos ha

end State

section completed

variable {s : State} {t : Txn} (hpow : s.powered = true) (hphase : s.path.phase = .preread) (htxn : s.path.txn = some t)
include hpow hphase htxn

/-- A pre-read that completes with a word and is not abandoned is decided. -/
theorem exec_prereadComplete_ok (ha : s.path.abandoned = false) (w : Word) : exec (.prereadComplete (.ok w)) s =
    .next (s.thenChanges (s.fetched.decideAndCarryOut t (some w) false)) := by
  rw [exec_prereadComplete_of_preread hpow hphase htxn, State.prereadEnds_ok ha]

theorem exec_prereadComplete_memErr (ha : s.path.abandoned = false) : exec (.prereadComplete .memErr) s = .next { s with
    path := { s.path with phase := .idle, txn := none, answer := some .error, port := .ready, limitTimer := none }
    alert := (s.alert.setFlag s.timebase.tapCount .path).commandEnds s.alert.lastTick } := by
  rw [exec_prereadComplete_of_preread hpow hphase htxn, State.prereadEnds_memErr ha, State.thenChanges_undecided]
  simp only [State.endCommand, State.finishTxn, Path.finish, Path.accessDone, State.setFlag, ha]

theorem exec_prereadComplete_abandoned (ha : s.path.abandoned = true) :
    exec (.prereadComplete .memErr) s = .next { s with
      path := { s.path with phase := .idle, txn := none, abandoned := false, answer := none, port := .ready, limitTimer := none }
      alert := (s.alert.setFlag s.timebase.tapCount .path).commandEnds s.alert.lastTick } ∧
    ∀ w, exec (.prereadComplete (.ok w)) s = .next { s with
      path := { s.path with phase := .idle, txn := none, abandoned := false, answer := none, port := .ready, limitTimer := none } } := by
  refine ⟨?_, fun w => ?_⟩
  · rw [exec_prereadComplete_of_preread hpow hphase htxn, State.prereadEnds_abandoned ha, State.thenChanges_undecided]
    rfl
  · rw [exec_prereadComplete_of_preread hpow hphase htxn, State.prereadEnds_abandoned ha,
      State.thenChanges_undecided_of_alert (by rfl)]
    rfl

/-- With no candidate and no unmatched capture the default action PASS decides: the gate's state is what is left to ask. -/
theorem exec_prereadComplete_of_noCandidate (ha : s.path.abandoned = false) (w : Word) (hk : t.kind = .write)
    (hc : s.NoCandidate .write t.addr) (hd : fld s.defaultActions 0 2 = 0) (hu : wbit s.unmatched 0 = false) (hn : s.NonePending)
    {v : Verdict} (hv : s.fetched.forwardVerdict t = v) : exec (.prereadComplete (.ok w)) s =
      .next (({ s.fetched with draw := s.draw + 1 }.consulted v).carryOut t v) := by
  have none : s.fetched.NoCandidate t.kind t.addr := by
    rw [hk]
    exact hc
  have verdict : s.fetched.verdict t false (s.fetched.defaultTaken t) 0 false = v :=
    (State.verdict_pass ((State.defaultTaken_write (s := s.fetched) hk).1 hd) _ _).trans hv
  rw [exec_prereadComplete_ok hpow hphase htxn ha w]
  exact congrArg _ (State.thenChanges_of_noCandidate (s := s) none hu rfl verdict (.inr hn))

end completed

/-- Settles O13. -/
theorem prereadEndsByItsCompletion : Obligations.PrereadEndsByItsCompletion := by
  refine ⟨effectiveNew_getLsbD, fun s t hpow hphase htxn => ⟨fun w ha => ?_, exec_prereadComplete_memErr hpow hphase htxn,
    exec_prereadComplete_abandoned hpow hphase htxn, fun w ha hk hc hd hu hn => ⟨fun hg => ?_, fun hg => ?_⟩⟩⟩
  · intro s' hits d
    have same : s'.hitsOf t (some w) = hits :=
      congrArg Prod.fst (State.scan_congr (s := s) (u := s') rfl t (effectiveNew t w) w allRules)
    have changes := State.decision_changes t (some w) false s'
    have path := State.afterCarryOut_path s s' t (some w) false
    have gate := State.afterCarryOut_gate s s' t (some w) false
    have nothing := State.decideTxn_of_nothing_inside s s' t (some w) false
    refine ⟨s.afterCarryOut t (s'.decision t (some w) false), (s'.decision t (some w) false).changes, ?_, ?_, ?_, ?_,
      fun hi => ⟨fun hv => ?_, fun o a hv => ?_, (nothing hi).2⟩⟩
    · rw [changes, same]
    · rw [changes, same]
      rfl
    · rw [exec_prereadComplete_ok hpow hphase htxn ha w]
      refine (congrArg _ (State.thenChanges_decided s s' t (some w) false)).trans ?_
      rw [same]
    · rw [path]
      cases (s'.decision t (some w) false).verdict with
      | forward => exact .inl rfl
      | ended o a => exact .inr rfl
    · have verdict : (s'.decision t (some w) false).verdict = .forward := (nothing hi).1.symm.trans hv
      rw [verdict] at path gate
      exact ⟨path, gate hi⟩
    · have verdict : (s'.decision t (some w) false).verdict = .ended o a := (nothing hi).1.symm.trans hv
      rw [verdict] at path gate
      refine ⟨path.trans ?_, gate hi⟩
      simp only [s', Path.finish, ha]
  · rw [exec_prereadComplete_of_noCandidate hpow hphase htxn ha w hk hc hd hu hn (v := .forward)
      (State.forwardVerdict_ready rfl fun _ => hg), State.carryOut_forward_write hk]
    rfl
  · have verdict : s.fetched.forwardVerdict t = .ended .gated s.gate.answer := by
      rw [State.forwardVerdict, if_neg nofun, if_pos ⟨hk, hg⟩]
    rw [exec_prereadComplete_of_noCandidate hpow hphase htxn ha w hk hc hd hu hn verdict, Gate.answer_eq]
    simp only [State.consulted, State.carryOut, State.finishTxn, Path.finish, Path.accessDone, State.countRefused, Gate.refuseWrite, ha]

end Sys2Proof.Machine
end

section
/-! What a decision comes to (R34, R35, R38, R42, R47, R61, R62, R68), and the access that a rule decides at its taking. -/

namespace Sys2Proof.Machine

namespace State

/-! ### The verdict -/

theorem momentFrame_opened {s u : State} (h : Keeps (fun s => s.gate.state = .opened) s u) :
    s.gate.state = .opened → u.gate.state = .opened := h

/-- The verdict of a decision is taken in a state with the same path, in which an OPEN gate is still OPEN. -/
theorem decision_verdict (t : Txn) (before : Option Word) (sub : Bool) (s : State) : ∃ (u : State) (b : Bool),
    (s.decision t before sub).verdict = u.verdict t sub (s.decidedAction t (s.deciderOf t before)) (s.discardData (s.deciderOf t before)) b ∧
    u.path = s.path ∧ (s.gate.state = .opened → u.gate.state = .opened) ∧ (insideOf t.between = [] → u.gate = s.gate) := by
  obtain ⟨quiet, first, last, stamp, parted⟩ := exists_parted t before sub s
  let u := first.foldl passPart (s.partsBegin t before quiet)
  have hits : EventFrame s ((s.hitsOf t before).foldl hitRule s) := foldl_frame .refl .trans hitRule_frame _ s
  have frame : MomentFrame ((s.hitsOf t before).foldl hitRule s) u :=
    parted.reached .refl .trans (fun s => (draw_frame s).tick.moment) (fun s c => (triggerTimer_frame c s).tick.moment)
      fun m _ s => takeMeeting_frame m s
  have opened : Keeps (fun s => s.gate.state = .opened) ((s.hitsOf t before).foldl hitRule s) u :=
    parted.reached momentClosed_opened.refl momentClosed_opened.trans momentClosed_opened.draw momentClosed_opened.triggerTimer
      fun m _ s => momentClosed_opened.takeMeeting m s
  have gate : insideOf t.between = [] → u.gate = ((s.hitsOf t before).foldl hitRule s).gate := fun h =>
    parted.reached (R := fun s u : State => u.gate = s.gate) (fun _ => rfl) (fun h h' => h'.trans h) (fun _ => rfl)
      (fun s c => (triggerTimer_frame c s).gate) fun m hm => absurd (h ▸ hm) nofun
  let vs := s.reservations (s.hitsOf t before) (s.deciderOf t before)
  have placed : RecordFrame u (u.placed t before vs s.nextSerial stamp).1 := placeAll_frame t before _ vs (u, false)
  refine ⟨(u.placed t before vs s.nextSerial stamp).1, (u.placed t before vs s.nextSerial stamp).2, ?_, ?_, fun h => ?_, fun h => ?_⟩
  · rw [parted.verdict]
    exact reserve_verdict ..
  · rw [placed.path, frame.path, hits.path]
  · rw [placed.gate]
    have start : ((s.hitsOf t before).foldl hitRule s).gate.state = .opened := by rw [hits.gate, h]
    exact opened start
  · rw [placed.gate, gate h, hits.gate]

/-- Only a write is answered by the gate. -/
theorem verdict_gated {u : State} {t : Txn} {sub : Bool} {a : Action} {d : Word} {b : Bool} {y : Answer}
    (h : u.verdict t sub a d b = .ended .gated y) : t.kind = .write := by
  have forward : u.forwardVerdict t = .ended .gated y → t.kind = .write := fun h => by
    unfold forwardVerdict at h
    split at h
    · exact absurd h nofun
    · split at h
      next hw => exact hw.1
      · exact absurd h nofun
  unfold verdict at h
  split at h
  · exact absurd h nofun
  · cases a with
    | discard | fault => exact absurd h nofun
    | audit =>
      dsimp only at h
      split at h
      · exact forward h
      · exact absurd h nofun
    | pass | observe => exact forward h

end State

/-! ### The decided action (R34, R38) -/

/-- The hit of a deciding rule is beyond its quota, and the action code that decides is `c` of PASS, DISCARD and FAULT. -/
def Rule.Decided (x : Rule) (c : Nat) : Prop :=
  let beyond := wbit x.defn.control 16 = true ∧ (fld x.defn.quotaArming 0 12).toNat ≤ x.window.toNat
  (beyond ∧ (fld x.defn.control 17 2).toNat = (c + 2) % 3) ∨ (¬ beyond ∧ (fld x.defn.control 7 3).toNat = c)

namespace State

variable {s : State} {t : Txn} {r : Fin 24}

theorem decidedAction_beyond (h : (s.rule r).hitOverQuota = true) : s.decidedAction t (some r) = (s.rule r).defn.over?.getD .fault :=
  if_pos h

theorem decidedAction_within (h : ¬ (s.rule r).hitOverQuota = true) : s.decidedAction t (some r) = (s.rule r).defn.action?.getD .fault :=
  if_neg h

theorem decidedAction_of_decided : ((s.rule r).Decided 0 → s.decidedAction t (some r) = .pass) ∧
    ((s.rule r).Decided 1 → s.decidedAction t (some r) = .discard) ∧
    ((s.rule r).Decided 2 → s.decidedAction t (some r) = .fault) := by
  have overQuota : ∀ c : Nat, (fld (s.rule r).defn.control 17 2).toNat = c → (s.rule r).defn.over? = (match c with
      | 0 => some .discard | 1 => some .fault | 2 => some .pass | _ => none) := fun c hc => by rw [← hc]; rfl
  have action : ∀ c : Nat, (fld (s.rule r).defn.control 7 3).toNat = c → (s.rule r).defn.action? = (match c with
      | 0 => some .pass | 1 => some .discard | 2 => some .fault | 3 => some .audit | 4 => some .observe | _ => none) :=
    fun c hc => by rw [← hc]; rfl
  refine ⟨fun h => ?_, fun h => ?_, fun h => ?_⟩ <;> obtain ⟨hb, hc⟩ | ⟨hb, hc⟩ := h
  · rw [decidedAction_beyond ((s.rule r).hitOverQuota_iff.mpr hb), overQuota _ hc]
    rfl
  · rw [decidedAction_within (mt (s.rule r).hitOverQuota_iff.mp hb), action _ hc]
    rfl
  · rw [decidedAction_beyond ((s.rule r).hitOverQuota_iff.mpr hb), overQuota _ hc]
    rfl
  · rw [decidedAction_within (mt (s.rule r).hitOverQuota_iff.mp hb), action _ hc]
    rfl
  · rw [decidedAction_beyond ((s.rule r).hitOverQuota_iff.mpr hb), overQuota _ hc]
    rfl
  · rw [decidedAction_within (mt (s.rule r).hitOverQuota_iff.mp hb), action _ hc]
    rfl

/-- The blocks that no record, flag or trigger reaches. -/
theorem decision_blocks (h : insideOf t.between = []) (before : Option Word) (sub : Bool) :
    (s.decision t before sub).state.timebase = s.timebase ∧ (s.decision t before sub).state.inputs = s.inputs := by
  obtain ⟨quiet, first, last, stamp, parted⟩ := exists_parted t before sub s
  have hits : ((s.hitsOf t before).foldl hitRule s).inputs = s.inputs :=
    foldl_frame (R := fun s u : State => u.inputs = s.inputs) (fun _ => rfl) (fun h h' => h'.trans h) (fun u r => by
      unfold hitRule
      dsimp only
      split <;> split <;> rfl) _ s
  have inputs : (s.decision t before sub).state.inputs = ((s.hitsOf t before).foldl hitRule s).inputs :=
    parted.through (R := fun s u : State => u.inputs = s.inputs) (fun _ => rfl) (fun h h' => h'.trans h) (fun _ => rfl)
      (fun u c => (offerTo_frame _ _ _).inputs) (fun m hm => absurd (h ▸ hm) nofun)
      fun u => (reserve_gateFrame t before sub _ _ _ _ _ u).inputs
  exact ⟨(decision_frame t before sub s h).timebase, inputs.trans hits⟩

end State

/-- Settles O8. -/
theorem ruleDecidesTheAccessAtItsTaking : Obligations.RuleDecidesTheAccessAtItsTaking := by
  intro s q r hq h hh x hr hw hp hdec d beyond decided ended
  let s' := s.presented
  have decider : s'.deciderOf x none = some r :=
    (congrArg Prod.snd (State.scan_congr (s := s) (u := s') rfl x x.data 0 allRules)).trans hdec
  obtain ⟨u, b, verdict, upath, opened, gate⟩ := State.decision_verdict x none false s'
  rw [decider] at verdict
  obtain ⟨pass, discard, fault⟩ := State.decidedAction_of_decided (s := s') (t := x) (r := r)
  have path := State.afterCarryOut_path s s' x none false
  have discarded : decided 1 → (s'.decision x none false).verdict = .ended .discarded (discardAnswer x d.fill) := fun hd =>
    verdict.trans (State.verdict_discard (discard hd) _ _)
  have refused : decided 2 → (s'.decision x none false).verdict = .ended .refused .error := fun hd =>
    verdict.trans (State.verdict_fault (fault hd) _ _)
  have passed : decided 0 → (s'.decision x none false).verdict = u.forwardVerdict x := fun hd =>
    verdict.trans (State.verdict_pass (pass hd) _ _)
  have forwarded : decided 0 → s.path.port = .ready → (s'.decision x none false).verdict = .forward := fun hd hport =>
    (passed hd).trans (State.forwardVerdict_ready (by rw [upath]; exact hport) fun hk => opened (hw hk))
  have wentPath : (s.thenChanges (s'.decideAndCarryOut x none false)).path =
      (s.afterCarryOut x (s'.decision x none false)).path := State.thenChanges_path ..
  have noHeld : ∀ y, s'.path.finish (some y) = ended y := fun y => by
    simp only [s', Path.finish, ended, hh]
  refine ⟨_, exec_upstreamRequest_decided hq hh h hr hw hp, fun hd => ?_, fun hd => ?_, fun hd hport => ?_, fun hd hport => ?_,
    fun hb => ?_⟩
  · rw [discarded hd] at path
    refine wentPath.trans (path.trans ((noHeld _).trans (congrArg ended ?_)))
    unfold discardAnswer
    cases x.kind <;> rfl
  · rw [refused hd] at path
    exact wentPath.trans (path.trans (noHeld _))
  · rw [passed hd, State.forwardVerdict_down (by rw [upath]; exact hport)] at path
    exact wentPath.trans (path.trans (noHeld _))
  · rw [forwarded hd hport] at path
    refine wentPath.trans (path.trans ?_)
    simp only [s', Path.begin, hh]
    rfl
  · have inside : insideOf x.between = [] := by
      rw [hb]
      rfl
    have gateLeft := State.afterCarryOut_gate s s' x none false inside
    have frame := State.decision_frame x none false s' inside
    obtain ⟨timebase, inputs⟩ := State.decision_blocks (s := s') inside none false
    obtain ⟨p, m, carried⟩ := State.carryOut_eq x (s'.decision x none false).verdict (s'.decision x none false).state
    have changed : s.thenChanges (s'.decideAndCarryOut x none false) =
        (s.afterCarryOut x (s'.decision x none false)).afterDecision (s'.decision x none false).changes := by
      rw [State.thenChanges_decided, hb, State.meetAll_nil, ite_self]
    have event := State.afterDecision_rulesOnly (s'.decision x none false).changes (s.afterCarryOut x (s'.decision x none false))
    rw [changed, event]
    refine ⟨fun hd => ?_, fun hd hport hk => ?_, ?_, ?_, ?_, ?_, ?_, ?_⟩
    · refine gateLeft.trans ?_
      obtain hd | hd | hk := hd
      · rw [discarded hd]
        rfl
      · rw [refused hd]
        rfl
      · cases hv : (s'.decision x none false).verdict with
        | forward =>
          have read : (s'.gate.inFlight || x.kind == .write) = s'.gate.inFlight := by
            rw [hk]
            exact Bool.or_false _
          dsimp only
          rw [read]
        | ended o y =>
          have notGated : o ≠ .gated := fun ho => by
            rw [ho] at hv
            exact absurd (hk.symm.trans (State.verdict_gated (verdict.symm.trans hv))) nofun
          dsimp only
          rw [if_neg notGated]
    · refine gateLeft.trans ?_
      rw [forwarded hd hport]
      have set : (s'.gate.inFlight || x.kind == .write) = true := by
        rw [hk]
        exact Bool.or_true _
      dsimp only
      rw [set]
    · rw [State.afterCarryOut, State.endCommand_link, carried]
      exact frame.link
    · rw [State.afterCarryOut, State.endCommand_store, carried]
      exact frame.store
    · rw [State.afterCarryOut, State.endCommand_timebase, carried]
      exact timebase
    · rw [State.afterCarryOut, State.endCommand_defaultActions, carried]
      exact frame.defaultActions
    · rw [State.afterCarryOut, State.endCommand_unmatched, carried]
      exact frame.unmatched
    · rw [State.afterCarryOut, State.endCommand_inputs, carried]
      exact inputs

end Sys2Proof.Machine
end

section
/-! The outcome and the answer of a transaction that ends at its decision (R34, R42, R47, R48, R61), with the place of an AUDIT's own
record; and the completion of records at the end of a forward (R49, R82, R91). -/

namespace Sys2Proof.Machine

namespace State

/-! ### How much the queues can grow -/

/-- The queues keep their words and states, and none grows by more than `k`. -/
def GrownBy (k : Nat) (s u : State) : Prop := ∀ n, (u.queue n).on = (s.queue n).on ∧ (u.queue n).config = (s.queue n).config ∧
  (u.queue n).list.length ≤ (s.queue n).list.length + k

namespace GrownBy

theorem refl (s : State) : GrownBy 0 s s := fun _ => ⟨rfl, rfl, Nat.le_refl _⟩

theorem trans {k m : Nat} {s u v : State} (h : GrownBy k s u) (h' : GrownBy m u v) : GrownBy (k + m) s v := fun n => by
  obtain ⟨on, config, length⟩ := h n
  obtain ⟨on', config', length'⟩ := h' n
  exact ⟨on'.trans on, config'.trans config, by omega⟩

theorem of_queues {s u : State} (h : u.queues = s.queues) : GrownBy 0 s u := fun n => by
  rw [queue_congr h]
  exact ⟨rfl, rfl, Nat.le_refl _⟩

theorem mono {k m : Nat} {s u : State} (h : GrownBy k s u) (hk : k ≤ m) : GrownBy m s u := fun n => by
  obtain ⟨on, config, length⟩ := h n
  exact ⟨on, config, by omega⟩

theorem placeAt (s : State) (w : Word) (n : Fin 4) (b : RecordBody) : GrownBy 1 s (s.placeAt w n b).1 := fun m => by
  obtain ⟨config, on⟩ := placeAt_queue_config s w n m b
  refine ⟨on, config, ?_⟩
  by_cases e : n = m
  · subst e
    cases hr : (s.queue n).reception with
    | room =>
      rw [placeAt_room hr, append_queue, if_pos rfl]
      simp
    | displace =>
      rw [placeAt_displace hr, append_queue, if_pos rfl, loseIn_queue, if_pos rfl, dropOldest_queue, if_pos rfl]
      simp only [Queue.lose_list, List.length_append, List.length_tail, List.length_singleton]
      omega
    | refuse =>
      rw [placeAt_refuse hr, loseIn_queue, if_pos rfl]
      exact Nat.le_succ _
  · rw [placeAt_queue_ne s w e b]
    exact Nat.le_succ _

theorem judgeNotify (s : State) (n : Fin 4) (k : Nat) : GrownBy 0 s (s.judgeNotify n k) := fun m => by
  rw [judgeNotify_queue]
  exact ⟨rfl, rfl, Nat.le_refl _⟩

theorem triggerTimer (s : State) (c : Fin 8) : GrownBy 1 s (s.triggerTimer c) := by
  unfold State.triggerTimer offerTo
  dsimp only
  split
  · exact (of_queues rfl).mono (Nat.zero_le 1)
  next n _ =>
    exact trans (k := 0) (m := 1) (u := s.setTimer c (s.timer c).triggered) (of_queues rfl)
      (trans (k := 1) (m := 0) (placeAt _ _ n _) (judgeNotify _ n _))

theorem foldl_trigger (l : List (Fin 8)) (s : State) : GrownBy l.length s (l.foldl (fun s c => s.triggerTimer c) s) := by
  induction l generalizing s with
  | nil => exact refl s
  | cons c l ih =>
    rw [List.length_cons, Nat.add_comm]
    exact (triggerTimer s c).trans (ih _)

theorem foldl_passPart {l : List DecisionPart} (hm : ∀ m, .meet m ∉ l) (s : State) : GrownBy l.length s (l.foldl passPart s) := by
  induction l generalizing s with
  | nil => exact refl s
  | cons p ps ih =>
    rw [List.length_cons, Nat.add_comm]
    refine trans ?_ (ih (fun m h => hm m (List.mem_cons_of_mem p h)) _)
    cases p with
    | reserve | read => exact (refl s).mono (Nat.zero_le 1)
    | trigger c => exact triggerTimer s c
    | meet m => exact absurd List.mem_cons_self (hm m)

end GrownBy

/-- Before its placement a decision that nothing falls inside adds at most a record of each channel to a queue. -/
theorem Parted.grown {t : Txn} {before : Option Word} {sub : Bool} {s : State} {d : Decided} {quiet : List (Fin 8)}
    {first last : List DecisionPart} {stamp : Word} (h : Parted t before sub s d quiet first last stamp)
    (hi : insideOf t.between = []) : GrownBy 8 s (first.foldl passPart (s.partsBegin t before quiet)) := by
  have perm := h.triggers hi
  have count : (s.hitTriggers t before).length ≤ 8 := by
    have := (nodup_triggeredBy s fun g => (s.hitsOf t before).any fun r => g == .rule r.val).length_le_card
    rwa [Fintype.card_fin] at this
  have length := perm.length_eq
  simp only [List.length_append, List.length_map] at length
  have unmet : ∀ m, .meet m ∉ first := fun m hm => by
    have := perm.mem_iff.mp (List.mem_append_right _ (List.mem_append_left _ hm))
    simp at this
  have hits : ((s.hitsOf t before).foldl hitRule s).queues = s.queues :=
    foldl_frame (R := fun s u : State => u.queues = s.queues) (fun _ => rfl) (fun h h' => h'.trans h) (fun u r => by
      unfold hitRule
      dsimp only
      split <;> split <;> rfl) _ s
  have quietly := GrownBy.foldl_trigger quiet ((s.hitsOf t before).foldl hitRule s)
  have parts := GrownBy.foldl_passPart unmet (s.partsBegin t before quiet)
  have begun : GrownBy quiet.length s (s.partsBegin t before quiet) :=
    (GrownBy.trans (GrownBy.trans (.of_queues hits) quietly) (v := s.partsBegin t before quiet) (m := 0) (.of_queues rfl)).mono
      (by omega)
  exact (begun.trans parts).mono (by omega)

/-! ### The deciding rule's own record (R42) -/

/-- In a queue that is OFF the own record is refused. -/
theorem placeAll_refused {t : Txn} {before : Option Word} {w : Word} {vs : List Reservation} {p : State × Bool}
    (h : ∀ v ∈ vs, v.own = true → (p.1.queue v.queue).on = false) (hp : p.2 = false) : (placeAll t before w vs p).2 = false := by
  induction vs generalizing p with
  | nil => exact hp
  | cons v vs ih =>
    refine ih (p := ((p.1.placeAt w v.queue (v.record t before)).1, _)) (fun x hx ho => ?_) ?_
    · exact ((GrownBy.placeAt p.1 w v.queue _) x.queue).1.trans (h x (List.mem_cons_of_mem v hx) ho)
    · dsimp only
      split
      next ho => rw [placeAt_refuse (Queue.reception_off (h v List.mem_cons_self ho))]
      · exact hp

/-- In a queue that is ON with room for all records it is placed. -/
theorem placeAll_placed {t : Txn} {before : Option Word} {w : Word} {n : Fin 4} {vs : List Reservation} {p : State × Bool}
    (h : ∀ v ∈ vs, v.own = true → v.queue = n) (hon : (p.1.queue n).on = true)
    (hroom : (p.1.queue n).list.length + vs.length ≤ (p.1.queue n).depth) (hp : p.2 = true ∨ ∃ v ∈ vs, v.own = true) :
    (placeAll t before w vs p).2 = true := by
  induction vs generalizing p with
  | nil => exact hp.resolve_right fun ⟨_, hv, _⟩ => absurd hv nofun
  | cons v vs ih =>
    obtain ⟨on, config, length⟩ := GrownBy.placeAt p.1 w v.queue (v.record t before) n
    have depth : ((p.1.placeAt w v.queue (v.record t before)).1.queue n).depth = (p.1.queue n).depth := by
      rw [Queue.depth, config]
      rfl
    rw [List.length_cons] at hroom
    refine ih (p := ((p.1.placeAt w v.queue (v.record t before)).1, _)) (fun x hx => h x (List.mem_cons_of_mem v hx))
      (on.trans hon) ?_ ?_
    · dsimp only
      omega
    · dsimp only
      by_cases ho : v.own = true
      · have room : (p.1.queue v.queue).reception = .room := by
          rw [h v List.mem_cons_self ho]
          exact Queue.reception_room hon (by omega)
        rw [if_pos ho, placeAt_room room]
        exact .inl rfl
      · rw [if_neg ho]
        refine hp.imp_right fun ⟨x, hx, hxo⟩ => ⟨x, (List.mem_cons.mp hx).resolve_left fun e => ho (e ▸ hxo), hxo⟩

variable {s : State} {r : Fin 24}

/-- The deciding rule's own record goes to its capture queue, and is there when the rule carries a capture. -/
theorem own_reservations (hits : List (Fin 24)) : ∀ v ∈ s.reservations hits (some r), v.own = true →
    v.queue = (s.rule r).defn.captureQueue := by
  intro v hv ho
  have found : v ∈ hits.filterMap (s.reservationOf (some r)) := by
    unfold reservations at hv
    rw [if_neg (by simp), List.append_nil] at hv
    exact hv
  obtain ⟨k, -, hk⟩ := List.mem_filterMap.mp found
  unfold reservationOf at hk
  dsimp only at hk
  split at hk
  · obtain rfl := Option.some.inj hk
    have same : r = k := by simpa using ho
    rw [same]
  · exact absurd hk nofun

theorem exists_own_reservation {hits : List (Fin 24)} (hr : r ∈ hits) (hc : (s.rule r).defn.capture = true) :
    ∃ v ∈ s.reservations hits (some r), v.own = true := by
  refine ⟨⟨(s.rule r).defn.captureQueue, r.castSucc, (s.rule r).defn.content?.getD .addressOnly, (s.rule r).hitOverQuota, true⟩,
    List.mem_append_left _ (List.mem_filterMap.mpr ⟨r, hr, ?_⟩), rfl⟩
  simp [reservationOf, hc]

theorem reservations_length (hits : List (Fin 24)) : (s.reservations hits (some r)).length ≤ hits.length := by
  unfold reservations
  rw [if_neg (by simp), List.append_nil]
  exact List.length_filterMap_le _ _

/-- The deciding rule is a hit (R33). -/
theorem decider_mem_scan {t : Txn} {new old : Word} {l : List (Fin 24)} (h : (s.scan t new old l).2 = some r) :
    r ∈ (s.scan t new old l).1 := by
  induction l with
  | nil => exact absurd h nofun
  | cons k l ih =>
    unfold scan at h ⊢
    dsimp only at h ⊢
    split at h
    next hk =>
      rw [if_pos hk]
      split at h
      next ho =>
        rw [if_pos ho]
        exact List.mem_cons_of_mem k (ih h)
      next ho =>
        rw [if_neg ho]
        exact List.mem_singleton.mpr (Option.some.inj h).symm
    next hk =>
      rw [if_neg hk]
      exact ih h

/-- An AUDIT within its quota: refused when its queue is OFF, forwarded when the queue has room (R42). -/
theorem decision_audit {t : Txn} {before : Option Word} (hi : insideOf t.between = []) (hd : s.deciderOf t before = some r)
    (ha : s.decidedAction t (some r) = .audit) {n : Fin 4} (hn : (s.rule r).defn.captureQueue = n) :
    ((s.queue n).on = false → (s.decision t before false).verdict = .ended .auditRefused .error) ∧
    ((s.rule r).defn.capture = true → (s.queue n).on = true → (s.queue n).list.length + 33 ≤ (s.queue n).depth →
      ∃ u : State, (s.decision t before false).verdict = u.forwardVerdict t ∧ u.path = s.path ∧ u.gate = s.gate) := by
  obtain ⟨quiet, first, last, stamp, parted⟩ := exists_parted t before false s
  let u := first.foldl passPart (s.partsBegin t before quiet)
  let hits := s.hitsOf t before
  let vs := s.reservations hits (some r)
  obtain ⟨on, config, length⟩ : (u.queue n).on = (s.queue n).on ∧ (u.queue n).config = (s.queue n).config ∧
    (u.queue n).list.length ≤ (s.queue n).list.length + 8 := parted.grown hi n
  have verdict : (s.decision t before false).verdict =
      (u.placed t before vs s.nextSerial stamp).1.verdict t false .audit (s.discardData (some r)) (u.placed t before vs s.nextSerial stamp).2 := by
    rw [parted.verdict, placement, reserve_verdict, hd, ha]
  refine ⟨fun hoff => ?_, fun hc hon hroom => ?_⟩
  · have refused : (u.placed t before vs s.nextSerial stamp).2 = false :=
      placeAll_refused (fun v hv ho => by
        rw [own_reservations hits v hv ho, hn]
        exact on.trans hoff) rfl
    rw [verdict, refused]
    rfl
  · have member : r ∈ hits := decider_mem_scan hd
    have few : vs.length ≤ 24 := (reservations_length hits).trans (by
      have := (hitsOf_nodup t before s).length_le_card
      rwa [Fintype.card_fin] at this)
    have depth : (u.queue n).depth = (s.queue n).depth := by
      rw [Queue.depth, config]
      rfl
    have placed : (u.placed t before vs s.nextSerial stamp).2 = true :=
      placeAll_placed (n := n) (fun v hv ho => (own_reservations hits v hv ho).trans hn) (on.trans hon)
        (by change (u.queue n).list.length + _ ≤ (u.queue n).depth; omega) (.inr (exists_own_reservation member hc))
    have hitFrame : EventFrame s (hits.foldl hitRule s) := foldl_frame .refl .trans hitRule_frame _ s
    have frame : EventFrame (hits.foldl hitRule s) u :=
      parted.reached .refl .trans draw_frame (fun s c => triggerTimer_frame c s) fun m hm => absurd (hi ▸ hm) nofun
    have record : RecordFrame u (u.placed t before vs s.nextSerial stamp).1 := placeAll_frame t before _ vs (u, false)
    refine ⟨(u.placed t before vs s.nextSerial stamp).1, ?_, ?_, ?_⟩
    · rw [verdict, placed]
      rfl
    · rw [record.path, frame.path, hitFrame.path]
    · rw [record.gate, frame.gate, hitFrame.gate]

end State

/-! ### The verdicts in the terms of the statements -/

namespace State

variable {s : State} {t : Txn}

/-- The code of the default action for the kind of a transaction. -/
def defaultCode (s : State) (t : Txn) : BitVec 2 :=
  match t.kind with
  | .write => fld s.defaultActions 0 2
  | .read => fld s.defaultActions 4 2

theorem decidedAction_default : s.decidedAction t none = (defaultOf (s.defaultCode t)).getD .fault := by
  have action : s.decidedAction t none = (s.defaultAction t.kind).getD .fault := rfl
  rw [action]
  unfold defaultAction defaultCode
  cases t.kind <;> rfl

theorem decidedAction_of_default : ((s.defaultCode t).toNat = 0 → s.decidedAction t none = .pass) ∧
    ((s.defaultCode t).toNat = 1 → s.decidedAction t none = .discard) ∧
    ((s.defaultCode t).toNat = 2 → s.decidedAction t none = .fault) := by
  have codes : ∀ c : BitVec 2, (c.toNat = 0 → (defaultOf c).getD .fault = .pass) ∧
      (c.toNat = 1 → (defaultOf c).getD .fault = .discard) ∧ (c.toNat = 2 → (defaultOf c).getD .fault = .fault) := by decide
  rw [decidedAction_default]
  exact codes _

theorem forwardVerdict_eq {u : State} (hp : u.path = s.path) (hg : u.gate = s.gate) : u.forwardVerdict t =
    if s.path.port = .down then .ended .pathDown .error
    else if t.kind = .write ∧ s.gate.state ≠ .opened then .ended .gated (if fld s.gate.config 0 2 = 1 then .done else .error)
    else .forward := by
  rw [forwardVerdict, hp, hg, Gate.answer_eq]

theorem discardData_eq (x : Option (Fin 24)) : s.discardData x = match x with | none => 0 | some r => (s.rule r).defn.fill := by
  cases x <;> rfl

end State

/-- Settles O15. -/
theorem recordsCompleteInTheirPlaces : Obligations.RecordsCompleteInTheirPlaces := by
  refine ⟨fun s t before sub => ?_, forwardComplete_records⟩
  intro old decider v beyond decided fill forwarded
  let t₀ : Txn := { t with between := [] }
  have same : s.deciderOf t₀ before = decider := State.deciderOf_between t before s
  have bare : v = (s.decision t₀ before sub).verdict := rfl
  obtain ⟨u, b, verdict, path, -, gate⟩ := State.decision_verdict t₀ before sub s
  have gate := gate rfl
  rw [same] at verdict
  have action : (decided 0 → s.decidedAction t₀ decider = .pass) ∧ (decided 1 → s.decidedAction t₀ decider = .discard) ∧
      (decided 2 → s.decidedAction t₀ decider = .fault) := by
    have code : s.defaultCode t₀ = match t.kind with | .write => fld s.defaultActions 0 2 | .read => fld s.defaultActions 4 2 := by
      unfold State.defaultCode
      rfl
    obtain ⟨pass, discard, fault⟩ := State.decidedAction_of_default (s := s) (t := t₀)
    rw [code] at pass discard fault
    refine ⟨fun hd => ?_, fun hd => ?_, fun hd => ?_⟩ <;> obtain ⟨hn, hc⟩ | ⟨r, hr, hc⟩ := hd
    · rw [hn]
      exact pass hc
    · rw [hr]
      exact State.decidedAction_of_decided.1 hc
    · rw [hn]
      exact discard hc
    · rw [hr]
      exact State.decidedAction_of_decided.2.1 hc
    · rw [hn]
      exact fault hc
    · rw [hr]
      exact State.decidedAction_of_decided.2.2 hc
  have goes : ∀ w : State, w.path = s.path → w.gate = s.gate → w.forwardVerdict t₀ = forwarded := fun w hp hg =>
    State.forwardVerdict_eq hp hg
  refine ⟨fun hs => ?_, fun hs hd => ?_, fun hs hd => ?_, fun hs hd => ?_, fun r n hs hr hb hc hn => ?_⟩
  · rw [bare, hs]
    exact State.verdict_substitute t₀ before s
  · rw [bare, verdict, hs]
    exact (State.verdict_pass (action.1 hd) _ _).trans (goes u path gate)
  · rw [bare, verdict, hs, State.verdict_discard (action.2.1 hd), State.discardData_eq]
    unfold discardAnswer
    rfl
  · rw [bare, verdict, hs]
    exact State.verdict_fault (action.2.2 hd) _ _
  · have within : ¬ (s.rule r).hitOverQuota = true := fun h => hb ((s.rule r).hitOverQuota_iff.mp h)
    have audit : s.decidedAction t₀ (some r) = .audit := by
      rw [State.decidedAction_within within, (s.rule r).defn.action_audit_iff.mpr hc]
      rfl
    have queue : (s.rule r).defn.captureQueue = n := Fin.ext hn
    obtain ⟨off, on⟩ := State.decision_audit (t := t₀) (before := before) rfl (same.trans hr) audit queue
    rw [bare, hs]
    refine ⟨off, fun hcap hon hroom => ?_⟩
    obtain ⟨w, hv, hp, hg⟩ := on hcap hon hroom
    exact hv.trans (goes w hp hg)

end Sys2Proof.Machine
end

section
/-! Candidates, conditions and the scan (R2 to R4, R26, R30 to R33). -/

namespace Sys2Proof.Machine

/-! ### Candidates (R2, R3, R26) -/

theorem Rule.candidate_iff (x : Rule) (kind : AccessKind) (a : MemAddr) : x.candidate kind a = true ↔
    x.state = .live ∧ x.defn.inExtent a = true ∧ x.defn.concerns kind = true := by
  simp only [candidate, Bool.and_eq_true, beq_iff_eq, and_assoc]

theorem RuleDef.inExtent_iff (d : RuleDef) (a : MemAddr) : d.inExtent a = true ↔
    if wbit d.control 0 = true then a.setWidth 32 &&& d.limit = d.base &&& d.limit
    else d.base.toNat ≤ (a.setWidth 32 : Word).toNat ∧ (a.setWidth 32 : Word).toNat ≤ d.limit.toNat := by
  have masked : d.masked = wbit d.control 0 := rfl
  unfold inExtent
  rw [masked]
  by_cases h : wbit d.control 0 = true
  · simp [h]
  · simp [h]

theorem RuleDef.concerns_iff (d : RuleDef) (kind : AccessKind) : d.concerns kind = true ↔
    match kind with | .read => wbit d.control 1 = true | .write => wbit d.control 2 = true := by
  cases kind <;> exact Iff.rfl

/-! ### Conditions (R30 to R32) -/

namespace RuleDef

variable (d : RuleDef) (new before : Word)

/-- What the operator of code `c` says of a word (R30). -/
def codeHolds (c : BitVec 3) (w : Word) : Prop :=
  if c = 1 then w &&& d.dataMask = d.reference &&& d.dataMask
  else if c = 2 then w &&& d.dataMask ≠ d.reference &&& d.dataMask
  else if c = 3 then (d.reference &&& d.dataMask).toNat < (w &&& d.dataMask).toNat
  else (w &&& d.dataMask).toNat < (d.reference &&& d.dataMask).toNat

theorem op?_of_code {c : BitVec 3} (h : fld d.control 3 3 = c) : d.op? = match c.toNat with
    | 1 => some .eq | 2 => some .ne | 3 => some .gt | 4 => some .lt | 5 => some .changed | _ => none := by
  rw [← h]
  rfl

/-- The four operators that compare with the reference. -/
theorem opHolds_of_code {c : BitVec 3} (hc : fld d.control 3 3 = c) (hlow : 1 ≤ c.toNat) (hhigh : c.toNat ≤ 4) :
    ∃ op, d.op? = some op ∧ (op != .changed) = true ∧ ∀ w b, d.opHolds op w b = true ↔ d.codeHolds c w := by
  have op := d.op?_of_code hc
  have codes : c = 1 ∨ c = 2 ∨ c = 3 ∨ c = 4 := by
    obtain h | h | h | h | h | h | h | h := fld3_cases c <;> simp [h] at hlow hhigh ⊢
  obtain rfl | rfl | rfl | rfl := codes
  · exact ⟨.eq, op, rfl, fun w b => by simp [opHolds, codeHolds]⟩
  · exact ⟨.ne, op, rfl, fun w b => by simp [opHolds, codeHolds]⟩
  · exact ⟨.gt, op, rfl, fun w b => by simp [opHolds, codeHolds]⟩
  · exact ⟨.lt, op, rfl, fun w b => by simp [opHolds, codeHolds]⟩

theorem matchesWords_none (h : d.op? = none) : d.matchesWords new before = true := by simp only [matchesWords, h]

theorem matchesWords_some {op : CondOp} (h : d.op? = some op) : d.matchesWords new before =
    (d.opHolds op new before && !(wbit d.control 6 && op != .changed && d.opHolds op before before)) := by
  simp only [matchesWords, h]
  rfl

end RuleDef

namespace State

/-! ### The scan (R33) -/

variable {s : State} {t : Txn} {new old : Word}

theorem scan_miss {r : Fin 24} (rs : List (Fin 24))
    (h : ¬ ((s.rule r).candidate t.kind t.addr && (s.rule r).defn.matchesWords new old) = true) :
    s.scan t new old (r :: rs) = s.scan t new old rs := if_neg h

theorem scan_observe {r : Fin 24} (rs : List (Fin 24))
    (h : ((s.rule r).candidate t.kind t.addr && (s.rule r).defn.matchesWords new old) = true)
    (ho : (s.rule r).defn.action? = some .observe) :
    s.scan t new old (r :: rs) = (r :: (s.scan t new old rs).1, (s.scan t new old rs).2) := (if_pos h).trans (if_pos ho)

theorem scan_decides {r : Fin 24} (rs : List (Fin 24))
    (h : ((s.rule r).candidate t.kind t.addr && (s.rule r).defn.matchesWords new old) = true)
    (ho : (s.rule r).defn.action? ≠ some .observe) : s.scan t new old (r :: rs) = ([r], some r) := (if_pos h).trans (if_neg ho)

/-- Only a hit whose action is not OBSERVE decides. -/
theorem scan_decider (l : List (Fin 24)) : ∀ r ∈ (s.scan t new old l).1, (s.rule r).defn.action? ≠ some .observe →
    (s.scan t new old l).2 = some r := by
  induction l with
  | nil => exact nofun
  | cons k l ih =>
    by_cases h : ((s.rule k).candidate t.kind t.addr && (s.rule k).defn.matchesWords new old) = true
    · by_cases ho : (s.rule k).defn.action? = some .observe
      · rw [scan_observe l h ho]
        rintro r (_ | ⟨_, hr⟩) hn
        · exact absurd ho hn
        · exact ih r hr hn
      · rw [scan_decides l h ho]
        exact fun r hr _ => congrArg some (List.mem_singleton.mp hr).symm
    · rw [scan_miss l h]
      exact ih

/-- The deciding rule is the last hit. -/
theorem scan_last (l : List (Fin 24)) : ∀ d, (s.scan t new old l).2 = some d →
    (s.scan t new old l).1.getLast? = some d ∧ (s.rule d).defn.action? ≠ some .observe := by
  induction l with
  | nil => exact nofun
  | cons k l ih =>
    by_cases h : ((s.rule k).candidate t.kind t.addr && (s.rule k).defn.matchesWords new old) = true
    · by_cases ho : (s.rule k).defn.action? = some .observe
      · rw [scan_observe l h ho]
        intro d hd
        obtain ⟨last, hn⟩ := ih d hd
        refine ⟨?_, hn⟩
        rw [List.getLast?_cons, last]
        rfl
      · rw [scan_decides l h ho]
        intro d hd
        obtain rfl := Option.some.inj hd
        exact ⟨rfl, ho⟩
    · rw [scan_miss l h]
      exact ih

/-- No candidate that matches is passed over up to the deciding rule. -/
theorem scan_complete {l : List (Fin 24)} (hl : l.Pairwise (· < ·)) : ∀ r ∈ l, (s.rule r).candidate t.kind t.addr = true →
    (s.rule r).defn.matchesWords new old = true → (∀ d, (s.scan t new old l).2 = some d → r ≤ d) → r ∈ (s.scan t new old l).1 := by
  induction l with
  | nil => exact nofun
  | cons k l ih =>
    obtain ⟨hk, hl⟩ := List.pairwise_cons.mp hl
    by_cases h : ((s.rule k).candidate t.kind t.addr && (s.rule k).defn.matchesWords new old) = true
    · by_cases ho : (s.rule k).defn.action? = some .observe
      · rw [scan_observe l h ho]
        rintro r (_ | ⟨_, hr⟩) hc hm hd
        · exact List.mem_cons_self
        · exact List.mem_cons_of_mem k (ih hl r hr hc hm hd)
      · rw [scan_decides l h ho]
        rintro r (_ | ⟨_, hr⟩) hc hm hd
        · exact List.mem_cons_self
        · exact absurd (hd k rfl) (not_le.mpr (hk r hr))
    · rw [scan_miss l h]
      rintro r (_ | ⟨_, hr⟩) hc hm hd
      · exact absurd (Bool.and_eq_true_iff.mpr ⟨hc, hm⟩) h
      · exact ih hl r hr hc hm hd

theorem allRules_sorted : allRules.Pairwise (· < ·) := List.pairwise_lt_finRange 24

end State

/-- Settles O7. -/
theorem decidingRuleIsTheFirstHitNotObserve : Obligations.DecidingRuleIsTheFirstHitNotObserve := by
  refine ⟨fun x kind a => ?_, fun d new before => ?_, fun s t new before => ?_⟩
  · intro c w
    rw [x.candidate_iff, x.defn.inExtent_iff, x.defn.concerns_iff]
    exact and_congr_right fun _ => and_comm
  · intro op r holds
    have same : ∀ w, holds w ↔ d.codeHolds op w := fun w => Iff.rfl
    refine ⟨fun h => d.matchesWords_none new before (d.op?_of_code h), fun hlow hhigh he => ?_, fun hlow hhigh he => ?_, fun h he => ?_⟩
    · obtain ⟨o, ho, -, hw⟩ := d.opHolds_of_code rfl hlow hhigh
      rw [d.matchesWords_some new before ho, he, same, ← hw new before]
      simp
    · obtain ⟨o, ho, hn, hw⟩ := d.opHolds_of_code rfl hlow hhigh
      rw [d.matchesWords_some new before ho, he, hn, same, same, ← hw new before, ← hw before before]
      simp
    · have op : d.op? = some .changed := d.op?_of_code h
      rw [d.matchesWords_some new before op, he]
      simp [RuleDef.opHolds]
  · exact ⟨State.allRules_sorted.sublist (State.scan_sublist s t new before allRules), State.scan_candidate s t new before allRules,
      State.scan_decider allRules, State.scan_last allRules,
      fun r => State.scan_complete State.allRules_sorted r (List.mem_finRange r)⟩

end Sys2Proof.Machine
end

section
/-! The records of a decision in queues with room (R36, R38 to R40, R86, R91, R98, R99), and the place of an AUDIT's record (R42). -/

namespace Sys2Proof.Machine

namespace State

/-! ### Reservations placed in queues with room -/

/-- The reservations that name queue `n`, as the bodies of their records. -/
def bodiesFor (t : Txn) (before : Option Word) (vs : List Reservation) (n : Fin 4) : List RecordBody :=
  (vs.filter fun v => v.queue == n).map fun v => v.record t before

/-- In queues that are ON with room for all of them the reservations stand at the end, in their order. -/
theorem placeAll_room {t : Txn} {before : Option Word} {w : Word} {vs : List Reservation} {p : State × Bool}
    (h : ∀ v ∈ vs, (p.1.queue v.queue).on = true ∧ (p.1.queue v.queue).list.length + vs.length ≤ (p.1.queue v.queue).depth)
    (n : Fin 4) : ∃ l, (placeAll t before w vs p).1.queue n = { p.1.queue n with list := (p.1.queue n).list ++ l } ∧
      l.map Record.body = bodiesFor t before vs n ∧ ∀ r ∈ l, r.timestamp = w := by
  induction vs generalizing p with
  | nil => exact ⟨[], by rw [List.append_nil]; rfl, rfl, by simp⟩
  | cons v vs ih =>
    obtain ⟨on, room⟩ := h v List.mem_cons_self
    rw [List.length_cons] at room
    have placed := placeAt_room (Queue.reception_room on (by omega)) w (v.record t before)
    let u := p.1.append w v.queue (v.record t before)
    obtain ⟨l, queue, bodies, stamps⟩ := ih (p := (u, if v.own then true else p.2)) fun x hx => by
      obtain ⟨on, room⟩ := h x (List.mem_cons_of_mem v hx)
      rw [List.length_cons] at room
      obtain ⟨on', config, length⟩ := GrownBy.placeAt p.1 w v.queue (v.record t before) x.queue
      rw [placed] at on' config length
      have length : (u.queue x.queue).list.length ≤ (p.1.queue x.queue).list.length + 1 := length
      refine ⟨on'.trans on, ?_⟩
      rw [Queue.depth, config]
      exact Nat.le_trans (by dsimp only; omega) room
    have taken : placeAll t before w (v :: vs) p = placeAll t before w vs (u, if v.own then true else p.2) := by
      rw [placeAll, placed]
    rw [taken, queue, append_queue]
    by_cases e : v.queue = n
    · subst e
      refine ⟨⟨p.1.nextSerial, w, v.record t before⟩ :: l, ?_, ?_, ?_⟩
      · simp
      · simp [bodiesFor, bodies]
      · simpa using stamps
    · refine ⟨l, ?_, ?_, stamps⟩
      · simp [e]
      · simp [bodiesFor, bodies, e]

/-- A decision that reads the counter where it is placed stamps with that reading. -/
theorem accessStamp_now (s : State) (k : Nat) (vs : List Reservation) :
    s.accessStamp k s.timebase.timestamp vs = s.timebase.timestamp := ite_self _

/-! ### Records that end at their decision -/

/-- The body of a reservation's record, PENDING or ended with an outcome: read data goes with DISCARDED alone (R49). -/
def reservedBody (t : Txn) (before : Option Word) (o : Option TxnOutcome) (fill : Word) (v : Reservation) : RecordBody := .access
  { source := v.source, number := t.number, kind := t.kind, lanes := t.lanes, addr := t.addr
    content := v.content, overQuota := v.overQuota
    data := if t.kind = .write ∧ v.content ≠ .addressOnly then some t.data
      else if t.kind = .read ∧ v.content = .withData ∧ o = some .discarded then some fill else none
    before := if v.content = .withBefore then before else none
    outcome := o }

theorem reservedBody_none (t : Txn) (before : Option Word) (fill : Word) (v : Reservation) :
    reservedBody t before none fill v = v.record t before := by
  simp [reservedBody, Reservation.record]

theorem completeRecord_reserved {t : Txn} {before : Option Word} {v : Reservation} {r : Record} (h : r.body = v.record t before)
    {o : TxnOutcome} (ho : o ≠ .completed) (fill : Word) :
    (completeRecord o (some fill) r).body = reservedBody t before (some o) fill v := by
  rw [completeRecord_pending (a := _) h rfl]
  cases hk : t.kind <;> simp [reservedBody, hk, ho]

/-- A verdict never ends a transaction COMPLETED. -/
theorem verdict_ne_completed {s : State} {t : Txn} {sub : Bool} {a : Action} {d : Word} {b : Bool} {o : TxnOutcome} {y : Answer}
    (h : s.verdict t sub a d b = .ended o y) : o ≠ .completed := by
  have forwarded : s.forwardVerdict t = .ended o y → o ≠ .completed := fun h => by
    unfold forwardVerdict at h
    split at h
    · obtain ⟨rfl, -⟩ := Verdict.ended.inj h
      exact nofun
    · split at h
      · obtain ⟨rfl, -⟩ := Verdict.ended.inj h
        exact nofun
      · exact absurd h nofun
  unfold verdict at h
  split at h
  · obtain ⟨rfl, -⟩ := Verdict.ended.inj h
    exact nofun
  · cases a with
    | discard | fault =>
      obtain ⟨rfl, -⟩ := Verdict.ended.inj h
      exact nofun
    | audit =>
      dsimp only at h
      split at h
      · exact forwarded h
      · obtain ⟨rfl, -⟩ := Verdict.ended.inj h
        exact nofun
    | _ => exact forwarded h

/-- The outcome that a verdict gives, if it ends the transaction. -/
def endedWith : Verdict → Option TxnOutcome
  | .forward => none
  | .ended o _ => some o

/-! ### A decision that triggers no channel and that nothing falls inside -/

theorem decision_untriggered {t : Txn} {before : Option Word} {s : State} (hi : insideOf t.between = [])
    (ht : s.hitTriggers t before = []) (sub : Bool) :
    (s.decision t before sub).state = (s.placement t before sub s.timebase.timestamp (s.partsBegin t before [])).1 ∧
    (s.decision t before sub).verdict = (s.placement t before sub s.timebase.timestamp (s.partsBegin t before [])).2 := by
  obtain ⟨quiet, first, last, stamp, parted⟩ := exists_parted t before sub s
  have none := parted.triggers hi
  rw [ht] at none
  obtain ⟨quiets, others⟩ := List.append_eq_nil_iff.mp none.eq_nil
  obtain ⟨rfl, rfl⟩ := List.append_eq_nil_iff.mp others
  obtain rfl := List.map_eq_nil_iff.mp quiets
  obtain rfl := parted.stamped hi
  exact ⟨parted.state, parted.verdict⟩

theorem partsBegin_records (t : Txn) (before : Option Word) (s : State) : (s.partsBegin t before []).queues = s.queues ∧
    (s.partsBegin t before []).timebase = s.timebase ∧ (s.partsBegin t before []).path = s.path :=
  foldl_frame (R := fun s u : State => u.queues = s.queues ∧ u.timebase = s.timebase ∧ u.path = s.path) (fun _ => ⟨rfl, rfl, rfl⟩)
    (fun h h' => ⟨h'.1.trans h.1, h'.2.1.trans h.2.1, h'.2.2.trans h.2.2⟩) (fun u r => by
      unfold hitRule
      dsimp only
      split <;> split <;> exact ⟨rfl, rfl, rfl⟩) (s.hitsOf t before) s

theorem consulted_queues (v : Verdict) (s : State) : (s.consulted v).queues = s.queues := by
  unfold consulted
  split <;> rfl

/-- The records of such a decision stand at the end of queues with room, with the outcome of its verdict. -/
theorem decision_queue {t : Txn} {before : Option Word} {s : State} (hi : insideOf t.between = [])
    (ht : s.hitTriggers t before = []) {sub : Bool}
    (room : ∀ v ∈ s.reservations (s.hitsOf t before) (s.deciderOf t before), (s.queue v.queue).on = true ∧
      (s.queue v.queue).list.length + (s.reservations (s.hitsOf t before) (s.deciderOf t before)).length ≤ (s.queue v.queue).depth)
    (hp : (s.decision t before sub).verdict = .forward ∨ s.NonePending) (n : Fin 4) :
    ∃ l, (s.decision t before sub).state.queue n = { s.queue n with list := (s.queue n).list ++ l } ∧
      l.map Record.body = ((s.reservations (s.hitsOf t before) (s.deciderOf t before)).filter fun v => v.queue == n).map
        (reservedBody t before (endedWith (s.decision t before sub).verdict) (s.discardData (s.deciderOf t before))) ∧
      ∀ r ∈ l, r.timestamp = s.timebase.timestamp := by
  let vs := s.reservations (s.hitsOf t before) (s.deciderOf t before)
  let u := s.partsBegin t before []
  obtain ⟨state, verdict⟩ := decision_untriggered hi ht sub
  obtain ⟨queues, timebase, -⟩ : u.queues = s.queues ∧ u.timebase = s.timebase ∧ _ := partsBegin_records t before s
  have stamp : u.accessStamp s.nextSerial s.timebase.timestamp vs = s.timebase.timestamp := by
    rw [← timebase, accessStamp_now]
  have placed : u.placed t before vs s.nextSerial s.timebase.timestamp = placeAll t before s.timebase.timestamp vs (u, false) := by
    rw [State.placed, stamp]
  obtain ⟨l, queue, bodies, stamps⟩ := placeAll_room (t := t) (before := before) (w := s.timebase.timestamp) (vs := vs) (p := (u, false))
    (fun v hv => by
      dsimp only
      rw [queue_congr queues]
      exact room v hv) n
  dsimp only at queue
  rw [← placed, queue_congr queues] at queue
  cases hv : (s.decision t before sub).verdict with
  | forward =>
    have kept := reserve_of_forward (verdict.symm.trans hv)
    refine ⟨l, ?_, ?_, stamps⟩
    · rw [state]
      exact (congrArg (fun w : State => w.queue n) kept).trans queue
    · rw [bodies]
      exact List.map_congr_left fun v _ => (reservedBody_none t before _ v).symm
  | ended o y =>
    have none := hp.resolve_left fun h => absurd (hv.symm.trans h) nofun
    have ended := reserve_of_ended (verdict.symm.trans hv)
    have notCompleted : o ≠ .completed := by
      have v := verdict.symm.trans hv
      rw [placement, reserve_verdict] at v
      exact verdict_ne_completed v
    let d := s.discardData (s.deciderOf t before)
    have old : (s.queue n).list.map (completeRecord o (some d)) = (s.queue n).list :=
      (List.map_congr_left fun r hr => completeRecord_done ((pendingCount_eq_zero_iff _).mp (none n) r hr) o _).trans (List.map_id _)
    refine ⟨l.map (completeRecord o (some d)), ?_, ?_, ?_⟩
    · rw [state]
      refine (congrArg (fun w : State => w.queue n) ended).trans ?_
      rw [queue_congr (consulted_queues _ _), completeAll_queue, queue, List.map_append, old]
    · rw [List.map_map]
      have each : ∀ (l : List Record) (xs : List Reservation), l.map Record.body = xs.map (fun v => v.record t before) →
          l.map (Record.body ∘ completeRecord o (some d)) = xs.map (reservedBody t before (some o) d) := by
        intro l
        induction l with
        | nil =>
          intro xs h
          rw [List.map_eq_nil_iff.mp h.symm]
          rfl
        | cons r l ih =>
          intro xs h
          cases xs with
          | nil => exact absurd h nofun
          | cons v xs =>
            obtain ⟨head, tail⟩ := List.cons.inj h
            rw [List.map_cons, List.map_cons, ih xs tail]
            exact congrArg (· :: _) (completeRecord_reserved head notCompleted d)
      exact each l _ bodies
    · intro r hr
      obtain ⟨x, hx, rfl⟩ := List.mem_map.mp hr
      rw [completeRecord_timestamp, stamps x hx]

/-- A hit list of the scan is never longer than the table, and its reservations with the unmatched record no longer than 25. -/
theorem reservations_length_le (t : Txn) (before : Option Word) (s : State) (x : Option (Fin 24)) :
    (s.reservations (s.hitsOf t before) x).length ≤ 25 := by
  have hits : (s.hitsOf t before).length ≤ 24 := by
    have := (hitsOf_nodup t before s).length_le_card
    rwa [Fintype.card_fin] at this
  have records := List.length_filterMap_le (s.reservationOf x) (s.hitsOf t before)
  unfold reservations
  rw [List.length_append]
  split
  · rw [List.length_singleton]
    omega
  · rw [List.length_nil]
    omega

end State

end Sys2Proof.Machine
end

section
/-! The reservations of a decision, and the AUDIT that needs its own record (R36, R38 to R42, R86, R89, R98, R99). -/

namespace Sys2Proof.Machine

namespace State

/-! ### The reservations, read off the words of the rules -/

/-- The content that a code names. -/
def contentOf (c : BitVec 2) : Content := if c = 0 then .addressOnly else if c = 1 then .withData else .withBefore

theorem contentOf_iff (c : BitVec 2) : (contentOf c = .addressOnly ↔ c = 0) ∧ (contentOf c = .withData ↔ c = 1) ∧
    (c ≠ 3 → (contentOf c = .withBefore ↔ c = 2)) := by
  obtain rfl | rfl | rfl | rfl := fld2_cases c <;> decide

theorem content_of_listed {d : RuleDef} (h : fld d.control 13 2 ≠ 3) : d.content?.getD .addressOnly = contentOf (fld d.control 13 2) := by
  obtain e | e | e | e := fld2_cases (fld d.control 13 2) <;> simp [RuleDef.content?, RuleDef.contentCode, contentOf, e] at h ⊢

theorem unmatchedContent_of_listed {w : Word} (h : (fld w 4 2).toNat ≤ 1) : unmatchedContent w = contentOf (fld w 4 2) := by
  obtain e | e | e | e := fld2_cases (fld w 4 2) <;> simp [unmatchedContent, contentOf, e] at h ⊢

/-- The body of a record by the code of its content. -/
theorem reservedBody_eq (t : Txn) (before : Option Word) (o : Option TxnOutcome) (fill : Word) (n : Fin 4) (source : Fin 25)
    {c : BitVec 2} (hc : c ≠ 3) (beyond own : Bool) : reservedBody t before o fill ⟨n, source, contentOf c, beyond, own⟩ = .access
      { source := source, number := t.number, kind := t.kind, lanes := t.lanes, addr := t.addr
        content := if c = 0 then .addressOnly else if c = 1 then .withData else .withBefore
        overQuota := beyond
        data := if t.kind = .write ∧ c ≠ 0 then some t.data
          else if t.kind = .read ∧ c = 1 ∧ o = some .discarded then some fill else none
        before := if c = 2 then before else none
        outcome := o } := by
  obtain ⟨none, data, beforeToo⟩ := contentOf_iff c
  simp only [reservedBody, ne_eq, none, data, beforeToo hc]
  rfl

theorem queueOf_beq (c : BitVec 2) (n : Fin 4) : (queueOf c == n) = (c == (n.val : BitVec 2)) := by
  rw [Bool.eq_iff_iff, beq_iff_eq, beq_iff_eq, queueOf, ← BitVec.toNat_inj]
  constructor
  · rintro rfl
    simp
  · intro h
    refine Fin.ext (h.trans ?_)
    simp

/-- What is filtered out of the reservations of the hits is the reservations of the hits that pass the filter. -/
theorem filterMap_filter_map {α β γ : Type} {f : α → Option β} {q : β → Bool} {g : β → γ} {p : α → Bool} {m : α → γ} {l : List α}
    (h : ∀ a ∈ l, ((f a).filter q).map g = if p a then some (m a) else none) :
    ((l.filterMap f).filter q).map g = (l.filter p).map m := by
  induction l with
  | nil => rfl
  | cons a l ih =>
    have head := h a List.mem_cons_self
    have tail := ih fun b hb => h b (List.mem_cons_of_mem a hb)
    rw [List.filterMap_cons, List.filter_cons]
    cases hf : f a with
    | none =>
      rw [hf] at head
      have no : ¬ p a = true := fun hp => by simp [hp] at head
      rw [if_neg no]
      exact tail
    | some b =>
      rw [hf] at head
      dsimp only
      rw [List.filter_cons]
      by_cases hq : q b = true
      · have yes : p a = true := by
          by_contra hp
          simp [hq, hp] at head
        have same : g b = m a := by simpa [hq, yes] using head
        rw [if_pos hq, if_pos yes, List.map_cons, List.map_cons, tail, same]
      · have no : ¬ p a = true := fun hp => by simp [hq, hp] at head
        rw [if_neg hq, if_neg no]
        exact tail

theorem hitOverQuota_eq (x : Rule) : x.hitOverQuota =
    (wbit x.defn.control 16 && decide ((fld x.defn.quotaArming 0 12).toNat ≤ x.window.toNat)) := by
  rw [Bool.eq_iff_iff, x.hitOverQuota_iff, Bool.and_eq_true, decide_eq_true_eq]

/-- The bodies of the records of a decision in queue `n`, from the words of the rules and of the unmatched capture. -/
theorem reservations_bodies {s : State} {hits : List (Fin 24)} {x : Option (Fin 24)} {body : Reservation → RecordBody}
    {made : Fin 25 → BitVec 2 → Bool → RecordBody}
    (same : ∀ n source c beyond own, c ≠ 3 → body ⟨n, source, contentOf c, beyond, own⟩ = made source c beyond)
    (hc : ∀ r ∈ hits, wbit (s.rule r).defn.control 10 = true → fld (s.rule r).defn.control 13 2 ≠ 3)
    (hu : wbit s.unmatched 0 = true → (fld s.unmatched 4 2).toNat ≤ 1) (n : Fin 4) :
    ((s.reservations hits x).filter fun v => v.queue == n).map body =
      ((hits.filter fun r => wbit (s.rule r).defn.control 10 && fld (s.rule r).defn.control 11 2 == n.val &&
        (x == some r || !(s.rule r).hitOverQuota)).map fun r =>
          made r.castSucc (fld (s.rule r).defn.control 13 2) (x == some r && (s.rule r).hitOverQuota)) ++
      (if x = none ∧ wbit s.unmatched 0 = true ∧ fld s.unmatched 1 2 = n.val then [made 24 (fld s.unmatched 4 2) false] else []) := by
  unfold reservations
  rw [List.filter_append, List.map_append]
  congr 1
  · refine filterMap_filter_map fun r hr => ?_
    have capture : (s.rule r).defn.capture = wbit (s.rule r).defn.control 10 := rfl
    unfold reservationOf
    dsimp only
    rw [capture]
    by_cases h : wbit (s.rule r).defn.control 10 = true
    · have listed := hc r hr h
      rw [content_of_listed listed, h]
      by_cases hq : (x == some r || !(s.rule r).hitOverQuota) = true
      · have body := same (s.rule r).defn.captureQueue r.castSucc (fld (s.rule r).defn.control 13 2)
          (x == some r && (s.rule r).hitOverQuota) (x == some r) listed
        have queue : ((s.rule r).defn.captureQueue == n) = (fld (s.rule r).defn.control 11 2 == (n.val : BitVec 2)) :=
          queueOf_beq _ n
        rw [hq, Bool.and_true, Bool.and_true, Bool.true_and, if_pos rfl, ← queue, ← body, Option.filter_some]
        dsimp only
        cases ((s.rule r).defn.captureQueue == n) <;> rfl
      · rw [Bool.not_eq_true] at hq
        rw [hq, Bool.and_false, Bool.and_false]
        rfl
    · rw [Bool.not_eq_true] at h
      rw [h]
      rfl
  · have present : unmatchedPresent s.unmatched = wbit s.unmatched 0 := rfl
    rw [present]
    cases x with
    | some r => simp
    | none =>
      by_cases h : wbit s.unmatched 0 = true
      · have queue : (unmatchedQueue s.unmatched == n) = (fld s.unmatched 1 2 == (n.val : BitVec 2)) := queueOf_beq _ n
        have listed : fld s.unmatched 4 2 ≠ 3 := fun e => by
          have := hu h
          rw [e] at this
          exact absurd this (by decide)
        rw [unmatchedContent_of_listed (hu h), h]
        rw [if_pos (by rfl), List.filter_singleton, queue]
        by_cases e : fld s.unmatched 1 2 = (n.val : BitVec 2)
        · rw [beq_iff_eq.mpr e, if_pos ⟨rfl, rfl, e⟩]
          exact congrArg (fun b => [b]) (same _ _ _ _ _ listed)
        · rw [beq_eq_false_iff_ne.mpr e, if_neg fun h => e h.2.2]
          rfl
      · simp [h]

end State

/-- The first half of R36, R38 to R40, R86 and R91: the records of a decision in queues with room. -/
theorem decideTxn_records (s : State) (t : Txn) (before : Option Word) (sub : Bool) (ht : ∀ c k, (s.timer c).trigger ≠ .rule k)
    (room : ∀ n, (s.queue n).on = true ∧ (s.queue n).list.length + 25 ≤ (s.queue n).depth)
    (hp : (s.decideTxn t before sub).2 = .forward ∨ s.NonePending)
    (hc : ∀ r ∈ s.hitsOf t before, wbit (s.rule r).defn.control 10 = true → fld (s.rule r).defn.control 13 2 ≠ 3)
    (hu : wbit s.unmatched 0 = true → (fld s.unmatched 4 2).toNat ≤ 1) (n : Fin 4) :
    ∃ l, ((s.decideTxn t before sub).1.queue n) = { s.queue n with list := (s.queue n).list ++ l } ∧
      (∀ x ∈ l, x.timestamp = s.timebase.timestamp) ∧ ∀ made : Fin 25 → BitVec 2 → Bool → RecordBody,
        (∀ n source c beyond own, c ≠ 3 → State.reservedBody t before (State.endedWith (s.decideTxn t before sub).2)
          (s.discardData (s.deciderOf t before)) ⟨n, source, State.contentOf c, beyond, own⟩ = made source c beyond) →
        l.map Record.body = ((s.hitsOf t before).filter fun r =>
          wbit (s.rule r).defn.control 10 && fld (s.rule r).defn.control 11 2 == n.val &&
            (s.deciderOf t before == some r || !(s.rule r).hitOverQuota)).map (fun r =>
              made r.castSucc (fld (s.rule r).defn.control 13 2) (s.deciderOf t before == some r && (s.rule r).hitOverQuota)) ++
          (if s.deciderOf t before = none ∧ wbit s.unmatched 0 = true ∧ fld s.unmatched 1 2 = n.val then
            [made 24 (fld s.unmatched 4 2) false] else []) := by
  let t₀ : Txn := { t with between := [] }
  have none : s.hitTriggers t₀ before = [] := by
    refine List.eq_nil_iff_forall_not_mem.mpr fun c hc => ?_
    obtain ⟨k, -, hk⟩ := State.mem_hitTriggers.mp hc
    exact ht c k.val hk
  have hits : s.hitsOf t₀ before = s.hitsOf t before := State.hitsOf_between t before s
  have decider : s.deciderOf t₀ before = s.deciderOf t before := State.deciderOf_between t before s
  obtain ⟨l, queue, bodies, stamps⟩ := State.decision_queue (t := t₀) rfl none (sub := sub) (fun v _ => by
    obtain ⟨on, few⟩ := room v.queue
    have := State.reservations_length_le t₀ before s (s.deciderOf t₀ before)
    exact ⟨on, by omega⟩) hp n
  rw [hits, decider] at bodies
  refine ⟨l, (State.queue_congr (State.afterDecision_fields _ _).1 n).trans queue, stamps, fun made same => ?_⟩
  exact bodies.trans (State.reservations_bodies same hc hu n)

end Sys2Proof.Machine
end

section
/-! Reservations in their order, and the AUDIT that needs its own (R36, R38 to R42, R86, R89, R98, R99). -/

namespace Sys2Proof.Machine

namespace State

variable {s : State} {r : Fin 24}

/-- The reservation of a hit that decides alone, within its quota. -/
def ownReservation (s : State) (r : Fin 24) : Reservation :=
  ⟨(s.rule r).defn.captureQueue, r.castSucc, (s.rule r).defn.content?.getD .addressOnly, false, true⟩

theorem reservations_own (hc : (s.rule r).defn.capture = true) (hq : (s.rule r).hitOverQuota = false) :
    s.reservations [r] (some r) = [s.ownReservation r] := by
  simp [reservations, reservationOf, ownReservation, hc, hq]

theorem hitTriggers_of_untriggered {t : Txn} {before : Option Word} (hits : s.hitsOf t before = [r])
    (ht : ∀ c, (s.timer c).trigger ≠ .rule r.val) : s.hitTriggers t before = [] :=
  List.eq_nil_iff_forall_not_mem.mpr fun c hc => by
    obtain ⟨k, hk, e⟩ := mem_hitTriggers.mp hc
    rw [hits] at hk
    obtain rfl := List.mem_singleton.mp hk
    exact ht c e

variable {t : Txn} {before : Option Word}

/-- Carrying out leaves the queues and the flags as the decision does. -/
theorem afterCarryOut_records (s : State) (x : Txn) (d : Decided) : (s.afterCarryOut x d).queues = d.state.queues ∧
    ∀ f, (s.afterCarryOut x d).alert.flagSet f = d.state.alert.flagSet f := by
  obtain ⟨p, b, carried⟩ := carryOut_eq x d.verdict d.state
  refine ⟨?_, fun f => (endCommand_flagSet ..).trans ?_⟩
  · rw [afterCarryOut, endCommand_queues, carried]
  · rw [carried]

/-- An AUDIT whose record is refused leaves the loss in its queue, with its flag (R42, R89, R90). -/
theorem decision_refused_audit (hi : insideOf t.between = []) (hits : s.hitsOf t before = [r]) (hd : s.deciderOf t before = some r)
    (ht : ∀ c, (s.timer c).trigger ≠ .rule r.val) (ha : s.decidedAction t (some r) = .audit)
    (hc : (s.rule r).defn.capture = true) (hq : (s.rule r).hitOverQuota = false) (hn : s.NonePending)
    (off : (s.queue (s.rule r).defn.captureQueue).on = false) :
    let n := (s.rule r).defn.captureQueue
    let d := s.decision t before false
    d.verdict = .ended .auditRefused .error ∧ d.state.queue n = { s.queue n with loss := satInc (s.queue n).loss } ∧
      d.state.alert.flagSet (.qo n) = true := by
  intro n d
  let u := s.partsBegin t before []
  obtain ⟨state, verdict⟩ := decision_untriggered hi (hitTriggers_of_untriggered hits ht) false
  have ended : d.verdict = .ended .auditRefused .error := (decision_audit hi hd ha rfl).1 off
  obtain ⟨queues, -, -⟩ := partsBegin_records t before s
  have refused : (u.queue n).reception = .refuse := Queue.reception_off (by rw [queue_congr queues]; exact off)
  have placed : (u.placed t before [s.ownReservation r] s.nextSerial s.timebase.timestamp).1 = u.loseIn n :=
    congrArg Prod.fst (placeAt_refuse refused ..)
  have vs : s.reservations (s.hitsOf t before) (s.deciderOf t before) = [s.ownReservation r] := by
    rw [hits, hd, reservations_own hc hq]
  have taken := reserve_of_ended (verdict.symm.trans ended)
  rw [vs, placed] at taken
  rw [placement, vs] at state
  have state : d.state = _ := state.trans taken
  refine ⟨ended, ?_, ?_⟩
  · have lost : (u.loseIn n).queue n = { s.queue n with loss := satInc (s.queue n).loss } := by
      rw [loseIn_queue, if_pos rfl, queue_congr queues]
      rfl
    have old : ∀ o w, (s.queue n).list.map (completeRecord o w) = (s.queue n).list := fun o w =>
      (List.map_congr_left fun r hr => completeRecord_done ((pendingCount_eq_zero_iff _).mp (hn n) r hr) o w).trans (List.map_id _)
    rw [state, queue_congr (consulted_queues _ _), completeAll_queue, lost, old]
  · rw [state]
    exact completeAll_flags _ _ _ _ _ (loseIn_flagSet u n)

/-- An AUDIT whose record has its place is forwarded, with that record behind the others (R42, R48). -/
theorem decision_placed_audit (hi : insideOf t.between = []) (hits : s.hitsOf t before = [r]) (hd : s.deciderOf t before = some r)
    (ht : ∀ c, (s.timer c).trigger ≠ .rule r.val) (ha : s.decidedAction t (some r) = .audit)
    (hc : (s.rule r).defn.capture = true) (hq : (s.rule r).hitOverQuota = false)
    (on : (s.queue (s.rule r).defn.captureQueue).on = true)
    (room : (s.queue (s.rule r).defn.captureQueue).list.length < (s.queue (s.rule r).defn.captureQueue).depth)
    (hk : t.kind = .read) (hp : s.path.port = .ready) (hn : s.NonePending) :
    (s.decision t before false).verdict = .forward ∧
      ((s.decision t before false).state.queue (s.rule r).defn.captureQueue).pendingCount = 1 := by
  let n := (s.rule r).defn.captureQueue
  let u := s.partsBegin t before []
  let v := s.ownReservation r
  obtain ⟨-, verdict⟩ := decision_untriggered hi (hitTriggers_of_untriggered hits ht) false
  obtain ⟨queues, -, path⟩ := partsBegin_records t before s
  have vs : s.reservations (s.hitsOf t before) (s.deciderOf t before) = [v] := by
    rw [hits, hd, reservations_own hc hq]
  have received : (u.queue n).reception = .room := Queue.reception_room (by rw [queue_congr queues]; exact on)
    (by rw [queue_congr queues]; exact room)
  have placed : (u.placed t before [v] s.nextSerial s.timebase.timestamp).2 = true := congrArg Prod.snd (placeAt_room received ..)
  have forward : (s.decision t before false).verdict = .forward := by
    rw [verdict, placement, reserve_verdict, vs, placed, hd, ha]
    refine forwardVerdict_ready ?_ fun h => absurd (hk.symm.trans h) nofun
    exact (congrArg Path.port ((placeAll_frame t before _ [v] (u, false)).path.trans path)).trans hp
  obtain ⟨l, queue, bodies, -⟩ := decision_queue hi (hitTriggers_of_untriggered hits ht) (sub := false) (fun x hx => by
    rw [vs] at hx ⊢
    obtain rfl := List.mem_singleton.mp hx
    exact ⟨on, room⟩) (.inl forward) n
  have single : l.map Record.body = [v.record t before] := by
    have same : (v.queue == n) = true := beq_self_eq_true n
    rw [bodies, vs, forward, List.filter_singleton, same]
    exact congrArg (fun b => [b]) (reservedBody_none t before _ v)
  obtain ⟨x, rfl, hx⟩ := List.map_eq_singleton_iff.mp single
  have pending : x.isPending = true := by
    unfold Record.isPending
    rw [hx]
    rfl
  have others : (s.queue n).list.filter Record.isPending = [] := List.length_eq_zero_iff.mp (hn n)
  refine ⟨forward, ?_⟩
  rw [queue, Queue.pendingCount, List.filter_append, others, List.filter_singleton, pending]
  rfl

end State

/-- Settles O11. -/
theorem reservationsStandInOrderAndAuditNeedsItsOwn : Obligations.ReservationsStandInOrderAndAuditNeedsItsOwn := by
  refine ⟨fun s t before sub ht room => ?_, fun s a bs r h hh hg hn scan action hc hq => ?_⟩
  · intro old p beyond d outcome fill made hp listed hu n
    obtain ⟨l, queue, stamps, bodies⟩ := decideTxn_records s t before sub ht room hp listed hu n
    have same := bodies made fun m source c beyond own hc => by
      rw [State.reservedBody_eq t before _ _ m source hc, State.discardData_eq]
      rfl
    simp only [State.hitOverQuota_eq] at same
    rw [queue]
    refine ⟨?_, ?_, rfl⟩
    · rw [List.append_assoc, List.map_append]
      exact congrArg (_ ++ ·) same
    · rw [List.drop_left]
      exact stamps
  · intro n
    let x := readTxn s a bs
    let u := s.presented
    have hits : u.hitsOf x none = [r] := congrArg Prod.fst ((State.scan_congr (s := s) (u := u) rfl x 0 0 allRules).trans scan)
    have decider : u.deciderOf x none = some r := congrArg Prod.snd ((State.scan_congr (s := s) (u := u) rfl x 0 0 allRules).trans scan)
    have audit : u.decidedAction x (some r) = .audit := by
      rw [State.decidedAction_within (s := u) (by rw [show (u.rule r) = s.rule r from rfl, hq]; exact nofun),
        (u.rule r).defn.action_audit_iff.mpr action]
      rfl
    have exec : exec (.upstreamRequest (.read a bs)) s = .next (s.thenChanges (u.decideAndCarryOut x none false)) :=
      exec_upstreamRequest_decided (q := .read a bs) rfl hh h (fun _ => hg) nofun rfl
    rw [State.thenChanges_decided, if_neg (by rw [hits]; exact nofun)] at exec
    have path := State.afterCarryOut_path s u x none false
    obtain ⟨queues', flags'⟩ := State.afterCarryOut_records s x (u.decision x none false)
    refine ⟨fun off ht none => ?_, fun on room port ht inside => ?_⟩
    · obtain rfl := none
      obtain ⟨verdict, queue, flag⟩ := State.decision_refused_audit (s := u) (t := x) rfl hits decider ht audit hc hq hn off
      obtain ⟨-, rules, -, -, -⟩ := State.decideTxn_of_nothing_inside s u x none false rfl
      obtain ⟨counted, -⟩ := State.decideTxn_counts x none false u r _ _ rfl rfl
      rw [if_pos (by rw [hits]; exact List.mem_singleton_self r), ← State.rule_congr rules r] at counted
      obtain ⟨queues, -, alert⟩ := State.afterDecision_fields (u.decision x none false).changes
        (s.afterCarryOut x (u.decision x none false))
      rw [verdict] at path
      have moved := congrArg State.path (State.afterDecision_rulesOnly (u.decision x none false).changes
        (s.afterCarryOut x (u.decision x none false)))
      have path := moved.trans path
      refine ⟨_, exec, ?_, ?_, ?_, ?_, ?_, ?_, counted⟩
      · exact congrArg Path.answer path
      · exact congrArg Path.phase path
      · exact (congrArg Path.port path :)
      · exact congrArg Path.txn path
      · exact (State.queue_congr (queues.trans queues') n).trans queue
      · exact (congrArg (fun l : Alert => l.flagSet (.qo n)) alert).trans ((flags' _).trans flag)
    · obtain ⟨verdict, count⟩ := State.decision_placed_audit (s := u) (t := x) inside hits decider ht audit hc hq on room rfl port hn
      rw [verdict] at path
      have moved := congrArg State.path (State.afterDecision_rulesOnly (u.decision x none false).changes
        ((s.afterCarryOut x (u.decision x none false)).meetAll bs))
      have path := moved.trans ((State.meetAll_path bs _).trans path)
      refine ⟨_, exec, congrArg Path.phase path, congrArg Path.answer path, fun none => ?_⟩
      obtain rfl := none
      obtain ⟨queues, -, -⟩ := State.afterDecision_fields (u.decision x Option.none false).changes
        (s.afterCarryOut x (u.decision x Option.none false))
      exact (congrArg Queue.pendingCount (State.queue_congr (queues.trans queues') n)).trans count

end Sys2Proof.Machine
end

section
/-! Reading out records: the words of a record, the copy of a window, and the removal by its word 5 (R92 to R95, R191). -/

namespace Sys2Proof.Machine

namespace State

/-! ### What a window reads -/

theorem readWindow_of_copy {s : State} {k : WindowKind} {n : Fin 4} {began : Bool} {r : Option Record}
    (h : s.copy = some ⟨k, n, began, r⟩) (off : Fin 6) : s.readWindow k n off = copyWord r off := by
  simp [readWindow, h]

theorem readWord_pop (s : State) (n : Fin 4) (k : Fin 6) : s.readWord (popAddr n k.val) = s.readWindow .pop n k := by
  rw [readWord, targetOf_pop]

theorem readWord_peek (s : State) (n : Fin 4) (k : Fin 6) : s.readWord (peekAddr n k.val) = s.readWindow .peek n k := by
  rw [readWord, targetOf_peek]

end State

/-! ### The words of a record (R191) -/

theorem place_zero {w : Nat} (x : BitVec w) : place x 0 = x.setWidth 32 := BitVec.shiftLeft_zero _

theorem Record.word_access {r : Record} {a : AccessRecord} (h : r.body = .access a) :
    r.word 0 = 1 ||| BitVec.ofNat 32 a.source.val <<< 8 ||| a.word0 ∧ r.word 1 = r.timestamp ∧
    r.word 2 = a.number.setWidth 32 ∧ r.word 3 = a.addr.setWidth 32 ∧ r.word 4 = a.data.getD 0 ∧ r.word 5 = a.before.getD 0 := by
  simp [Record.word, h, RecordBody.kindCode, RecordBody.source, place]

theorem Record.word_other {r : Record} (h : ∀ a, r.body ≠ .access a) :
    r.word 0 = r.body.kindCode ||| r.body.source <<< 8 ∧ r.word 1 = r.timestamp ∧ r.word 4 = r.body.auxiliary ∧ r.word 5 = 0 := by
  cases hb : r.body with
  | access a => exact absurd hb (h a)
  | _ => simp [Record.word, hb]

/-- Of the records of the blocks a PATH_FAULT alone names a transaction and an address. -/
theorem Record.word_transaction {r : Record} (h : ∀ a, r.body ≠ .access a) : (∀ type n x, r.body = .pathFault type n x →
      r.word 2 = n.setWidth 32 ∧ r.word 3 = x.setWidth 32) ∧
    ((∀ type n x, r.body ≠ .pathFault type n x) → r.word 2 = 0 ∧ r.word 3 = 0) := by
  refine ⟨fun type n x hb => by simp [Record.word, hb, place], fun hf => ?_⟩
  cases hb : r.body with
  | access a => exact absurd hb (h a)
  | pathFault type n x => exact absurd hb (hf type n x)
  | _ => simp [Record.word, hb]

/-! ### A frame that reaches a window -/

namespace State

theorem exec_popWindowRead {s : State} (hp : s.powered = true) (n : Fin 4) :
    exec (.popWindowRead n) s = .next (s.makeCopy .pop n) := congrArg Host.Outcome.next (if_pos hp)

theorem exec_peek {s : State} (hp : s.powered = true) (n : Fin 4) : exec (.peek n) s = .next (s.makeCopy .peek n) :=
  congrArg Host.Outcome.next (if_pos hp)

theorem windowAhead_reached {c : Option ReadCopy} {a : ServiceAddr} {k : WindowKind} {n : Fin 4} {off : Fin 6}
    (ha : targetOf a = .window k n off) (hc : copied c k n = false) (left : Nat) :
    windowAhead c a (left + 1) = some ⟨k, n, off, a + 1, left⟩ := by
  rw [windowAhead, ha]
  exact if_neg (by rw [hc]; exact nofun)

theorem windowAhead_copied {c : Option ReadCopy} {a : ServiceAddr} {k : WindowKind} {n : Fin 4} {off : Fin 6}
    (ha : targetOf a = .window k n off) (hc : copied c k n = true) (left : Nat) :
    windowAhead c a (left + 1) = windowAhead c (a + 1) left := by
  rw [windowAhead, ha]
  exact if_pos hc

theorem windowAhead_unmapped {a : ServiceAddr} (ha : targetOf a = .unmapped) (c : Option ReadCopy) (left : Nat) :
    windowAhead c a (left + 1) = windowAhead c (a + 1) left := by rw [windowAhead, ha]

theorem removeCopied_of_noCopy {s : State} (h : s.copy = none) : s.removeCopied = s := by simp [removeCopied, h]

/-- The copy that a frame makes of the next window it reaches. -/
theorem makeCopy_of_reached {s : State} {k : WindowKind} {n : Fin 4} {off : Fin 6} {a : ServiceAddr} {left : Nat}
    (h : s.nextWindow = some ⟨k, n, off, a, left⟩) : s.makeCopy k n =
      { s.removeCopied with copy := some ⟨k, n, off == 0, s.removeCopied.copyNow n⟩ }.setFrame (.data .read a left) := by
  simp [makeCopy, h]

/-- The first window of a frame. -/
theorem makeCopy_first {s : State} (hc : s.copy = none) {k : WindowKind} {n : Fin 4} {off : Fin 6} {a : ServiceAddr}
    {left : Nat} (ha : targetOf a = .window k n off) (hf : s.link.frame = .data .read a (left + 1)) : s.makeCopy k n = { s with
      copy := some ⟨k, n, off == 0, s.copyNow n⟩
      link := { s.link with frame := .data .read (a + 1) left } } := by
  have reached : s.nextWindow = some ⟨k, n, off, a + 1, left⟩ := by
    rw [nextWindow, hf]
    exact windowAhead_reached ha (by rw [hc]; rfl) left
  rw [makeCopy_of_reached reached, removeCopied_of_noCopy hc]
  rfl

end State

/-- Settles O29. -/
theorem windowReadMakesTheCopy : Obligations.WindowReadMakesTheCopy := by
  refine ⟨fun s n k began => ⟨fun r h => ?_, fun r h => ?_, fun h => ?_, fun h => ?_⟩, fun r a h => ?_, fun r => ?_,
    fun s n k left hp hc => ⟨fun hf => ?_, fun hf => ?_⟩⟩
  · exact (s.readWord_pop n k).trans (State.readWindow_of_copy h k)
  · exact (s.readWord_peek n k).trans (State.readWindow_of_copy h k)
  · exact (s.readWord_pop n k).trans (State.readWindow_of_copy h k)
  · exact (s.readWord_peek n k).trans (State.readWindow_of_copy h k)
  · intro flag outcome
    obtain ⟨zero, others⟩ := Record.word_access h
    refine ⟨?_, others⟩
    rw [zero, AccessRecord.word0]
    simp only [placeBit_eq, ← BitVec.or_assoc]
    generalize a.outcome = o
    cases o with
    | none => rfl
    | some o => cases o <;> rfl
  · intro is
    have other : ∀ {body : RecordBody}, r.body = body → (∀ a, body ≠ .access a) → (∀ type n x, body ≠ .pathFault type n x) →
        is body.kindCode body.source 0 0 body.auxiliary := fun {body} h ha hp => by
      obtain ⟨zero, one, four, five⟩ := Record.word_other (r := r) (by rw [h]; exact ha)
      obtain ⟨two, three⟩ := (Record.word_transaction (r := r) (by rw [h]; exact ha)).2 (by rw [h]; exact hp)
      exact ⟨h ▸ zero, one, two, three, h ▸ four, five⟩
    refine ⟨fun t m h => ?_, fun t v h => ?_, fun e count level h => ?_, fun cause h => ?_, fun refused h => ?_,
      fun type number addr h => ?_⟩
    · have words := other h nofun nofun
      cases m <;> exact words
    · have words := other h nofun nofun
      rw [show (RecordBody.timerInterval t v).auxiliary = v.setWidth 32 from place_zero v] at words
      exact words
    · have words := other h nofun nofun
      rw [RecordBody.auxiliary, place_zero, placeBit_eq] at words
      exact words
    · have words := other h nofun nofun
      cases cause <;> exact words
    · have words := other h nofun nofun
      rw [show (RecordBody.gateOpened refused).auxiliary = refused.setWidth 32 from place_zero refused] at words
      exact words
    · obtain ⟨zero, one, four, five⟩ := Record.word_other (r := r) (by rw [h]; exact nofun)
      obtain ⟨two, three⟩ := (Record.word_transaction (r := r) (by rw [h]; exact nofun)).1 type number addr h
      rw [h] at zero four
      cases type <;> exact ⟨zero, one, two, three, four, five⟩
  · rw [State.exec_popWindowRead hp, State.makeCopy_first hc (targetOf_pop n k) hf]
    rfl
  · rw [State.exec_peek hp, State.makeCopy_first hc (targetOf_peek n k) hf]
    rfl

end Sys2Proof.Machine
end

section
/-! The removal of a copied record by word 5 of its window (R93, R94). -/

namespace Sys2Proof.Machine

namespace State

/-! ### The removal -/

/-- What is left of a list once the record copied from its window has been read out. -/
def leftOf (began : Bool) (c : Option Record) (l : List Record) : List Record :=
  match began, c, l with
  | true, some r, x :: l => if x.serial = r.serial then l else x :: l
  | _, _, l => l

theorem removeCopied_pop {s : State} {n : Fin 4} {began : Bool} {c : Option Record} (h : s.copy = some ⟨.pop, n, began, c⟩) :
    s.removeCopied = s.setQueue n { s.queue n with list := leftOf began c (s.queue n).list } := by
  have kept : s.setQueue n { s.queue n with list := (s.queue n).list } = s :=
    congrArg (fun q : Vector Queue 4 => { s with queues := q }) (Vector.set_getElem_self n.isLt)
  unfold removeCopied
  rw [h]
  cases began with
  | false => exact kept.symm
  | true =>
    cases c with
    | none => exact kept.symm
    | some r =>
      dsimp only
      cases hl : (s.queue n).list with
      | nil =>
        rw [hl] at kept
        exact kept.symm
      | cons x l =>
        have left : leftOf true (some r) (x :: l) = if x.serial = r.serial then l else x :: l := rfl
        dsimp only
        rw [left]
        by_cases hs : x.serial = r.serial
        · rw [if_pos hs, if_pos hs, dropOldest, hl]
          rfl
        · rw [if_neg hs, if_neg hs, ← hl, kept]

/-! ### The words on the way -/

theorem popAddr_succ (n : Fin 4) (k : Nat) : popAddr n k + 1 = popAddr n (k + 1) :=
  (BitVec.ofNat_add _ 1).symm

/-- After word 5 two addresses name nothing, and then the next window begins. -/
theorem popAddr_next {n m : Fin 4} (h : m.val = n.val + 1) : popAddr n 8 = popAddr m 0 := by
  rw [popAddr, popAddr, h]
  exact congrArg _ (by omega)

theorem targetOf_pop_gap : ∀ n : Fin 4, targetOf (popAddr n 6) = .unmapped ∧ targetOf (popAddr n 7) = .unmapped := by
  decide +kernel

theorem copied_self (k : WindowKind) (n : Fin 4) (began : Bool) (r : Option Record) : copied (some ⟨k, n, began, r⟩) k n = true := by
  simp [copied]

/-- The rest of a window already copied is read on the way to the next one. -/
theorem windowAhead_over_pop {c : Option ReadCopy} {n m : Fin 4} (hc : copied c .pop n = true) (hm : m.val = n.val + 1)
    (left i : Nat) (hi : i ≤ 8) : windowAhead c (popAddr n (8 - i)) (left + i) = windowAhead c (popAddr m 0) left := by
  induction i with
  | zero => rw [Nat.sub_zero, Nat.add_zero, popAddr_next hm]
  | succ i ih =>
    have next : popAddr n (8 - (i + 1)) + 1 = popAddr n (8 - i) := by
      rw [popAddr_succ]
      exact congrArg _ (by omega)
    rw [← ih (by omega), ← next, ← Nat.add_assoc]
    by_cases hw : 2 ≤ i
    · exact windowAhead_copied (targetOf_pop n ⟨8 - (i + 1), by omega⟩) hc _
    · have gap : i = 0 ∨ i = 1 := by omega
      obtain rfl | rfl := gap
      · exact windowAhead_unmapped (targetOf_pop_gap n).2 c _
      · exact windowAhead_unmapped (targetOf_pop_gap n).1 c _

theorem popAddr_distance : ∀ (n : Fin 4) (k : Fin 5), (popAddr n 5 - (popAddr n k.val + 1)).toNat = 4 - k.val := by decide +kernel

theorem popWord5_of_reading {s : State} {n : Fin 4} {k : Fin 5} {left : Nat} {began : Bool} {c : Option Record}
    (hc : s.copy = some ⟨.pop, n, began, c⟩) (hf : s.link.frame = .data .read (popAddr n k.val + 1) left) (hl : 5 ≤ left + k.val) :
    s.popWord5 n = some (.data .read (popAddr n 5 + 1) (left + k.val - 5)) := by
  have reached : (4 - k.val < left) ∧ 4 - k.val ≤ 5 := by omega
  unfold popWord5
  rw [hf, hc]
  dsimp only
  rw [popAddr_distance, copied_self, decide_eq_true reached.1, decide_eq_true reached.2]
  exact congrArg (fun x => some (Frame.data .read (popAddr n 5 + 1) x)) (by omega)

end State

/-- Settles O30. -/
theorem popRemovesTheCopiedRecord : Obligations.PopRemovesTheCopiedRecord := by
  refine ⟨fun s n k left began c hp hc hf hl => ?_, fun s n m k left r x l hp hm hc hf hl hq => ?_⟩
  · have exec : exec (.popRemove n) s = .next (s.removeCopied.setFrame (.data .read (popAddr n 5 + 1) (left + k.val - 5))) := by
      refine congrArg Host.Outcome.next ((if_pos hp).trans ?_)
      dsimp only
      rw [State.popWord5_of_reading hc hf hl]
    rw [exec, State.removeCopied_pop hc]
    rfl
  · have other : n ≠ m := fun e => by
      rw [e] at hm
      omega
    have fresh : State.copied s.copy .pop m = false := by
      rw [hc]
      simp [State.copied, other]
    have own : State.copied s.copy .pop n = true := by
      rw [hc]
      exact State.copied_self ..
    obtain ⟨rest, hrest⟩ : ∃ rest, left = rest + 1 + (7 - k.val) := ⟨left + k.val - 8, by omega⟩
    have reached : s.nextWindow = some ⟨.pop, m, 0, popAddr m 0 + 1, left + k.val - 8⟩ := by
      have word : popAddr n k.val + 1 = popAddr n (8 - (7 - k.val)) := by
        rw [State.popAddr_succ]
        exact congrArg _ (by omega)
      rw [State.nextWindow, hf]
      dsimp only
      rw [word, hrest, State.windowAhead_over_pop own hm (rest + 1) (7 - k.val) (by omega),
        State.windowAhead_reached (a := popAddr m 0) (targetOf_pop m 0) fresh]
      exact congrArg (fun x => some (State.Reached.mk .pop m 0 (popAddr m 0 + 1) x)) (by omega)
    have removed : s.removeCopied = s.setQueue n { s.queue n with list := if x.serial = r.serial then l else x :: l } := by
      rw [State.removeCopied_pop hc, hq]
      rfl
    have copied : s.removeCopied.copyNow m = s.copyNow m := by
      rw [removed, State.copyNow, State.queue_setQueue, if_neg other]
      rfl
    rw [State.exec_popWindowRead hp, State.makeCopy_of_reached reached, copied, removed]
    rfl

end Sys2Proof.Machine
end

section
/-! Frames, the words that a READ frame sends, and the output SDO (R174, R175, R183, R189, R190, 11.2 to 11.5). -/

namespace Sys2Proof.Machine

/-! ### The addresses that name nothing (R189) -/

theorem targetOf_gap_below : ∀ x : Fin 0x1C8, (0x00B ≤ x.val ∧ x.val < 0x040) ∨ (0x100 ≤ x.val ∧ x.val < 0x120 ∧ 4 ≤ x.val % 8) ∨
    (0x120 ≤ x.val ∧ x.val < 0x1A0 ∧ 6 ≤ x.val % 8) ∨ (0x1A0 ≤ x.val ∧ x.val < 0x1B8 ∧ 3 ≤ x.val % 8) ∨
    (0x1B8 ≤ x.val ∧ 4 ≤ x.val % 8) → targetOf (BitVec.ofNat 16 x.val) = .unmapped := by decide +kernel

theorem targetOf_gap {a : ServiceAddr} (h : (0x00B ≤ a.toNat ∧ a.toNat < 0x040) ∨
    (0x100 ≤ a.toNat ∧ a.toNat < 0x120 ∧ 4 ≤ a.toNat % 8) ∨ (0x120 ≤ a.toNat ∧ a.toNat < 0x1A0 ∧ 6 ≤ a.toNat % 8) ∨
    (0x1A0 ≤ a.toNat ∧ a.toNat < 0x1B8 ∧ 3 ≤ a.toNat % 8) ∨ (0x1B8 ≤ a.toNat ∧ a.toNat < 0x1C8 ∧ 4 ≤ a.toNat % 8) ∨
    0x1C8 ≤ a.toNat) : targetOf a = .unmapped := by
  by_cases ha : 0x1C8 ≤ a.toNat
  · exact targetOf_beyond ha
  · have below := targetOf_gap_below ⟨a.toNat, by omega⟩ (by dsimp only; omega)
    rwa [BitVec.ofNat_toNat, BitVec.setWidth_eq] at below

theorem targetOf_queue : ∀ (n : Fin 4) (off : Fin 4), targetOf (queueAddr n off.val) = .queue n off := by decide +kernel
theorem targetOf_timer : ∀ (t : Fin 8) (off : Fin 6), targetOf (timerAddr t off.val) = .timer t off := by decide +kernel
theorem targetOf_input : ∀ (e : Fin 2) (off : Fin 3), targetOf (inputAddr e off.val) = .input e off := by decide +kernel

theorem targetOf_statusWords : targetOf 0x1B2 = .gate 2 ∧ targetOf 0x1BB = .alert 3 ∧ targetOf 0x1C3 = .timebase 3 := by
  decide +kernel

namespace State

/-! ### The words -/

section words

variable {s : State} {a : ServiceAddr}

theorem readWord_device {w : DeviceWord} (h : targetOf a = .device w) : s.readWord a = s.readDevice w := by rw [readWord, h]
theorem readWord_gate {off : Fin 3} (h : targetOf a = .gate off) : s.readWord a = s.readGate off := by rw [readWord, h]
theorem readWord_alert {off : Fin 4} (h : targetOf a = .alert off) : s.readWord a = s.readAlert off := by rw [readWord, h]
theorem readWord_timebase {off : Fin 4} (h : targetOf a = .timebase off) : s.readWord a = s.readTimebase off := by rw [readWord, h]
theorem readWord_unmapped (h : targetOf a = .unmapped) : s.readWord a = 0 := by rw [readWord, h]

theorem readWord_queue (s : State) (n : Fin 4) (off : Fin 4) : s.readWord (queueAddr n off.val) = s.readQueue n off := by
  rw [readWord, targetOf_queue]
theorem readWord_timer (s : State) (t : Fin 8) (off : Fin 6) : s.readWord (timerAddr t off.val) = s.readTimer t off := by
  rw [readWord, targetOf_timer]
theorem readWord_input (s : State) (e : Fin 2) (off : Fin 3) : s.readWord (inputAddr e off.val) = s.readInput e off := by
  rw [readWord, targetOf_input]

end words

variable (s : State)

/-- The words of the device that carry several fields. -/
theorem readDevice_fields :
    s.readDevice .status = ((if s.link.locked then 1#32 <<< 0 else 0) ||| s.store.state.code <<< 1 |||
      (if s.store.loadDefaults then 1#32 <<< 3 else 0) ||| s.store.saveResult.code <<< 4 |||
      (if s.path.restartHold then 1#32 <<< 6 else 0)) ∧
    s.readDevice .requestStatus = (s.link.status.code ||| (if s.link.pendingMark then 1#32 <<< 7 else 0)) ∧
    s.readDevice .pathState = (s.path.phase.code ||| (if s.path.abandoned then 1#32 <<< 2 else 0) |||
      (if s.path.held.isSome then 1#32 <<< 3 else 0) ||| (if s.store.state == .loading then 1#32 <<< 4 else 0) |||
      (if s.path.port == .late then 1#32 <<< 5 else 0) ||| (if s.path.restartHold then 1#32 <<< 6 else 0) |||
      (if s.pins.urst then 1#32 <<< 7 else 0) ||| s.path.port.code <<< 8) := by
  simp only [readDevice, placeBit_eq, and_self]

theorem readGate_status : s.readGate 2 = (s.gate.state.code ||| (if s.gate.pfail then 1#32 <<< 2 else 0) |||
    (if s.gate.hold then 1#32 <<< 3 else 0) ||| (if s.gate.powerSeen then 1#32 <<< 4 else 0) |||
    (if s.gate.inFlight then 1#32 <<< 5 else 0) ||| s.gate.holdOff.setWidth 32 <<< 8 ||| s.gate.refused.setWidth 32 <<< 16) := by
  simp only [← placeBit_eq]
  rfl

theorem readAlert_status : s.readAlert 3 = ((if s.alert.line then 1#32 <<< 0 else 0) |||
    (if s.alert.pulseMode then 1#32 <<< 1 else 0) ||| s.alert.pulse.setWidth 32 <<< 8) := by
  simp only [← placeBit_eq]
  rfl

theorem readTimebase_status : s.readTimebase 3 = ((if s.timebase.running then 1#32 <<< 0 else 0) |||
    s.timebase.accumulator.setWidth 32 <<< 4 ||| s.timebase.tapCount.setWidth 32 <<< 16) := by
  simp only [← placeBit_eq]
  rfl

theorem readRule_status (r : Fin 24) : s.readRule r 7 = ((s.rule r).state.code ||| (if (s.rule r).overQuota then 1#32 <<< 2 else 0) |||
    (if (s.rule r).alerted then 1#32 <<< 3 else 0) ||| (s.rule r).window.setWidth 32 <<< 4 |||
    (s.rule r).hits.setWidth 32 <<< 16) := by
  simp only [← placeBit_eq]
  rfl

theorem readQueue_status (n : Fin 4) : s.readQueue n 2 = (BitVec.ofNat 32 (s.queue n).list.length |||
    BitVec.ofNat 32 (s.queue n).available <<< 16 ||| (if (s.queue n).on then 1#32 <<< 31 else 0)) := by
  simp only [← placeBit_eq]
  rfl

/-- The status word of an input whose sampler holds `m`. -/
theorem readInput_status (e : Fin 2) {m : Sampler} (h : (s.input e).sampler.getD (.seed (s.evPin e)) = m) : s.readInput e 1 =
    ((if (s.input e).enabled then 1#32 <<< 0 else 0) ||| (if s.evPin e then 1#32 <<< 1 else 0) |||
      (if m.seen then 1#32 <<< 2 else 0) ||| (if m.newest then 1#32 <<< 3 else 0) ||| (if m.middle then 1#32 <<< 4 else 0) |||
      (if m.oldest then 1#32 <<< 5 else 0) ||| (s.input e).count.setWidth 32 <<< 8) := by
  rw [← h]
  simp only [← placeBit_eq]
  rfl

/-! ### The frame and SDO -/

theorem exec_serviceFrameHeader (hp : s.powered = true) (hl : s.pins.scsLow = false) (hr : s.pins.rst = false)
    (kind : HeaderKind) (addr : ServiceAddr) (count : BitVec 8) : exec (.serviceFrameHeader kind addr count) s =
      .next (({ s with pins := { s.pins with scsLow := true } } : State).beginFrame kind addr count) := by
  have row : exec (.serviceFrameHeader kind addr count) s = execServiceFrameHeader kind addr count s := rfl
  rw [row, execServiceFrameHeader, hl]
  dsimp only
  rw [hp, hr]
  rfl

theorem beginFrame_served {count : BitVec 8} (hlow : 1 ≤ count.toNat) (hhigh : count.toNat ≤ 64) (addr : ServiceAddr) :
    s.beginFrame .read addr count = s.setFrame (.data .read addr count.toNat) ∧
    s.beginFrame .write addr count = s.setFrame (.data .write addr count.toNat) := by
  have inside : ¬ (count.toNat = 0 ∨ 64 < count.toNat) := by omega
  exact ⟨if_neg inside, if_neg inside⟩

theorem beginFrame_void {kind : HeaderKind} {count : BitVec 8} (h : kind = .unnamed ∨ count = 0 ∨ 64 < count.toNat)
    (addr : ServiceAddr) : s.beginFrame kind addr count = (s.setFrame .void).setStatus .invalid false := by
  by_cases hc : count.toNat = 0 ∨ 64 < count.toNat
  · exact if_pos hc
  · have unnamed : kind = .unnamed := h.resolve_right fun h => hc (h.imp_left fun h => by rw [h]; rfl)
    rw [unnamed]
    exact if_neg hc

theorem sdo_not_driven (h : s.pins.scsLow = false ∨ s.pins.rst = true ∨ s.powered = false) : s.sdo = .notDriven :=
  if_pos (by obtain h | h | h := h <;> simp [h])

theorem sdo_driven (hl : s.pins.scsLow = true) (hr : s.pins.rst = false) (hp : s.powered = true) : s.sdo = match s.link.frame with
    | .idle => .notDriven
    | .data .read a (_ + 1) => .word (s.readWord a)
    | _ => .low := by
  unfold sdo
  rw [hl, hr, hp]
  rfl

end State

/-- Settles O45. -/
theorem frameHeaderAndRise : Obligations.FrameHeaderAndRise := by
  refine ⟨fun s => ?_, fun s => ?_, fun s addr count hp hl hr => ?_, fun s => rfl, fun w i => ?_, fun s => ?_⟩
  · intro flag
    obtain ⟨status, request, path⟩ := s.readDevice_fields
    obtain ⟨gate, alert, timebase⟩ := targetOf_statusWords
    refine ⟨State.readWord_device (w := .identification) rfl, (State.readWord_device rfl).trans status, State.readWord_device (w := .action) rfl,
      (State.readWord_device rfl).trans request, (State.readWord_device (w := .lock) rfl).trans (placeBit_eq _ _),
      State.readWord_device (w := .accessCode) rfl, State.readWord_device (w := .defaultActions) rfl,
      State.readWord_device (w := .unmatched) rfl, State.readWord_device (w := .responseLimit) rfl,
      (State.readWord_device rfl).trans path, (State.readWord_device (w := .transactionNumber) rfl).trans (place_zero _),
      State.readWord_gate targetOf_gateConfig, State.readWord_gate targetOf_gateAction,
      (State.readWord_gate gate).trans s.readGate_status,
      (State.readWord_alert (off := 0) targetOf_alertFlags).trans (place_zero s.alert.flags),
      (State.readWord_alert (off := 1) targetOf_alertEnable).trans (place_zero s.alert.enables),
      State.readWord_alert targetOf_alertConfig, (State.readWord_alert alert).trans s.readAlert_status,
      State.readWord_timebase targetOf_timebaseConfig, State.readWord_timebase targetOf_timebaseAction,
      State.readWord_timebase targetOf_timestamp, (State.readWord_timebase timebase).trans s.readTimebase_status⟩
  · intro flag
    refine ⟨fun r => ?_, fun n => ?_, fun t => ?_, fun e => ?_, fun a h => ⟨targetOf_gap h, State.readWord_unmapped (targetOf_gap h)⟩⟩
    · intro x word
      have read : ∀ k : Fin 8, word k.val = s.readRule r k := s.readWord_rule r
      exact ⟨read 0, read 1, read 2, read 3, read 4, read 5, read 6, (read 7).trans (s.readRule_status r)⟩
    · intro q word
      have read : ∀ k : Fin 4, word k.val = s.readQueue n k := s.readWord_queue n
      refine ⟨read 0, read 1, (read 2).trans (s.readQueue_status n), (read 3).trans ?_⟩
      exact congrArg (· ||| _) (place_zero q.loss)
    · intro ch word
      have read : ∀ k : Fin 6, word k.val = s.readTimer t k := s.readWord_timer t
      refine ⟨read 0, (read 1).trans (place_zero _), read 2, read 3, (read 4).trans (place_zero _), (read 5).trans ?_⟩
      exact congrArg (· ||| _) (place_zero ch.minimum)
    · intro i p word status
      have read : ∀ k : Fin 3, word k.val = s.readInput e k := s.readWord_input e
      refine ⟨read 0, fun h => (read 1).trans (s.readInput_status e ?_), fun m h => (read 1).trans (s.readInput_status e ?_), read 2⟩
      · rw [h]
        rfl
      · rw [h]
        rfl
  · intro low
    refine ⟨fun h1 h64 => ?_, fun kind h => ?_⟩
    · rw [s.exec_serviceFrameHeader hp hl hr, s.exec_serviceFrameHeader hp hl hr, (State.beginFrame_served _ h1 h64 addr).1,
        (State.beginFrame_served _ h1 h64 addr).2]
      exact ⟨rfl, rfl⟩
    · rw [s.exec_serviceFrameHeader hp hl hr, State.beginFrame_void _ h]
      rfl
  · have bit : w.getMsbD i.val = w.getLsbD (31 - i.val) := by
      rw [BitVec.getMsbD_eq_getLsbD, decide_eq_true i.isLt, Bool.true_and]
    exact congrArg some bit
  · refine ⟨s.sdo_not_driven, fun hl hr hp => ?_⟩
    rw [s.sdo_driven hl hr hp]
    refine ⟨fun h => ?_, fun a left h => ?_, fun a h => ?_, fun a left h => ?_⟩
    · obtain h | h := h <;> rw [h]
    · rw [h]
    · rw [h]
    · rw [h]

end Sys2Proof.Machine
end

section
/-! The end of loading: the queues that start, and the look at PFAIL (R79, R102, R162, R180, R184). -/

namespace Sys2Proof.Machine

namespace State

/-! ### The queues that are turned on (R79, R102) -/

/-- A queue marked ON is turned on where it is OFF, has a depth, and the pool holds it. -/
theorem loadQueueOn_eq (i : Image) (s : State) (n : Fin 4) : loadQueueOn i s n =
    if i.queues[n].on = true ∧ (s.queue n).on = false ∧ (s.queue n).depth ≠ 0 ∧ s.poolUsed + (s.queue n).depth ≤ 256 then
      s.setQueue n { s.queue n with on := true, list := [], loss := 0 }
    else s := by
  unfold loadQueueOn
  by_cases hi : i.queues[n].on = true
  · rw [if_pos hi]
    by_cases hon : (s.queue n).on = true
    · have turned : queueTurnOn n s = (.active, s) := if_pos hon
      have refused : ¬ (Status.active, s).1 = .accepted := nofun
      rw [turned]
      dsimp only
      rw [if_neg refused, if_neg fun h => by
        obtain ⟨-, off, -⟩ := h
        exact absurd (hon.symm.trans off) nofun]
    · have off : (s.queue n).on = false := Bool.eq_false_iff.mpr hon
      by_cases hd : (s.queue n).depth = 0 ∨ 256 < s.poolUsed + (s.queue n).depth
      · have turned : queueTurnOn n s = (.invalid, s) := (if_neg hon).trans (if_pos hd)
        have refused : ¬ (Status.invalid, s).1 = .accepted := nofun
        rw [turned]
        dsimp only
        rw [if_neg refused, if_neg fun h => by obtain ⟨-, -, depth, room⟩ := h; omega]
      · have turned : queueTurnOn n s = (.accepted, s.setQueue n { s.queue n with on := true, list := [] }) :=
          (if_neg hon).trans (if_neg hd)
        have fits : i.queues[n].on = true ∧ (s.queue n).on = false ∧ (s.queue n).depth ≠ 0 ∧
            s.poolUsed + (s.queue n).depth ≤ 256 := ⟨hi, off, by omega, by omega⟩
        rw [turned, if_pos fits]
        dsimp only
        rw [if_pos rfl, queue_setQueue, if_pos rfl]
        exact congrArg (fun q : Vector Queue 4 => { s with queues := q }) (Vector.set_set ..)
  · rw [if_neg hi, if_neg fun h => hi h.1]

/-- Nothing but the queues changes. -/
theorem loadQueues_only (i : Image) (s : State) : ∃ q, allQueues.foldl (loadQueueOn i) s = { s with queues := q } :=
  foldl_frame (R := fun s u : State => ∃ q, u = { s with queues := q }) (fun s => ⟨s.queues, rfl⟩)
    (fun ⟨_, h⟩ ⟨q', h'⟩ => ⟨q', by rw [h', h]⟩) (fun s n => by
      rw [loadQueueOn_eq]
      split
      · exact ⟨_, rfl⟩
      · exact ⟨s.queues, rfl⟩) _ _

theorem loadQueueOn_config (i : Image) (s : State) (n m : Fin 4) : ((loadQueueOn i s n).queue m).config = (s.queue m).config :=
  (loadQueueOn_records i s n).2.1 m

theorem loadQueueOn_queue_ne (i : Image) (s : State) {n m : Fin 4} (h : n ≠ m) : (loadQueueOn i s n).queue m = s.queue m := by
  rw [loadQueueOn_eq]
  split
  · rw [queue_setQueue, if_neg h]
  · rfl

/-- A queue is ON only by its mark, and with a depth; every queue is as empty as before. -/
theorem loadQueues_marked (i : Image) (l : List (Fin 4)) (s : State) (m : Fin 4) (hs : (s.queue m).on = false)
    (he : (s.queue m).list = [] ∧ (s.queue m).loss = 0) : let q := (l.foldl (loadQueueOn i) s).queue m
    q.config = (s.queue m).config ∧ (q.on = true → i.queues[m].on = true ∧ q.depth ≠ 0) ∧ q.list = [] ∧ q.loss = 0 := by
  have kept : ∀ (l : List (Fin 4)) (s : State), ((s.queue m).on = true → i.queues[m].on = true ∧ (s.queue m).depth ≠ 0) →
      (s.queue m).list = [] ∧ (s.queue m).loss = 0 → let q := (l.foldl (loadQueueOn i) s).queue m
      q.config = (s.queue m).config ∧ (q.on = true → i.queues[m].on = true ∧ q.depth ≠ 0) ∧ q.list = [] ∧ q.loss = 0 := by
    intro l
    induction l with
    | nil => exact fun s hon he => ⟨rfl, hon, he⟩
    | cons n l ih =>
      intro s hon he
      obtain ⟨config, rest⟩ := ih (loadQueueOn i s n) (fun h => by
        rw [loadQueueOn_eq] at h ⊢
        split at h
        next hc =>
          rw [if_pos hc, queue_setQueue]
          rw [queue_setQueue] at h
          by_cases e : n = m
          · subst e
            rw [if_pos rfl]
            exact ⟨hc.1, hc.2.2.1⟩
          · rw [if_neg e] at h ⊢
            exact hon h
        next hc =>
          rw [if_neg hc]
          exact hon h) (by
        rw [loadQueueOn_eq]
        split
        · rw [queue_setQueue]
          split
          · exact ⟨rfl, rfl⟩
          · exact he
        · exact he)
      exact ⟨config.trans (loadQueueOn_config i s n m), rest⟩
  exact kept l s (fun h => absurd (hs.symm.trans h) nofun) he

/-! ### When every marked queue finds room in the pool -/

theorem sum_add_le_sum {α : Type} {l : List α} {f g : α → Nat} (hfg : ∀ x, f x ≤ g x) {x : α} (hx : x ∈ l) {d : Nat}
    (hd : f x + d ≤ g x) : (l.map f).sum + d ≤ (l.map g).sum := by
  induction l with
  | nil => exact absurd hx nofun
  | cons y l ih =>
    rw [List.map_cons, List.map_cons, List.sum_cons, List.sum_cons]
    obtain rfl | hx := List.mem_cons.mp hx
    · have rest : (l.map f).sum ≤ (l.map g).sum := List.sum_le_sum fun z _ => hfg z
      omega
    · have rest := ih hx
      have head := hfg y
      omega

/-- The depths of the marked queues added up. -/
def markedSum (i : Image) (s : State) : Nat := (allQueues.map fun n => if i.queues[n].on then (s.queue n).depth else 0).sum

theorem markedSum_congr {i : Image} {s u : State} (h : ∀ n, (u.queue n).config = (s.queue n).config) :
    markedSum i u = markedSum i s := by
  unfold markedSum Queue.depth
  simp only [h]

theorem loadQueues_fit {i : Image} {l : List (Fin 4)} (hl : l.Nodup) {s : State} (hs : ∀ m ∈ l, (s.queue m).on = false)
    (hm : ∀ m, (s.queue m).on = true → i.queues[m].on = true) (hsum : markedSum i s ≤ 256) (n : Fin 4) (hn : n ∈ l) :
    ((l.foldl (loadQueueOn i) s).queue n).on = (i.queues[n].on && decide ((s.queue n).depth ≠ 0)) := by
  induction l generalizing s with
  | nil => exact absurd hn nofun
  | cons k l ih =>
    obtain ⟨hk, hl⟩ := List.nodup_cons.mp hl
    have config := loadQueueOn_config i s k
    have off : (s.queue k).on = false := hs k List.mem_cons_self
    have taken : ((loadQueueOn i s k).queue k).on = (i.queues[k].on && decide ((s.queue k).depth ≠ 0)) := by
      rw [loadQueueOn_eq]
      by_cases hc : i.queues[k].on = true ∧ (s.queue k).depth ≠ 0
      · have room : s.poolUsed + (s.queue k).depth ≤ 256 := by
          refine Nat.le_trans (sum_add_le_sum (fun m => ?_) (List.mem_finRange k) ?_) hsum
          · by_cases on : (s.queue m).on = true
            · rw [if_pos on, if_pos (hm m on)]
            · rw [if_neg on]
              exact Nat.zero_le _
          · rw [off, hc.1]
            exact Nat.le_of_eq (Nat.zero_add _)
        rw [if_pos ⟨hc.1, off, hc.2, room⟩, queue_setQueue, if_pos rfl, hc.1, decide_eq_true hc.2]
        rfl
      · rw [if_neg fun h => hc ⟨h.1, h.2.2.1⟩, off]
        exact (Bool.eq_false_iff.mpr fun h => hc (by simpa using h)).symm
    rw [List.foldl_cons]
    obtain rfl | hn := List.mem_cons.mp hn
    · have later : ∀ (l : List (Fin 4)) (u : State), n ∉ l → (l.foldl (loadQueueOn i) u).queue n = u.queue n := by
        intro l
        induction l with
        | nil => exact fun _ _ => rfl
        | cons j l ih =>
          intro u h
          rw [List.foldl_cons, ih _ fun hj => h (List.mem_cons_of_mem j hj),
            loadQueueOn_queue_ne i u fun e => h (List.mem_cons.mpr (.inl e.symm))]
      rw [later l _ hk, taken]
    · rw [ih hl (fun m hml => ?_) (fun m on => ?_) (by rwa [markedSum_congr config]) hn, Queue.depth, config]
      · rfl
      · rw [loadQueueOn_queue_ne i s fun e => hk (by rwa [e])]
        exact hs m (List.mem_cons_of_mem k hml)
      · by_cases e : k = m
        · subst e
          rw [taken] at on
          exact (Bool.and_eq_true_iff.mp on).1
        · rw [loadQueueOn_queue_ne i s e] at on
          exact hm m on

/-! ### The look at PFAIL (R162) -/

theorem gateLookAtPfail_low {s : State} (h : s.pins.pfail = false) : s.gateLookAtPfail = s :=
  if_neg (by rw [h]; exact nofun)

/-- PFAIL asserted closes a gate that is OPEN with no write in flight. -/
theorem gateLookAtPfail_high {s : State} (h : s.pins.pfail = true) (ho : s.gate.state = .opened) (hf : s.gate.inFlight = false) :
    s.gateLookAtPfail = ({ s with gate := { s.gate with pfail := true, powerSeen := true } } : State).gateEnterClosed := by
  have arrival : s.gatePfailAssert = ({ s with gate := { s.gate with pfail := true, powerSeen := true } } : State).gateCauseArrival := rfl
  rw [gateLookAtPfail, if_pos h, arrival, gateCauseArrival]
  dsimp only
  rw [ho]
  exact if_neg (by rw [hf]; exact nofun)

theorem gateLookAtPfail_gateFrame {s : State} (ho : s.gate.state = .opened) (hf : s.gate.inFlight = false) :
    GateFrame s s.gateLookAtPfail := by
  by_cases h : s.pins.pfail = true
  · rw [gateLookAtPfail_high h ho hf]
    exact (GateFrame.gate s _).trans (gateEnterClosed_gateFrame _)
  · rw [gateLookAtPfail_low (Bool.eq_false_iff.mpr h)]
    exact .refl s

theorem gateLookAtPfail_queue_on {s : State} (ho : s.gate.state = .opened) (hf : s.gate.inFlight = false) (n : Fin 4) :
    (s.gateLookAtPfail.queue n).config = (s.queue n).config ∧ (s.gateLookAtPfail.queue n).on = (s.queue n).on := by
  by_cases h : s.pins.pfail = true
  · rw [gateLookAtPfail_high h ho hf]
    let u : State := ({ s with gate := { s.gate with pfail := true, powerSeen := true, state := .closed, refused := 0 } } : State).setFlag .gate
    have offered : ∀ (q : Option (Fin 4)) (b : RecordBody), ((u.offerTo q b).queue n).config = (u.queue n).config ∧
        ((u.offerTo q b).queue n).on = (u.queue n).on := fun q b => by
      cases q with
      | none => exact ⟨rfl, rfl⟩
      | some m =>
        rw [offerTo, offer, judgeNotify_queue]
        exact placeAt_queue_config u _ m n b
    exact offered _ _
  · rw [gateLookAtPfail_low (Bool.eq_false_iff.mpr h)]
    exact ⟨rfl, rfl⟩

end State

/-! ### The enables stay through settings of flags and offers of records -/

namespace Alert

theorem takeTick_enables (a : Alert) : a.takeTick.enables = a.enables := by
  unfold takeTick
  split
  · rfl
  · split <;> rfl

theorem setFlag_enables (c : BitVec 16) (f : Flag) (a : Alert) : (a.setFlag c f).enables = a.enables := by
  have start : ∀ b : Alert, (b.startPulse c).enables = b.enables := fun b => by
    unfold startPulse
    dsimp only
    split
    · exact takeTick_enables _
    · rfl
  unfold setFlag
  dsimp only
  split
  · split
    · exact start _
    · rfl
  · rfl

end Alert

namespace State

theorem effectClosed_enables (e : BitVec 23) : EffectClosed (Keeps fun s => s.alert.enables = e) := by
  have lost : ∀ (s : State) (n : Fin 4), (s.loseIn n).alert.enables = s.alert.enables := fun s n => Alert.setFlag_enables _ _ _
  refine effectClosed_of_free (fun s t _ _ h hs => by rwa [h]) (fun s g hs => (Alert.setFlag_enables _ _ _).trans hs)
    (fun s w n b hs => ?_) (fun s _ hs => hs)
  unfold placeAt
  split
  · exact hs
  · exact (lost _ n).trans hs
  · exact (lost s n).trans hs

theorem gateLookAtPfail_enables {s : State} (ho : s.gate.state = .opened) (hf : s.gate.inFlight = false) :
    s.gateLookAtPfail.alert.enables = s.alert.enables ∧ s.gateLookAtPfail.alert.config = s.alert.config := by
  by_cases h : s.pins.pfail = true
  · let u : State := { s with gate := { s.gate with pfail := true, powerSeen := true, state := .closed, refused := 0 } }
    have offered : ∀ (q : Option (Fin 4)) (b : RecordBody), (∀ a, b ≠ .access a) →
        ((u.setFlag .gate).offerTo q b).alert.enables = s.alert.enables := fun q b hb =>
      (effectClosed_enables s.alert.enables).offerTo (u.setFlag .gate) q b hb (Alert.setFlag_enables _ _ _)
    have words := ((setFlag_records u .gate).trans (offerTo_records _ s.gate.recordQueue
      (closedRecord { s.gate with pfail := true, powerSeen := true }))).2.2
    rw [gateLookAtPfail_high h ho hf]
    exact ⟨offered _ _ (by exact nofun), words⟩
  · rw [gateLookAtPfail_low (Bool.eq_false_iff.mpr h)]
    exact ⟨rfl, rfl⟩

end State

end Sys2Proof.Machine
end

section
/-! What each block makes of its part of the image (R21, R35, R36, R65, R102, R112, R133, R144, R153, R162, R167, R184). -/

namespace Sys2Proof.Machine

/-! ### Rules, channels, inputs and the timebase -/

/-- A rule stored enabled whose words pass the checks of ENABLE (R17, R21). -/
theorem Rule.load_enabled {own : Fin 24} {i : RuleImage} (he : i.enabled = true) (hok : i.defn.stored.enableOk own = true) :
    Rule.load own i = { Rule.reset with
      defn := i.defn.stored
      state := if fld i.defn.quotaArming 15 2 = 0 then .live else .dormant
      countdown := if fld i.defn.quotaArming 22 2 = 1 then fld i.defn.quotaArming 24 8 else 0 } := by
  have state := i.defn.stored.startState_eq
  have countdown := i.defn.stored.countdownLoad_eq
  have enabled : Rule.load own i = ({ Rule.reset with defn := i.defn.stored } : Rule).enabled := if_pos (by rw [he, hok]; rfl)
  rw [enabled, Rule.enabled]
  dsimp only
  rw [state, countdown]
  rfl

theorem Rule.load_disabled {own : Fin 24} {i : RuleImage} (h : i.enabled = false ∨ i.defn.stored.enableOk own = false) :
    Rule.load own i = { Rule.reset with defn := i.defn.stored } :=
  if_neg (by obtain h | h := h <;> simp [h])

/-- The checks of R114, read off the fields. -/
theorem Timer.configOk_eq (v : Word) : configOk v = (decide ((fld v 0 3).toNat ≤ 3) && decide ((fld v 4 3).toNat ≤ 4) &&
    fld v 8 2 != 3 && (fld v 8 2 != 1 || decide ((fld v 10 5).toNat ≤ 23)) && (fld v 8 2 != 2 || decide ((fld v 10 5).toNat ≤ 1))) := by
  have kind : triggerKind v = fld v 8 2 := rfl
  have index : triggerIndex v = fld v 10 5 := rfl
  have lt : ∀ n, decide ((fld v 10 5).toNat < n + 1) = decide ((fld v 10 5).toNat ≤ n) := fun n => by
    simp only [Nat.lt_succ_iff]
  unfold configOk
  rw [kind, index, lt 23, lt 1]
  obtain h | h | h | h := fld2_cases (fld v 8 2) <;> rw [h] <;> simp <;> rfl

theorem Timer.started_fresh (c : Word) (reload : BitVec 16) (hc : (fld c 0 3).toNat ≤ 3) :
    ({ Timer.reset with config := c, reload := reload, counter := reload } : Timer).started =
      { Timer.reset with
        config := c, reload := reload, counter := reload, state := if fld c 0 3 = 3 then .waiting else .running } := by
  have mode : ({ Timer.reset with config := c, reload := reload, counter := reload } : Timer).mode =
      match (fld c 0 3).toNat with | 0 => .oneshot | 1 => .repeating | 2 => .retrigger | _ => .measure := rfl
  have filled : ({ Timer.reset with config := c, reload := reload, counter := reload } : Timer).loadIfZero =
      { Timer.reset with config := c, reload := reload, counter := reload } := by
    unfold loadIfZero
    split <;> rfl
  unfold started
  rw [mode, filled]
  have codes : fld c 0 3 = 0 ∨ fld c 0 3 = 1 ∨ fld c 0 3 = 2 ∨ fld c 0 3 = 3 := by
    obtain h | h | h | h | h | h | h | h := fld3_cases (fld c 0 3) <;> simp [h] at hc ⊢
  obtain h | h | h | h := codes <;> rw [h] <;> rfl

/-- A channel from its image (R133). -/
theorem Timer.load_eq (i : TimerImage) : Timer.load i =
    if (configOk i.config && i.reload != 0) = true then
      { Timer.reset with
        config := i.config &&& 0x000F7F77, reload := i.reload, counter := i.reload, maximum := 0
        state := if i.started = false then .stopped else if fld i.config 0 3 = 3 then .waiting else .running }
    else Timer.reset := by
  have mode : fld (i.config &&& configMask) 0 3 = fld i.config 0 3 := fld_mask _ (by decide)
  unfold load
  by_cases h : (configOk i.config && i.reload != 0) = true
  · rw [if_pos h, if_pos h]
    cases hs : i.started with
    | false => rfl
    | true =>
      have listed : (fld (i.config &&& configMask) 0 3).toNat ≤ 3 := by
        rw [mode]
        exact ((configOk_iff _).mp (Bool.and_eq_true_iff.mp h).1).1
      dsimp only
      rw [if_pos rfl, started_fresh _ _ listed, mode]
      rfl
  · rw [if_neg h, if_neg h]

theorem EventInput.load_eq (pin : Bool) (w : Word) : EventInput.load pin w =
    if configOk w = true then { EventInput.reset with
      config := w &&& 0x000003FF, sampler := if wbit w 0 then some ⟨pin, pin, pin, pin⟩ else none }
    else EventInput.reset := rfl

theorem Timebase.load_eq (w : Word) (run : Bool) : Timebase.load w run = { Timebase.reset with
    config := if configOk w then w &&& 0x0000F1FF else 1
    running := run, period := if run then .starting else .none } := by
  unfold load
  cases run <;> by_cases h : configOk w = true <;> simp only [h] <;> rfl

theorem Gate.load_config (w : Word) : (Gate.load w).config = if configOk w then w &&& 0x00F7FF03 else 0x00000100 := by
  unfold load
  split <;> rfl

theorem Gate.load_opened (w : Word) : (Gate.load w).state = .opened ∧ (Gate.load w).inFlight = false := by
  unfold load
  split <;> exact ⟨rfl, rfl⟩

/-! ### The checks of the words outside the blocks -/

theorem Queue.configOk_eq (v : Word) : configOk v =
    ((fld v 0 9 == 0 || (decide ((fld v 0 9).toNat % 4 = 0) && decide ((fld v 0 9).toNat ≤ 256) &&
      decide (1 ≤ (fld v 16 9).toNat) && decide ((fld v 16 9).toNat ≤ (fld v 0 9).toNat))) &&
    decide ((fld v 12 2).toNat ≤ 1)) := by
  have zero : fld v 0 9 = 0 ↔ (fld v 0 9).toNat = 0 := by rw [← BitVec.toNat_inj]; rfl
  rw [Bool.eq_iff_iff, configOk_iff]
  simp only [Bool.and_eq_true, Bool.or_eq_true, beq_iff_eq, decide_eq_true_eq, zero]
  omega

theorem defaultActionsOk_eq (v : Word) : defaultActionsOk v = (fld v 0 2 != 3 && fld v 4 2 != 3) := by
  have some : ∀ c : BitVec 2, (defaultOf c).isSome = (c != 3) := by decide
  rw [defaultActionsOk, some, some]

end Sys2Proof.Machine
end

section
/-! Loading applies the image or the defaults (R21, R35, R36, R65, R102, R112, R133, R144, R153, R162, R167, R172, R180, R184). -/

namespace Sys2Proof.Machine

namespace State

theorem loadStarts_alert (i : Image) (s : State) : (s.loadStarts i).alert = s.alert := by
  obtain ⟨q, h⟩ := loadQueues_only i s
  have same : (allQueues.foldl (loadQueueOn i) s).alert = s.alert := by rw [h]
  unfold loadStarts
  generalize allQueues.foldl (loadQueueOn i) s = u at same
  exact same

/-- What an image, applied in a blank part, leaves in the blocks, the words and the lock. -/
structure Applied (i : Image) (s t : State) : Prop where
  rule : ∀ r, t.rule r = Rule.load r i.rules[r]
  timer : ∀ c, t.timer c = Timer.load i.timers[c]
  input : ∀ e, t.input e = EventInput.load (s.evPin e) i.inputs[e]
  timebase : t.timebase = Timebase.load i.timebase i.timebaseRunning
  defaultActions : t.defaultActions = if defaultActionsOk i.defaultActions then i.defaultActions &&& defaultActionsMask else 0
  unmatched : t.unmatched = if unmatchedOk i.unmatched then i.unmatched &&& unmatchedMask else 0
  limitWord : t.path.limitWord = if Path.limitOk i.limitWord then i.limitWord &&& Path.limitMask else Path.reset.limitWord
  enables : t.alert.enables = i.alertEnables
  alert : t.alert.config = if Alert.configOk i.alert then i.alert &&& Alert.configMask else Alert.reset.config
  code : t.link.code = i.code
  locked : t.link.locked = (i.code != 0)
  queue : ∀ n, (t.queue n).config = if Queue.configOk i.queues[n].config then i.queues[n].config &&& Queue.configMask else 0x00010000
  marked : ∀ n, (t.queue n).on = true → i.queues[n].on = true ∧ (t.queue n).depth ≠ 0
  fit : (allQueues.map fun n => if i.queues[n].on then (t.queue n).depth else 0).sum ≤ 256 →
    ∀ n, (t.queue n).on = (i.queues[n].on && decide ((t.queue n).depth ≠ 0))
  gate : t.gate = if s.pins.pfail then
    { Gate.load i.gate with pfail := true, powerSeen := true, state := .closed, refused := 0 } else Gate.load i.gate

namespace Applied

variable {i : Image} {s t u : State}

/-- The queues of the loaded configuration. -/
theorem loaded_queue (hb : s.Blank) (n : Fin 4) : let q := ((s.loadConfiguration i).loadStarts i).queue n
    q.config = (if Queue.configOk i.queues[n].config then i.queues[n].config &&& Queue.configMask else 0x00010000) ∧
    (q.on = true → i.queues[n].on = true ∧ q.depth ≠ 0) ∧ q.list = [] ∧ q.loss = 0 := by
  have blank : s.queue n = .reset := hb.tables.2.1 n
  have before : (s.loadConfiguration i).queue n = { Queue.reset with
      config := (if Queue.configOk i.queues[n].config then i.queues[n].config &&& Queue.configMask else 0x00010000) } := by
    rw [loadConfiguration_queue, blank]
    split <;> rfl
  have loaded := loadQueues_marked i allQueues (s.loadConfiguration i) n (by rw [before]; rfl) (by rw [before]; exact ⟨rfl, rfl⟩)
  rw [← loadStarts_queue] at loaded
  obtain ⟨config, rest⟩ := loaded
  exact ⟨config.trans (by rw [before]), rest⟩

theorem loaded_fit (hb : s.Blank) (h : markedSum i ((s.loadConfiguration i).loadStarts i) ≤ 256) (n : Fin 4) :
    let q := ((s.loadConfiguration i).loadStarts i).queue n
    q.on = (i.queues[n].on && decide (q.depth ≠ 0)) := by
  have off : ∀ m, ((s.loadConfiguration i).queue m).on = false := fun m => by
    have blank : s.queue m = .reset := hb.tables.2.1 m
    rw [loadConfiguration_queue, blank]
    split <;> rfl
  have config := loadStarts_queue_config i (s.loadConfiguration i)
  rw [markedSum_congr config] at h
  have fits := loadQueues_fit (List.nodup_finRange 4) (fun m _ => off m)
    (fun m on => absurd ((off m).symm.trans on) nofun) h n (List.mem_finRange n)
  intro q
  have depth : q.depth = ((s.loadConfiguration i).queue n).depth := congrArg Queue.depthOf (config n)
  rw [depth, ← fits]
  exact congrArg Queue.on (loadStarts_queue i _ n)

/-- What the look at PFAIL and the lock leave of a configuration as it is loaded. -/
theorem of_loaded (hb : s.Blank) (hr : u.rules = ((s.loadConfiguration i).loadStarts i).rules)
    (ht : u.timers = ((s.loadConfiguration i).loadStarts i).timers) (hi : u.inputs = ((s.loadConfiguration i).loadStarts i).inputs)
    (htb : u.timebase = ((s.loadConfiguration i).loadStarts i).timebase)
    (hd : u.defaultActions = ((s.loadConfiguration i).loadStarts i).defaultActions)
    (hu : u.unmatched = ((s.loadConfiguration i).loadStarts i).unmatched)
    (hp : u.path = ((s.loadConfiguration i).loadStarts i).path) (hq : ∀ n,
      (u.queue n).config = (((s.loadConfiguration i).loadStarts i).queue n).config ∧
        (u.queue n).on = (((s.loadConfiguration i).loadStarts i).queue n).on)
    (he : u.alert.enables = i.alertEnables)
    (ha : u.alert.config = if Alert.configOk i.alert then i.alert &&& Alert.configMask else Alert.reset.config)
    (hc : u.link.code = i.code) (hl : u.link.locked = (i.code != 0))
    (hg : u.gate = if s.pins.pfail then
      { Gate.load i.gate with pfail := true, powerSeen := true, state := .closed, refused := 0 } else Gate.load i.gate) :
    Applied i s u := by
  have depth : ∀ n, (u.queue n).depth = (((s.loadConfiguration i).loadStarts i).queue n).depth := fun n =>
    congrArg Queue.depthOf (hq n).1
  obtain ⟨-, pins, -, -, -⟩ := loadConfiguration_frame i s
  obtain ⟨-, -, path, defaults, unmatched, -⟩ := loadStarts_frame i (s.loadConfiguration i)
  exact {
    rule := fun r => (rule_congr hr r).trans (loadStarts_rule i _ r)
    timer := fun c => (timer_congr ht c).trans (loadStarts_timer i _ c)
    input := fun e => by
      have same : u.input e = ((s.loadConfiguration i).loadStarts i).input e := congrArg (·[e]) hi
      have pin : (s.loadConfiguration i).evPin e = s.evPin e := congrArg (fun p : Pins => p.ev[e]) pins
      rw [same, loadStarts_input, pin]
    timebase := htb.trans (loadStarts_timebase i _)
    defaultActions := by rw [hd, defaults, loadConfiguration_defaultActions]
    unmatched := by rw [hu, unmatched, loadConfiguration_unmatched]
    limitWord := by rw [hp, path, loadConfiguration_path]
    enables := he
    alert := ha
    code := hc
    locked := hl
    queue := fun n => (hq n).1.trans (loaded_queue hb n).1
    marked := fun n on => by
      rw [depth]
      exact (loaded_queue hb n).2.1 ((hq n).2.symm.trans on)
    fit := fun h n => by
      simp only [depth] at h ⊢
      rw [(hq n).2]
      exact loaded_fit hb h n
    gate := hg }

end Applied

/-- The configuration loaded, with the CONFIG flag where the check failed, before the lock is set. -/
def configured (ok : Bool) (i : Image) (s : State) : State :=
  if ok then (s.loadConfiguration i).loadStarts i else ((s.loadConfiguration i).loadStarts i).setFlag .config

theorem loadLockAndGate_eq (s : State) : s.loadLockAndGate =
    ({ s with link := { s.link with locked := s.link.code != 0 } } : State).gateLookAtPfail := rfl

theorem applyImage_eq (ok : Bool) (i : Image) (s : State) : s.applyImage ok i = { (s.configured ok i).loadLockAndGate with
    store := { (s.configured ok i).loadLockAndGate.store with state := .idle, loadDefaults := !ok } } := by
  unfold applyImage configured
  generalize (s.loadConfiguration i).loadStarts i = u
  dsimp only

theorem configured_frame (ok : Bool) (i : Image) (s : State) : RecordsOnly ((s.loadConfiguration i).loadStarts i) (s.configured ok i) ∧
    (s.configured ok i).queues = ((s.loadConfiguration i).loadStarts i).queues ∧
    (s.configured ok i).alert.enables = ((s.loadConfiguration i).loadStarts i).alert.enables := by
  unfold configured
  generalize (s.loadConfiguration i).loadStarts i = u
  cases ok with
  | true => exact ⟨.refl _, rfl, rfl⟩
  | false => exact ⟨setFlag_records _ _, rfl, Alert.setFlag_enables _ _ _⟩

/-- The end of loading, as far as it is the same for an image and for the defaults. -/
theorem applyImage_applied {s : State} (hb : s.Blank) (ok : Bool) (i : Image) : Applied i s (s.endCommand (s.applyImage ok i)) := by
  let u := (s.loadConfiguration i).loadStarts i
  let c := s.configured ok i
  let v : State := { c with link := { c.link with locked := c.link.code != 0 } }
  obtain ⟨⟨frame, -, words⟩, queues, enables⟩ := configured_frame ok i s
  have gate : v.gate = Gate.load i.gate := frame.gate.trans (loaded_gate i s)
  obtain ⟨opened, idle⟩ := Gate.load_opened i.gate
  rw [← gate] at opened idle
  have look := gateLookAtPfail_gateFrame opened idle
  have link : v.link = { s.link with code := i.code, locked := i.code != 0 } := by
    have same : c.link = { s.link with code := i.code } := frame.link.trans (loaded_link i s)
    have set : v.link = { c.link with locked := c.link.code != 0 } := rfl
    rw [set, same]
  have pins : v.pins = s.pins := frame.pins.trans (loaded_pins i s)
  have alert : u.alert = { s.alert with
      enables := i.alertEnables
      config := if Alert.configOk i.alert then i.alert &&& Alert.configMask else Alert.reset.config } :=
    (loadStarts_alert i _).trans (loadConfiguration_alert i s)
  obtain ⟨kept, config⟩ := gateLookAtPfail_enables opened idle
  obtain ⟨p, ends⟩ := commandEnds_frame s.alert.lastTick (s.applyImage ok i).alert
  have endsAlert : (s.endCommand (s.applyImage ok i)).alert = { v.gateLookAtPfail.alert with lastTick := p } := ends
  have done := applyImage_eq ok i s
  rw [loadLockAndGate_eq] at done
  refine .of_loaded hb ?_ ?_ ?_ ?_ ?_ ?_ ?_ (fun n => ?_) ?_ ?_ ?_ ?_ ?_
  · rw [endCommand_rules, done]; exact look.rules.trans frame.rules
  · rw [endCommand_timers, done]; exact look.timers.trans frame.timers
  · rw [endCommand_inputs, done]; exact look.inputs.trans frame.inputs
  · rw [endCommand_timebase, done]; exact look.timebase.trans frame.timebase
  · rw [endCommand_defaultActions, done]; exact look.defaultActions.trans frame.defaultActions
  · rw [endCommand_unmatched, done]; exact look.unmatched.trans frame.unmatched
  · rw [endCommand_path, done]; exact look.path.trans frame.path
  · have same : (s.endCommand (s.applyImage ok i)).queue n = v.gateLookAtPfail.queue n :=
      queue_congr (by rw [endCommand_queues, done]) n
    have start : v.queue n = u.queue n := queue_congr queues n
    rw [same, ← start]
    exact gateLookAtPfail_queue_on opened idle n
  · rw [endsAlert]; exact kept.trans (enables.trans (by rw [alert]))
  · rw [endsAlert]; exact config.trans (words.trans (by rw [alert]))
  · rw [endCommand_link, done]; exact (congrArg Link.code (look.link.trans link) :)
  · rw [endCommand_link, done]; exact (congrArg Link.locked (look.link.trans link) :)
  · rw [endCommand_gate, done, ← pins]
    cases hp : v.pins.pfail with
    | false =>
      rw [gateLookAtPfail_low hp]
      exact gate
    | true =>
      rw [gateLookAtPfail_high hp opened idle]
      exact (gateEnterClosed_gate _).trans (by rw [gate]; rfl)

end State

end Sys2Proof.Machine
end

section
/-! The end of loading, with a check value that matches and with one that does not (R180, R184). -/

namespace Sys2Proof.Machine

namespace State

variable {s : State}

theorem exec_loadingEnd (hp : s.powered = true) (hs : s.store.state = .loading) : exec .loadingEnd s = .next s.endLoading :=
  congrArg Host.Outcome.next ((if_pos hp).trans (if_pos hs))

theorem checkMatches_iff : s.checkMatches = true ↔ s.store.check = some (Config.checkValue s.store.image.words) := beq_iff_eq

/-! ### A match with PFAIL low -/

/-- With PFAIL low no flag is set and no record offered. -/
theorem applyImage_silent (hb : s.Blank) (hp : s.pins.pfail = false) (i : Image) :
    (s.applyImage true i).alert.flags = 0 ∧ ∀ n, ((s.applyImage true i).queue n).list = [] ∧ ((s.applyImage true i).queue n).loss = 0 := by
  have configured : s.configured true i = (s.loadConfiguration i).loadStarts i := rfl
  have low : ((s.loadConfiguration i).loadStarts i).pins.pfail = false := by rw [loaded_pins, hp]
  have flags : ((s.loadConfiguration i).loadStarts i).alert.flags = 0 := by
    rw [loadStarts_alert, loadConfiguration_alert, hb.blocks.2.2]
    rfl
  have empty := fun n => Applied.loaded_queue (i := i) hb n
  have done := applyImage_eq true i s
  rw [loadLockAndGate_eq, configured] at done
  generalize (s.loadConfiguration i).loadStarts i = u at done low flags empty
  rw [gateLookAtPfail_low (s := { u with link := { u.link with locked := u.link.code != 0 } }) low] at done
  rw [done]
  exact ⟨flags, fun n => (empty n).2.2⟩

/-! ### A mismatch -/

theorem gateEnterClosed_flags (s : State) : FlagsGrow s s.gateEnterClosed := fun g h =>
  effectClosed_flags.offerTo _ _ (closedRecord s.gate) (by rw [closedRecord]; exact nofun) _
    ((FlagsGrow.flag { s with gate := { s.gate with state := .closed, refused := 0 } } .gate) g h)

/-- The flags that are set with the factory configuration. -/
theorem applyImage_mismatch (i : Image) (s : State) : (s.applyImage false i).alert.flagSet .config = true ∧
    (s.pins.pfail = true → (s.applyImage false i).alert.flagSet .gate = true) := by
  have configured : s.configured false i = ((s.loadConfiguration i).loadStarts i).setFlag .config := rfl
  have pins := loaded_pins i s
  have gate := loaded_gate i s
  obtain ⟨opened, idle⟩ := Gate.load_opened i.gate
  rw [← gate] at opened idle
  have done := applyImage_eq false i s
  rw [loadLockAndGate_eq, configured] at done
  generalize (s.loadConfiguration i).loadStarts i = u at done pins opened idle
  rw [← pins, done]
  let v : State := { u.setFlag .config with link := { u.link with locked := u.link.code != 0 } }
  have set : v.alert.flagSet .config = true := flagSet_setFlag_self u .config
  change v.gateLookAtPfail.alert.flagSet .config = true ∧ (v.pins.pfail = true → v.gateLookAtPfail.alert.flagSet .gate = true)
  by_cases hp : v.pins.pfail = true
  · rw [gateLookAtPfail_high hp opened idle]
    exact ⟨gateEnterClosed_flags _ _ set, fun _ => gateEnterClosed_flagSet _⟩
  · rw [gateLookAtPfail_low (Bool.eq_false_iff.mpr hp)]
    exact ⟨set, fun h => absurd h hp⟩

/-- The line at the end of loading follows the flags that are enabled (R168). -/
theorem endLoading_line (hp : s.powered = true) (hs : s.store.state = .loading) (hb : s.LoadingOk) : s.endLoading.alert.LineOk := by
  have reset : s.alert = Alert.reset := (Blank.blocks (hb hs)).2.2
  refine lineFollowsFlagsOrPulse { s with pending := .loadingEnd :: s.pending } _ hb ?_ (exec_loadingEnd hp hs)
  rw [show ({ s with pending := .loadingEnd :: s.pending } : State).alert = Alert.reset from reset]
  decide

end State

/-! ### The factory configuration (R21, R102, R112, R133, R144, R162, R172) -/

theorem factory_rule (r : Fin 24) : Rule.load r Image.factory.rules[r] = Rule.reset := by
  have image : Image.factory.rules[r] = ⟨.zero, false⟩ := by simp [Image.factory]
  rw [image]
  rfl

theorem factory_timer (c : Fin 8) : Timer.load Image.factory.timers[c] = Timer.reset := by
  have image : Image.factory.timers[c] = ⟨0, 65535, false⟩ := by simp [Image.factory]
  rw [image]
  rfl

theorem factory_input (pin : Bool) (e : Fin 2) : EventInput.load pin Image.factory.inputs[e] = EventInput.reset := by
  have image : Image.factory.inputs[e] = 0 := by simp [Image.factory]
  rw [image]
  rfl

theorem factory_queue (n : Fin 4) : Image.factory.queues[n] = ⟨0x00010000, false⟩ := by simp [Image.factory]

theorem factory_gate : Gate.load Image.factory.gate = Gate.reset := rfl

namespace State

/-- The part comes up with the factory defaults, UNLOCKED and with CONFIG set (R184). -/
theorem endLoading_defaults {s : State} (hp : s.powered = true) (hs : s.store.state = .loading) (hb : s.LoadingOk)
    (hc : s.store.check ≠ some (Config.checkValue s.store.image.words)) :
    let t := s.endLoading
    t.store = { s.store with state := .idle, loadDefaults := true } ∧
      t.alert.flagSet .config = true ∧ t.alert.line = false ∧ t.link.locked = false ∧ t.link.code = 0 ∧
      (∀ r, t.rule r = Rule.reset) ∧ (∀ n, (t.queue n).on = false ∧ (t.queue n).config = 0x00010000) ∧
      t.timebase = Timebase.reset ∧ (∀ c, t.timer c = Timer.reset) ∧ (∀ e, t.input e = EventInput.reset) ∧
      t.defaultActions = 0 ∧ t.unmatched = 0 ∧ t.path.limitWord = 0x00000400 ∧ t.alert.enables = 0 ∧
      t.alert.config = 0x00000100 ∧ t.gate.config = 0x00000100 ∧
      (s.pins.pfail = true → t.gate.state = .closed ∧ t.gate.powerSeen = true ∧ t.alert.flagSet .gate = true) ∧
      (s.pins.pfail = false → t.gate = Gate.reset) := by
  intro t
  have done : t = s.endCommand (s.applyImage false .factory) :=
    congrArg s.endCommand (if_neg fun h => hc (checkMatches_iff.mp h))
  have blank : s.Blank := hb hs
  have applied : Applied .factory s t := done ▸ applyImage_applied blank false .factory
  have line : t.alert.LineOk := endLoading_line hp hs hb
  obtain ⟨config, gate⟩ := applyImage_mismatch .factory s
  have store : t.store = { s.store with state := .idle, loadDefaults := true } := by
    rw [done, endCommand_store, applyImage_store]
    rfl
  have flags : ∀ f, t.alert.flagSet f = (s.applyImage false .factory).alert.flagSet f := fun f => by
    rw [done, endCommand_flagSet]
  have level : t.alert.config = 0x00000100 := applied.alert
  have silent : t.alert.pulseMode = false := by
    rw [Alert.pulseMode, level]
    rfl
  have enables : t.alert.enables = 0 := applied.enables
  have quiet : t.alert.line = false := by
    rw [(line.1 silent).1, Alert.anyEnabled, enables]
    simp
  refine ⟨store, (flags _).trans config, quiet, applied.locked, applied.code, fun r => (applied.rule r).trans (factory_rule r),
    fun n => ⟨?_, ?_⟩, applied.timebase, fun c => (applied.timer c).trans (factory_timer c),
    fun e => (applied.input e).trans (factory_input _ e), applied.defaultActions, applied.unmatched, applied.limitWord, enables, level,
    ?_, fun h => ?_, fun h => ?_⟩
  · refine Bool.eq_false_iff.mpr fun on => ?_
    have marked := (applied.marked n on).1
    rw [factory_queue] at marked
    exact absurd marked nofun
  · rw [applied.queue, factory_queue]
    rfl
  · rw [applied.gate, factory_gate]
    split <;> rfl
  · rw [applied.gate, if_pos h]
    exact ⟨rfl, rfl, (flags _).trans (gate h)⟩
  · rw [applied.gate, if_neg (by rw [h]; exact nofun), factory_gate]

end State

/-- Settles O50. -/
theorem loadingAppliesTheImageOrTheDefaults : Obligations.LoadingAppliesTheImageOrTheDefaults := by
  refine ⟨fun s hp hs hb hc => ⟨s.endLoading, State.exec_loadingEnd hp hs, State.endLoading_defaults hp hs hb hc⟩,
    fun s hp hs hb hc => ?_⟩
  intro i choose limitOk gateOk alertOk timebaseOk queueOk timerOk inputOk
  let t := s.endLoading
  have done : t = s.endCommand (s.applyImage true i) := congrArg s.endCommand (if_pos (State.checkMatches_iff.mpr hc))
  have blank : s.Blank := hb hs
  have applied : State.Applied i s t := done ▸ State.applyImage_applied blank true i
  have store : t.store = { s.store with state := .idle, loadDefaults := false } := by
    rw [done, State.endCommand_store, State.applyImage_store]
    rfl
  refine ⟨t, State.exec_loadingEnd hp hs, store, applied.code, applied.locked, ?_, applied.unmatched, applied.limitWord, ?_,
    applied.enables, applied.alert, ?_, fun r => ?_, fun c => ?_, fun e => applied.input e, fun n => ?_, applied.marked, applied.fit,
    fun h => ?_, fun h => ?_⟩
  · rw [applied.defaultActions, defaultActionsOk_eq]
    rfl
  · have config : t.gate.config = (Gate.load i.gate).config := by
      rw [applied.gate]
      split <;> rfl
    exact config.trans (Gate.load_config i.gate)
  · exact applied.timebase.trans (Timebase.load_eq _ _)
  · intro d x
    refine ⟨fun h => ?_, fun h => ?_⟩
    · exact (applied.rule r).trans (Rule.load_enabled h.1 h.2)
    · exact (applied.rule r).trans (Rule.load_disabled h)
  · have ok : (Timer.configOk i.timers[c].config && i.timers[c].reload != 0) = timerOk i.timers[c] := by
      rw [Timer.configOk_eq]
    rw [applied.timer, Timer.load_eq, ok]
  · rw [applied.queue, Queue.configOk_eq]
    rfl
  · rw [applied.gate, if_pos h]
  · have gate : t.gate = Gate.load i.gate := by rw [applied.gate, if_neg (by rw [h]; exact nofun)]
    obtain ⟨flags, empty⟩ := State.applyImage_silent blank h i
    refine ⟨?_, ?_, fun n => ?_⟩
    · rw [gate]
      exact (Gate.load_opened i.gate).1
    · rw [done, State.endCommand_alert, Alert.commandEnds_flags, flags]
    · have same : t.queue n = (s.applyImage true i).queue n := State.queue_congr (by rw [done, State.endCommand_queues]) n
      rw [same]
      exact empty n

end Sys2Proof.Machine
end

section
/-! RESTART (R54, R103, R163, R173, R178, R187): what it leaves in every block, and the release of a service hold that follows. -/

namespace Sys2Proof.Machine

namespace State

/-! ### The blocks before the hold is released -/

/-- RESTART in every block but the gate. -/
def restartBlocks (s : State) : State :=
  let u := ({ s with path := s.path.restart, alert := s.alert.restart } : State).restartQueues.mapRules fun _ x => x.restart
  (u.mapTimers fun _ ch => ch.restart).mapInputs fun e i => i.restart (s.evPin e)

variable (s : State)

theorem restartEffect_eq (h : s.gate.state ≠ .draining) :
    s.restartEffect = s.endCommand s.restartBlocks.settlePending.gateClearHold := by
  have due : s.gate.drainDue = false := by simp [Gate.drainDue, h]
  unfold restartEffect restartBlocks
  rw [gateEndDrain_of_not_due due]
  rfl

theorem settlePending_eq : ∃ l, s.settlePending = { s with link := l } ∧ l.frame = s.link.frame ∧ l.locked = s.link.locked ∧
    l.code = s.link.code ∧ l.pendingMark = false ∧ l.status = if s.link.pendingMark then .accepted else s.link.status := by
  unfold settlePending
  cases h : s.link.pendingMark with
  | true => exact ⟨_, rfl, rfl, rfl, rfl, rfl, rfl⟩
  | false => exact ⟨s.link, rfl, rfl, rfl, rfl, h, rfl⟩

theorem restartBlocks_fields : s.restartBlocks.path = s.path.restart ∧ s.restartBlocks.alert = s.alert.restart ∧
    s.restartBlocks.gate = s.gate ∧ s.restartBlocks.timebase = s.timebase ∧ s.restartBlocks.store = s.store ∧
    s.restartBlocks.defaultActions = s.defaultActions ∧ s.restartBlocks.unmatched = s.unmatched ∧
    s.restartBlocks.nextSerial = s.nextSerial ∧ s.restartBlocks.link = s.link := by
  simp [restartBlocks, restartQueues]

theorem restartBlocks_rule (r : Fin 24) : s.restartBlocks.rule r = (s.rule r).restart := by
  unfold restartBlocks
  exact (rule_congr ((mapInputs_rules _ _).trans (mapTimers_rules _ _)) r).trans ((rule_mapRules _ _ r).trans
    (congrArg Rule.restart (rule_congr (mapQueues_rules _ _) r)))

theorem restartBlocks_timer (c : Fin 8) : s.restartBlocks.timer c = (s.timer c).restart := by
  unfold restartBlocks
  exact (timer_congr (mapInputs_timers _ _) c).trans ((timer_mapTimers _ _ c).trans
    (congrArg Timer.restart (timer_congr ((mapRules_timers _ _).trans (mapQueues_timers _ _)) c)))

theorem restartBlocks_input (e : Fin 2) : s.restartBlocks.input e = (s.input e).restart (s.evPin e) := by
  have before : (((({ s with path := s.path.restart, alert := s.alert.restart } : State).restartQueues.mapRules fun _ x =>
      x.restart).mapTimers fun _ ch => ch.restart)).inputs = s.inputs := by simp [restartQueues]
  unfold restartBlocks
  refine (input_mapInputs _ _ e).trans ?_
  have same : (((({ s with path := s.path.restart, alert := s.alert.restart } : State).restartQueues.mapRules fun _ x =>
      x.restart).mapTimers fun _ ch => ch.restart)).input e = s.input e := congrArg (·[e]) before
  rw [same]

theorem restartBlocks_queue (n : Fin 4) : s.restartBlocks.queue n = { s.queue n with list := [], loss := 0 } := by
  simp [restartBlocks, restartQueues, queue, mapQueues]

/-! ### What RESTART leaves, in the terms of the statement -/

/-- Every block but the queues, the alert controller and the gate. -/
def Restarted (s t : State) : Prop :=
  t.path = { s.path with number := 0, port := .ready, limitTimer := none, expired := none, restartHold := false } ∧
  (∀ r, (t.rule r).hits = 0 ∧ (t.rule r).alerted = false ∧ (t.rule r).defn = (s.rule r).defn ∧
    ((s.rule r).state = .disabled → (t.rule r).state = .disabled) ∧
    ((s.rule r).state ≠ .disabled → (t.rule r).window = 0 ∧ (t.rule r).overQuota = false ∧
      (t.rule r).countdown = (s.rule r).defn.countdownLoad ∧
      (t.rule r).state = if (s.rule r).defn.armSource = .none then .live else .dormant)) ∧
  (∀ c, t.timer c = (s.timer c).restart) ∧ (∀ e, t.input e = (s.input e).restart (s.evPin e)) ∧
  t.timebase = s.timebase ∧ t.store = s.store ∧ t.link.locked = s.link.locked ∧ t.link.code = s.link.code ∧
  t.defaultActions = s.defaultActions ∧ t.unmatched = s.unmatched

/-- The queues emptied and the alert controller quiet. -/
def Emptied (s t : State) : Prop :=
  (∀ n, t.queue n = { s.queue n with list := [], loss := 0 }) ∧ t.alert = s.alert.restart

theorem rule_restarted (x : Rule) : x.restart.hits = 0 ∧ x.restart.alerted = false ∧ x.restart.defn = x.defn ∧
    (x.state = .disabled → x.restart.state = .disabled) ∧
    (x.state ≠ .disabled → x.restart.window = 0 ∧ x.restart.overQuota = false ∧ x.restart.countdown = x.defn.countdownLoad ∧
      x.restart.state = if x.defn.armSource = .none then .live else .dormant) := by
  unfold Rule.restart
  by_cases h : x.isEnabled = true
  · dsimp only
    rw [if_pos h]
    exact ⟨rfl, rfl, rfl, fun hd => absurd hd (Rule.isEnabled_iff.mp h), fun _ => ⟨rfl, rfl, rfl, rfl⟩⟩
  · dsimp only
    rw [if_neg h]
    exact ⟨rfl, rfl, rfl, id, fun he => absurd (Rule.isEnabled_iff.mpr he) h⟩

theorem gateClearHold_gateFrame : GateFrame s s.gateClearHold := by
  unfold gateClearHold
  split
  · exact (GateFrame.gate s _).trans (gateLeaveClosed_gateFrame _)
  · exact .refl s

variable {s}

theorem Restarted.of_gateFrame {t : State} (h : GateFrame s.restartBlocks.settlePending t) (s₀ : State) :
    Restarted s (s₀.endCommand t) := by
  obtain ⟨l, settled, -, locked, code, -⟩ := s.restartBlocks.settlePending_eq
  obtain ⟨path, -, -, timebase, store, defaults, unmatched, -, link⟩ := s.restartBlocks_fields
  rw [settled] at h
  have rules : ∀ r, (s₀.endCommand t).rule r = (s.rule r).restart := fun r =>
    (rule_congr h.rules r).trans (s.restartBlocks_rule r)
  refine ⟨h.path.trans path, fun r => ?_, fun c => (timer_congr h.timers c).trans (s.restartBlocks_timer c), fun e => ?_,
    h.timebase.trans timebase, h.store.trans store, ?_, ?_, h.defaultActions.trans defaults, h.unmatched.trans unmatched⟩
  · rw [rules]
    exact rule_restarted _
  · exact (congrArg (·[e]) h.inputs : t.input e = s.restartBlocks.input e).trans (s.restartBlocks_input e)
  · rw [endCommand_link, h.link, ← link]
    exact locked
  · rw [endCommand_link, h.link, ← link]
    exact code

/-! ### The gate (R163) -/

theorem restartBlocks_emptied (g : Gate) :
    Emptied s (s.endCommand { s.restartBlocks.settlePending with gate := g }) := by
  obtain ⟨l, settled, -⟩ := s.restartBlocks.settlePending_eq
  obtain ⟨-, alert, -⟩ := s.restartBlocks_fields
  rw [settled]
  refine ⟨s.restartBlocks_queue, ?_⟩
  rw [endCommand_alert]
  dsimp only
  rw [alert]
  exact if_pos rfl

end State

end Sys2Proof.Machine
end

section
/-! The release of the service hold by RESTART, and the rows of RESTART (R54, R84, R90, R103, R163, R168, R169, R187). -/

namespace Sys2Proof.Machine

/-! ### The one flag that is set after RESTART (R103, R168, R169, R173) -/

namespace Alert

theorem mask_and_ne_zero (f : Flag) (e : BitVec 23) : (f.mask &&& e != 0) = e.getLsbD f.pos := by
  have pos : f.pos < 23 := by
    cases f <;> simp only [Flag.pos] <;> omega
  have mask : f.mask = BitVec.twoPow 23 f.pos := rfl
  have nonzero : BitVec.twoPow 23 f.pos ≠ 0 := fun h => by
    have bit := congrArg (fun x : BitVec 23 => x.getLsbD f.pos) h
    simp [pos] at bit
  rw [mask, BitVec.and_comm, BitVec.and_twoPow]
  cases e.getLsbD f.pos with
  | false => rfl
  | true => exact bne_iff_ne.mpr nonzero

variable {a : Alert}

theorem restart_flags_or (a : Alert) (m : BitVec 23) : a.restart.flags ||| m = m := BitVec.zero_or

/-- A flag set in the quiet controller, in LEVEL mode or not enabled. -/
theorem restart_setFlag_followed {f : Flag} (h : fld a.config 0 2 ≠ 1 ∨ a.enables.getLsbD f.pos = false) (c : BitVec 16) :
    a.restart.setFlag c f = { a.restart with flags := f.mask, line := a.enables.getLsbD f.pos } := by
  unfold setFlag
  rw [restart_flags_or]
  by_cases hm : fld a.config 0 2 = 1
  · have off := h.resolve_left (not_not.mpr hm)
    have disabled : ¬ ({ a.restart with flags := f.mask } : Alert).flagEnabled f = true := Bool.eq_false_iff.mp off
    rw [off]
    exact (if_pos ((pulseMode_iff _).mpr hm)).trans (if_neg disabled)
  · refine (if_neg (mt (pulseMode_iff _).mp hm)).trans ?_
    rw [← mask_and_ne_zero f a.enables]
    rfl

/-- An enabled flag set in the quiet controller in PULSE mode, with the last tick in its place. -/
theorem restart_setFlag_started {f : Flag} (hm : fld a.config 0 2 = 1) (he : a.enables.getLsbD f.pos = true)
    (hp : a.lastTick = .unplaced ∨ a.lastTick = .taken) (c : BitVec 16) : a.restart.setFlag c f = { a.restart with
      flags := f.mask, pulse := fld a.config 8 8, pulseTap := fld a.config 16 3, line := true } := by
  have still : ({ a.restart with flags := a.restart.flags ||| 1#23 <<< f.pos } : Alert).tickFollows = false := by
    have place : ({ a.restart with flags := a.restart.flags ||| 1#23 <<< f.pos } : Alert).lastTick = a.lastTick := rfl
    unfold tickFollows
    rw [place]
    obtain h | h := hp <;> rw [h] <;> rfl
  rw [setFlag_starts (a := a.restart) hm he c, startPulse_first still rfl, restart_flags_or]
  rfl

end Alert

namespace State

/-- The controller rung by one flag after RESTART. -/
def Rung (k : Nat) (s t : State) : Prop :=
  (fld s.alert.config 0 2 ≠ 1 ∨ s.alert.enables.getLsbD k = false →
    t.alert = { s.alert.restart with flags := 1#23 <<< k, line := s.alert.enables.getLsbD k }) ∧
  (fld s.alert.config 0 2 = 1 → s.alert.enables.getLsbD k = true → s.alert.lastTick = .unplaced ∨ s.alert.lastTick = .taken →
    t.alert = { s.alert.restart with
      flags := 1#23 <<< k, pulse := fld s.alert.config 8 8, pulseTap := fld s.alert.config 16 3, line := true })

theorem rung_of_setFlag {s t : State} {f : Flag} (h : t.alert = s.alert.restart.setFlag s.timebase.tapCount f) :
    Rung f.pos s (s.endCommand t) := by
  refine ⟨fun hs => ?_, fun hm he hp => ?_⟩
  · rw [endCommand_alert, h, Alert.restart_setFlag_followed hs]
    exact if_pos rfl
  · rw [endCommand_alert, h, Alert.restart_setFlag_started hm he hp]
    exact if_pos rfl

/-! ### A record offered to a queue that is empty -/

theorem offer_alert_room {s : State} {n : Fin 4} (h : (s.queue n).reception = .room) (he : (s.queue n).list = []) {b : RecordBody}
    (hb : ∀ a, b ≠ .access a) : (s.offer n b).alert =
      if (s.queue n).notify = 1 then s.alert.setFlag s.timebase.tapCount (.qn n) else s.alert := by
  have before : (s.queue n).available = 0 := by simp [Queue.available, he]
  have complete : (⟨s.nextSerial, s.timebase.timestamp, b⟩ : Record).isPending = false := by
    cases b with
    | access a => exact absurd rfl (hb a)
    | _ => rfl
  have after : ((s.append s.timebase.timestamp n b).queue n).available = 1 := by
    rw [append_queue, if_pos rfl, he]
    simp [Queue.available, complete]
  have notify : ((s.append s.timebase.timestamp n b).queue n).notify = (s.queue n).notify := by
    rw [append_queue, if_pos rfl]
    rfl
  rw [offer, placeIn, placeAt_room h, judgeNotify]
  dsimp only
  rw [before, after, notify]
  by_cases hn : (s.queue n).notify = 1
  · rw [if_pos hn, if_pos (by omega)]
    rfl
  · rw [if_neg hn, if_neg (by omega)]
    rfl

theorem offer_alert_refuse {s : State} {n : Fin 4} (h : (s.queue n).reception = .refuse) (b : RecordBody) :
    (s.offer n b).alert = s.alert.setFlag s.timebase.tapCount (.qo n) := by
  have same : (s.queue n).available = ((s.loseIn n).queue n).available := by
    rw [loseIn_queue, if_pos rfl]
    rfl
  rw [offer, placeIn, placeAt_refuse h, same, judgeNotify_available]
  rfl

/-! ### The gate after RESTART (R163) -/

variable {s : State}

/-- The state of the blocks with this gate. -/
abbrev restartedGate (s : State) (g : Gate) : State := { s.restartBlocks.settlePending with gate := g }

theorem restartBlocks_gate : s.restartBlocks.settlePending.gate = s.gate := by
  obtain ⟨l, settled, -⟩ := s.restartBlocks.settlePending_eq
  rw [settled]
  exact s.restartBlocks_fields.2.2.1

/-- The opening of a gate that no cause holds offers its record to the emptied queue. -/
theorem restart_opens {n : Fin 4} (g : Gate) (k : BitVec 16) :
    let q := s.queue n
    let t := s.endCommand ((s.restartedGate g).offerTo (some n) (.gateOpened k))
    (∀ m, m ≠ n → t.queue m = { s.queue m with list := [], loss := 0 }) ∧
    (q.on = true → 1 ≤ q.depth → t.queue n = { q with
        loss := 0, list := [⟨s.nextSerial, s.timebase.timestamp, .gateOpened k⟩] } ∧
      (q.notify ≠ 1 → t.alert = s.alert.restart) ∧ (q.notify = 1 → Rung n.val s t)) ∧
    (q.on = false → t.queue n = { q with loss := 1, list := [] } ∧ Rung (4 + n.val) s t) := by
  intro q t
  let w := s.restartedGate g
  obtain ⟨l, settled, -⟩ := s.restartBlocks.settlePending_eq
  obtain ⟨-, alert, -, timebase, -, -, -, serial, -⟩ := s.restartBlocks_fields
  have queue : ∀ m, w.queue m = { s.queue m with list := [], loss := 0 } := fun m => by
    have same : w.queue m = s.restartBlocks.queue m := queue_congr (by simp only [w, settled]) m
    rw [same, restartBlocks_queue]
  have quiet : w.alert = s.alert.restart := by simp only [w, settled, alert]
  have clock : w.timebase = s.timebase := by simp only [w, settled, timebase]
  have number : w.nextSerial = s.nextSerial := by simp only [w, settled, serial]
  have taken : ∀ m, t.queue m = (w.offer n (.gateOpened k)).queue m := fun m => queue_congr (endCommand_queues ..) m
  refine ⟨fun m hm => ?_, fun hon hd => ⟨?_, fun hn => ?_, fun hn => ?_⟩, fun hoff => ⟨?_, ?_⟩⟩
  · rw [taken, offer_queue_ne hm, queue]
  · have room : (w.queue n).reception = .room := Queue.reception_room (by rw [queue]; exact hon)
      (by rw [queue]; exact hd)
    rw [taken, offer_queue_room room, queue, clock, number]
    rfl
  · have room : (w.queue n).reception = .room := Queue.reception_room (by rw [queue]; exact hon)
      (by rw [queue]; exact hd)
    have same : (w.offer n (.gateOpened k)).alert = s.alert.restart := by
      rw [offer_alert_room room (by rw [queue]) (b := .gateOpened k) nofun, quiet]
      exact if_neg (by rw [queue]; exact hn)
    have ended : t.alert = (w.offer n (.gateOpened k)).alert.commandEnds s.alert.lastTick := rfl
    rw [ended, same]
    exact if_pos rfl
  · have room : (w.queue n).reception = .room := Queue.reception_room (by rw [queue]; exact hon)
      (by rw [queue]; exact hd)
    have notify : (w.queue n).notify = 1 := by
      rw [queue]
      exact hn
    refine rung_of_setFlag (f := .qn n) ?_
    have ring := offer_alert_room (s := w) room (by rw [queue]) (b := .gateOpened k) nofun
    rw [if_pos notify, quiet, clock] at ring
    exact ring
  · have refused : (w.queue n).reception = .refuse := Queue.reception_off (by rw [queue]; exact hoff)
    rw [taken, offer_queue_refuse refused, queue]
    rfl
  · have refused : (w.queue n).reception = .refuse := Queue.reception_off (by rw [queue]; exact hoff)
    refine rung_of_setFlag (f := .qo n) ?_
    have ring := offer_alert_refuse (s := w) refused (.gateOpened k)
    rw [quiet, clock] at ring
    exact ring

/-- The gate once RESTART has cleared the hold, with what this offers. -/
def Released (s t : State) : Prop :=
  (s.gate.state = .reopening ∨ s.gate.state = .opened ∨ s.gate.pfail = true →
    t.gate = { s.gate with hold := false } ∧ Emptied s t) ∧
  (s.gate.state = .closed → s.gate.pfail = false → s.gate.powerSeen = true → t.gate = { s.gate with
    hold := false, state := .reopening, holdOff := fld s.gate.config 8 8, holdOffTap := fld s.gate.config 16 3,
    tickOwed := false } ∧ Emptied s t) ∧
  (s.gate.state = .closed → s.gate.pfail = false → s.gate.powerSeen = false →
    t.gate = { s.gate with hold := false, state := .opened, holdOff := 0, tickOwed := false } ∧
    (s.gate.recordQueue = none → Emptied s t) ∧
    ∀ n, s.gate.recordQueue = some n →
      let q := s.queue n
      (∀ m, m ≠ n → t.queue m = { s.queue m with list := [], loss := 0 }) ∧
      (q.on = true → 1 ≤ q.depth →
        t.queue n = { q with
          loss := 0, list := [⟨s.nextSerial, s.timebase.timestamp, .gateOpened s.gate.refused⟩] } ∧
        (q.notify ≠ 1 → t.alert = s.alert.restart) ∧ (q.notify = 1 → Rung n.val s t)) ∧
      (q.on = false → t.queue n = { q with loss := 1, list := [] } ∧ Rung (4 + n.val) s t))

/-- RESTART with no drain to end: every block, the gate with and without the hold, and the request status (R187). -/
theorem restartEffect_done (h : s.gate.state ≠ .draining) : let t := s.restartEffect
    Restarted s t ∧ (s.gate.hold = false → Emptied s t ∧ t.gate = s.gate) ∧ (s.gate.hold = true → Released s t) ∧
      t.link.pendingMark = false ∧ t.link.status = if s.link.pendingMark then .accepted else s.link.status := by
  intro t
  let u := s.restartBlocks.settlePending
  have effect : t = s.endCommand u.gateClearHold := restartEffect_eq s h
  have gate : u.gate = s.gate := restartBlocks_gate
  have frame : GateFrame u u.gateClearHold := gateClearHold_gateFrame u
  obtain ⟨l, settled, -, -, -, mark, status⟩ := s.restartBlocks.settlePending_eq
  obtain ⟨-, -, -, -, -, -, -, -, link⟩ := s.restartBlocks_fields
  have done : ∀ g, u.gateClearHold = { u with gate := g } → t.gate = g ∧ Emptied s t := fun g hg => by
    rw [effect, hg]
    exact ⟨rfl, restartBlocks_emptied g⟩
  have answered : t.link = l := by
    rw [effect, endCommand_link, frame.link, show u = _ from settled]
  rw [answered, ← link]
  refine ⟨effect ▸ Restarted.of_gateFrame frame s, fun hh => ?_, fun hh => ⟨fun hs => ?_, fun hs hp hm => ?_, fun hs hp hm => ?_⟩,
    mark, status⟩
  · have kept : u.gateClearHold = u := gateClearHold_of_clear (by rw [gate, hh])
    obtain ⟨left, empty⟩ := done u.gate kept
    exact ⟨empty, left.trans gate⟩
  · have stays := gateClearHold_stays (s := u) (by rw [gate, hh]) (by
      rw [gate]
      obtain hs | hs | hs := hs
      · exact .inl (by rw [hs]; exact nofun)
      · exact .inl (by rw [hs]; exact nofun)
      · exact .inr hs)
    rw [gate] at stays
    exact done _ stays
  · have reopens := gateClearHold_reopens (s := u) (by rw [gate, hh]) (by rw [gate, hs]) (by rw [gate, hp]) (by rw [gate, hm])
    rw [gate] at reopens
    exact done _ reopens
  · let g : Gate := { s.gate with hold := false, state := .opened, powerSeen := false, holdOff := 0, tickOwed := false }
    have opens : u.gateClearHold = (s.restartedGate g).offerTo s.gate.recordQueue (.gateOpened s.gate.refused) := by
      rw [gateClearHold_opens (s := u) (by rw [gate, hh]) (by rw [gate, hs]) (by rw [gate, hp]) (by rw [gate, hm]), gate]
      rfl
    have entered : t.gate = g := by
      rw [effect, opens]
      exact offerTo_gate _ _ _
    refine ⟨entered.trans (by simp only [g, hm]), fun hq => ?_, fun n hq => ?_⟩
    · rw [hq] at opens
      exact (done g opens).2
    · rw [hq] at opens
      rw [effect, opens]
      exact restart_opens g s.gate.refused

end State

end Sys2Proof.Machine
end

section
/-! The rows of RESTART (R54, R178, R187). -/

namespace Sys2Proof.Machine

namespace State

variable {s : State} {left : Nat}

theorem exec_restart (hw : s.AwaitsWord actionAddr left) (ho : s.WritesOpen) : exec .restart s =
    let u := s.setFrame (.data .write (actionAddr + 1) left)
    .next (u.restartOp.2.setStatus u.restartOp.1.1 u.restartOp.1.2) := by
  have row : exec .restart s = whenPowered (State.serviceWrite' actionAddr State.restartOp) s := rfl
  rw [row, whenPowered_on hw.1]
  exact congrArg _ (serviceWrite'_passed _ hw (linkCheck_open ho (by simp)))

/-- With a transaction in flight the hold is set and the answer is BUSY-pending. -/
theorem restartOp_in_flight (h : s.path.phase ≠ .idle) :
    s.restartOp = ((.busy, true), { s with path := { s.path with restartHold := true } }) := if_neg h

theorem restartOp_idle (h : s.path.phase = .idle) : s.restartOp = ((.accepted, false), s.restartEffect) := if_pos h

theorem exec_restartTakesEffect (hp : s.powered = true) (hh : s.path.restartHold = true) (hi : s.path.phase = .idle) :
    exec .restartTakesEffect s = .next s.restartEffect :=
  congrArg Host.Outcome.next ((if_pos hp).trans (if_pos (by rw [hh, hi]; rfl)))

end State

/-- Settles O51. -/
theorem restartTakesEffectInEveryBlock : Obligations.RestartTakesEffectInEveryBlock := by
  refine ⟨fun s left hw ho hp => ?_, ?_⟩
  · rw [State.exec_restart hw ho]
    dsimp only
    rw [State.restartOp_in_flight (s := s.setFrame (.data .write (actionAddr + 1) left)) hp]
    rfl
  · intro blocks quiet emptied rung after released
    refine ⟨fun s left hw ho hi hg => ?_, fun s hp hh hi hg => ?_⟩
    · let u := s.setFrame (.data .write (actionAddr + 1) left)
      have exec := State.exec_restart hw ho
      dsimp only at exec
      rw [State.restartOp_idle (s := u) hi] at exec
      obtain ⟨restarted, still, release, -⟩ := State.restartEffect_done (s := u) hg
      exact ⟨_, exec, fun h => ⟨restarted, still h⟩, fun h => ⟨restarted, release h⟩, rfl, rfl⟩
    · obtain ⟨restarted, still, release, mark, status⟩ := State.restartEffect_done hg
      exact ⟨_, State.exec_restartTakesEffect hp hh hi, fun h => ⟨restarted, still h⟩, fun h => ⟨restarted, release h⟩, mark, status⟩

end Sys2Proof.Machine
end

section
/-! What a tick does to the counts (R104 to R107, R111), and the value that the records of a decision carry (R82, R106). -/

namespace Sys2Proof.Machine

/-! ### The tick of the counts (R104, R107; log 11) -/

namespace Timebase

theorem tick_starting {b : Timebase} (h : b.period = .starting) :
    let k := (fld b.config 12 4).toNat
    let sum := (b.accumulator.toNat + k) % 16 + k
    b.tick = { b with
      timestamp := b.timestamp + 1, tapCount := b.tapCount + 1, accumulator := BitVec.ofNat 4 sum
      period := .running (if 16 ≤ sum then (fld b.config 0 9).toNat + 1 else (fld b.config 0 9).toNat) } := by
  have begun : b.firstBegun = b.beginPeriod := by
    unfold firstBegun
    rw [h]
  have carried : b.beginPeriod.accumulator.toNat = (b.accumulator.toNat + (fld b.config 12 4).toNat) % 16 := BitVec.toNat_ofNat ..
  intro k sum
  have added : b.firstBegun.accumulator.toNat + k = sum := by
    rw [begun, carried]
  rw [← added, begun]
  unfold tick
  rw [begun]
  rfl

theorem tick_begun {b : Timebase} {len : Nat} (h : b.period = .running len) :
    let sum := b.accumulator.toNat + (fld b.config 12 4).toNat
    b.tick = { b with
      timestamp := b.timestamp + 1, tapCount := b.tapCount + 1, accumulator := BitVec.ofNat 4 sum
      period := .running (if 16 ≤ sum then (fld b.config 0 9).toNat + 1 else (fld b.config 0 9).toNat) } := by
  have begun : b.firstBegun = b := by
    unfold firstBegun
    rw [h]
  intro sum
  rw [tick, begun]
  rfl

end Timebase

namespace State

variable {s : State}

/-! ### What a tick leaves unchanged (R105, R111) -/

/-- Beyond the counts a tick touches what its effects touch, those of the last tick included. -/
theorem takeTick_ticked (s : State) : TickFrame { s with timebase := s.timebase.tick } s.takeTick := by
  have settled : TickFrame { s with timebase := s.timebase.tick } { s.settleOwed with timebase := s.settleOwed.timebase.tick } := by
    obtain ⟨_, _, _, _, _, _, _, _, frame⟩ := settleOwed_frame s
    rw [frame]
    exact ⟨_, _, _, _, _, _, _, _, rfl⟩
  exact ((settled.trans (alert_frame _ _).event.tick).trans (handOutTick_frame _)).trans (endCommand_frame _ _).event.tick

theorem exec_tick_running (hp : s.powered = true) (hr : s.timebase.running = true) : exec .tick s = .next s.takeTick :=
  (whenPowered_on hp).trans (congrArg Host.Outcome.next (if_pos hr))

theorem exec_tick_stopped (hr : s.timebase.running = false) : exec .tick s = .next s := by
  have idle : s.tickIfRunning = s := if_neg (Bool.eq_false_iff.mp hr)
  change whenPowered tickIfRunning s = _
  cases hp : s.powered with
  | true => rw [whenPowered_on hp, idle]
  | false => exact whenPowered_off hp

/-- A tick in the middle of a command. -/
theorem takeMeeting_tick_ticked (hp : s.powered = true) (hr : s.timebase.running = true) :
    TickFrame { s with timebase := s.timebase.tick } (s.takeMeeting .tick) := by
  let u : State := { s with alert := s.alert.commandEnds .unplaced }
  have taken : s.takeMeeting .tick = u.takeTick := by
    change u.onPower tickIfRunning = _
    rw [onPower_on (s := u) hp, tickIfRunning, if_pos hr]
  have closed : TickFrame { s with timebase := s.timebase.tick } { u with timebase := u.timebase.tick } :=
    (alert_frame _ _).event.tick
  rw [taken]
  exact closed.trans (takeTick_ticked u)

/-! ### The value that a decision reads (R106) -/

theorem decisionStamp_stopped (h : s.timebase.running = false) (l : List DecisionPart) :
    s.decisionStamp l = s.timebase.timestamp := if_neg (Bool.eq_false_iff.mp h)

/-- The value after the ticks taken before the reading, or before the placement where that comes first. -/
theorem decisionStamp_running (h : s.timebase.running = true) {p : DecisionPart} (hp : p = .read ∨ p = .reserve)
    {l₁ : List DecisionPart} (hread : .read ∉ l₁) (hreserve : .reserve ∉ l₁) (l₂ : List DecisionPart) :
    s.decisionStamp (l₁ ++ p :: l₂) = s.timebase.timestamp + BitVec.ofNat 32 (l₁.count (.meet .tick)) := by
  have passed : ∀ x ∈ l₁, (x != .read && x != .reserve) = true := fun x hx => by
    have notRead : x ≠ .read := fun e => hread (e ▸ hx)
    have notReserve : x ≠ .reserve := fun e => hreserve (e ▸ hx)
    simp [notRead, notReserve]
  have stopped : (p :: l₂).takeWhile (fun x => x != .read && x != .reserve) = [] :=
    List.takeWhile_cons_of_neg (by obtain rfl | rfl := hp <;> exact Bool.false_ne_true)
  rw [decisionStamp, if_pos h, List.takeWhile_append_of_pos passed, stopped, List.append_nil]

theorem decisionStamp_le (s : State) (l : List DecisionPart) :
    ∃ k ≤ l.count (.meet .tick), s.decisionStamp l = s.timebase.timestamp + BitVec.ofNat 32 k := by
  unfold decisionStamp
  split
  · exact ⟨_, (List.takeWhile_prefix _).sublist.count_le _, rfl⟩
  · exact ⟨0, Nat.zero_le _, (BitVec.add_zero _).symm⟩

/-! ### The value that the records of a decision carry (R82, R106) -/

theorem accessStamp_or (s : State) (first : Nat) (read : Word) (vs : List Reservation) :
    s.accessStamp first read vs = read ∨ s.accessStamp first read vs = s.timebase.timestamp := by
  unfold accessStamp
  split
  · exact .inr rfl
  · exact .inl rfl

/-- A record placed since with another value makes the reading come after it. -/
theorem accessStamp_of_newer {first : Nat} {read : Word} {vs : List Reservation} {v : Reservation} (hv : v ∈ vs)
    (hq : (s.queue v.queue).reception ≠ .refuse) {r : Record} (hr : r ∈ (s.queue v.queue).list) (hs : first ≤ r.serial)
    (hne : r.timestamp ≠ read) : s.accessStamp first read vs = s.timebase.timestamp := by
  refine if_pos (List.any_eq_true.mpr ⟨v, hv, Bool.and_eq_true_iff.mpr ⟨bne_iff_ne.mpr hq, ?_⟩⟩)
  exact List.any_eq_true.mpr ⟨r, hr, Bool.and_eq_true_iff.mpr ⟨decide_eq_true hs, bne_iff_ne.mpr hne⟩⟩

theorem accessStamp_of_none_newer {first : Nat} {read : Word} {vs : List Reservation}
    (h : ∀ v ∈ vs, ∀ r ∈ (s.queue v.queue).list, first ≤ r.serial → r.timestamp = read) : s.accessStamp first read vs = read := by
  refine if_neg fun newer => ?_
  obtain ⟨v, hv, reach⟩ := List.any_eq_true.mp newer
  obtain ⟨r, hr, other⟩ := List.any_eq_true.mp (Bool.and_eq_true_iff.mp reach).2
  obtain ⟨hs, hne⟩ := Bool.and_eq_true_iff.mp other
  exact bne_iff_ne.mp hne (h v hv r hr (of_decide_eq_true hs))

/-- Where the records carry an earlier value than the counter has, nothing in their way carries another. -/
theorem timestamp_of_accessStamp_ne {first : Nat} {read : Word} {vs : List Reservation}
    (h : s.accessStamp first read vs ≠ s.timebase.timestamp) {v : Reservation} (hv : v ∈ vs)
    (hq : (s.queue v.queue).reception ≠ .refuse) {r : Record} (hr : r ∈ (s.queue v.queue).list) (hs : first ≤ r.serial) :
    r.timestamp = s.accessStamp first read vs := by
  rw [(accessStamp_or s first read vs).resolve_right h]
  by_contra hne
  exact h (accessStamp_of_newer hv hq hr hs hne)

end State

end Sys2Proof.Machine
end

section
/-! A tick among the parts of a decision (R82, R106; log 26), and the rows of the tick (R104 to R107, R111). -/

namespace Sys2Proof.Machine

namespace State

variable {w : Word} {S : Word → Prop} {L : Fin 4 → List Record}

/-! ### What a decision places, whatever value its records carry -/

theorem hitRule_stamped (s : State) (r : Fin 24) : Keeps (Stamped w S L) s (s.hitRule r) := by
  unfold hitRule
  dsimp only
  split <;> split <;> exact .of_same rfl rfl

theorem consulted_stamped (v : Verdict) (s : State) : Keeps (Stamped w S L) s (s.consulted v) :=
  .of_same (consulted_frame v s).timebase (consulted_queues v s)

theorem placeAll_stamped {x : Word} (hx : S x) (t : Txn) (before : Option Word) (vs : List Reservation) (p : State × Bool) :
    Keeps (Stamped w S L) p.1 (placeAll t before x vs p).1 := by
  induction vs generalizing p with
  | nil => exact id
  | cons v vs ih => exact fun h => ih _ (h.placeAt hx v.queue (v.record t before))

/-- The records that stood are complete, so that the placement completes its own only. -/
theorem reserve_stamped {x : Word} (hx : S x) (hw : S w) (hL : ∀ n, ∀ r ∈ L n, r.isPending = false) (t : Txn) (before : Option Word)
    (sub : Bool) (a : Action) (d : Word) (vs : List Reservation) (k : Nat) (s : State) :
    Keeps (Stamped w S L) s (s.reserve t before sub a d vs k x).1 := fun h => by
  have stamp : S (s.accessStamp k x vs) := by
    obtain e | e := s.accessStamp_or k x vs
    · rwa [e]
    · rwa [e, h.1]
  have placed := placeAll_stamped stamp t before vs (s, false) h
  unfold reserve
  dsimp only
  split
  · exact placed
  · exact consulted_stamped _ _ (placed.completeAll (fun n r hr => by rwa [completeRecord_done (hL n r hr)]) _)

theorem carryOut_stamped (t : Txn) (v : Verdict) (s : State) : Keeps (Stamped w S L) s (s.carryOut t v) := by
  obtain ⟨_, _, carried⟩ := carryOut_eq t v s
  rw [carried]
  exact .of_same rfl rfl

theorem afterDecision_stamped (c : Changes) (s : State) : Keeps (Stamped w S L) s (s.afterDecision c) := by
  rw [afterDecision_rulesOnly]
  exact .of_same rfl rfl

/-! ### The parts of a decision, with ticks among them -/

/-- Power is on and the timebase runs, and the records are as `Stamped` says. -/
def Counting (w : Word) (S : Word → Prop) (L : Fin 4 → List Record) (s : State) : Prop :=
  s.powered = true ∧ s.timebase.running = true ∧ Stamped w S L s

theorem Counting.of_frame {s t : State} (h : Counting w S L s) (f : TickFrame s t) (ht : Stamped w S L t) : Counting w S L t :=
  ⟨f.powered.trans h.1, by rw [f.timebase]; exact h.2.1, ht⟩

theorem Counting.tick {s : State} (h : Counting w S L s) (hw : S w) (hw' : S (w + 1)) : Counting (w + 1) S L (s.takeMeeting .tick) := by
  obtain ⟨powered, running, stamped⟩ := h
  have ticked := takeMeeting_tick_ticked powered running
  have counted : (s.takeMeeting .tick).timebase.timestamp = w + 1 := by
    rw [ticked.timebase, ← stamped.1]
    rfl
  have records := (takeMeeting_tick_stamped hw hw' stamped).elim And.right And.right
  exact ⟨ticked.powered.trans powered, by rw [ticked.timebase]; exact (Timebase.tick_running _).trans running, counted, records⟩

/-- The counter advances by the ticks among the parts, and what they place carries a value that it has meanwhile. -/
theorem takeDecisionParts_counting {reserve : State → State × Verdict} {l : List DecisionPart} (hl : ∀ m, .meet m ∈ l → m = .tick)
    (hS : ∀ k ≤ l.count (.meet .tick), S (w + BitVec.ofNat 32 k))
    (hr : ∀ (v : Word) (s : State), S v → Counting v S L s → Counting v S L (reserve s).1) {q : State × Verdict}
    (h : Counting w S L q.1) :
    Counting (w + BitVec.ofNat 32 (l.count (.meet .tick))) S L (takeDecisionParts reserve l q).1 := by
  have hw : S w := by
    have now := hS 0 (Nat.zero_le _)
    rwa [BitVec.add_zero] at now
  induction l generalizing w q with
  | nil => exact (BitVec.add_zero w).symm ▸ h
  | cons p ps ih =>
    have rest := fun m hm => hl m (List.mem_cons_of_mem p hm)
    have other : ∀ q' : State × Verdict, p ≠ .meet .tick → Counting w S L q'.1 →
        Counting (w + BitVec.ofNat 32 ((p :: ps).count (.meet .tick))) S L (takeDecisionParts reserve ps q').1 := fun q' hp h' => by
      rw [List.count_cons_of_ne hp] at hS ⊢
      exact ih rest hS h' hw
    cases p with
    | reserve => exact other _ nofun (hr w q.1 hw h)
    | read => exact other q nofun h
    | trigger c =>
      exact other (q.1.triggerTimer c, q.2) nofun
        (h.of_frame (triggerTimer_frame c q.1).tick ((tickClosed_stamped hw).triggerTimer q.1 c h.2.2))
    | meet m =>
      obtain rfl := hl m List.mem_cons_self
      rw [List.count_cons_self] at hS ⊢
      have step : ∀ k, w + BitVec.ofNat 32 (k + 1) = w + 1 + BitVec.ofNat 32 k := fun k => by
        rw [BitVec.add_assoc, BitVec.ofNat_add, BitVec.add_comm (BitVec.ofNat 32 k)]
        rfl
      have hw' : S (w + 1) := hS 1 (by omega)
      rw [step]
      exact ih (q := (q.1.takeMeeting .tick, q.2)) rest (fun k hk => by rw [← step]; exact hS (k + 1) (by omega)) (h.tick hw hw') hw'

theorem partsBegin_counting {s : State} (hw : S w) (h : Counting w S L s) (t : Txn) (before : Option Word) (quiet : List (Fin 8)) :
    Counting w S L (s.partsBegin t before quiet) := by
  have refl : ∀ u : State, Keeps (Counting w S L) u u := fun _ => id
  have trans : ∀ {s t u : State}, Keeps (Counting w S L) s t → Keeps (Counting w S L) t u → Keeps (Counting w S L) s u :=
    fun h h' => h' ∘ h
  have hits : Keeps (Counting w S L) s ((s.hitsOf t before).foldl hitRule s) :=
    foldl_frame refl trans (fun u r h => h.of_frame (hitRule_frame u r).tick (hitRule_stamped u r h.2.2)) _ s
  have triggers : ∀ u : State, Keeps (Counting w S L) u (quiet.foldl (fun s c => s.triggerTimer c) u) := fun u =>
    foldl_frame refl trans
      (fun u c h => h.of_frame (triggerTimer_frame c u).tick ((tickClosed_stamped hw).triggerTimer u c h.2.2)) _ u
  exact triggers _ (hits h)

/-- Where a rule is hit, the tick named is one of the parts, and nothing else meets them. -/
theorem partsOrder_ticked {t : Txn} (hb : t.between = [.inside .tick]) (before : Option Word) (s : State) :
    (∀ m, .meet m ∈ s.partsOrder t before (s.metInside t before) → m = .tick) ∧
      (s.partsOrder t before (s.metInside t before)).count (.meet .tick) = if s.hitsOf t before = [] then 0 else 1 := by
  have named : s.metInside t before = if s.hitsOf t before = [] then [] else [.tick] := by
    simp only [metInside, hb, List.isEmpty_iff]
    rfl
  have perm : (s.partsOrder t before (s.metInside t before)).Perm (s.decisionParts (s.metInside t before) (s.hitTriggers t before)) :=
    orderParts_perm _ _ _
  rw [perm.count_eq]
  simp only [perm.mem_iff]
  rw [named]
  split
  · refine ⟨fun m hm => ?_, List.count_eq_zero.mpr fun hm => ?_⟩ <;> simp [decisionParts] at hm
  · have triggers : ((s.hitTriggers t before).map DecisionPart.trigger).count (.meet .tick) = 0 := List.count_eq_zero.mpr (by simp)
    exact ⟨fun m hm => by simpa [decisionParts] using hm, by simp [decisionParts, triggers]⟩

/-- Where the decision hits a rule, the tick named to fall inside it is taken once. -/
theorem decision_counting {t : Txn} (hb : t.between = [.inside .tick]) (before : Option Word) (sub : Bool) {s : State}
    (hp : s.powered = true) (hr : s.timebase.running = true) (hn : s.NonePending) :
    Counting (if s.hitsOf t before = [] then s.timebase.timestamp else s.timebase.timestamp + 1)
      (OneApart s.timebase.timestamp) (fun n => (s.queue n).list) (s.decision t before sub).state := by
  let order := s.partsOrder t before (s.metInside t before)
  obtain ⟨ticks, count⟩ := partsOrder_ticked hb before s
  have values : ∀ k ≤ order.count (.meet .tick), OneApart s.timebase.timestamp (s.timebase.timestamp + BitVec.ofNat 32 k) :=
    fun k hk => by
      have once : k ≤ 1 := hk.trans (by rw [count]; split <;> omega)
      obtain rfl | rfl : k = 0 ∨ k = 1 := by omega
      · exact .inl (BitVec.add_zero _)
      · exact .inr rfl
  have stamp : OneApart s.timebase.timestamp (s.decisionStamp order) := by
    obtain ⟨k, hk, e⟩ := s.decisionStamp_le order
    rw [e]
    exact values k hk
  have begun := partsBegin_counting (S := OneApart s.timebase.timestamp) (.inl rfl) ⟨hp, hr, Stamped.start s _⟩ t before
    (s.quietTriggers t before (s.metInside t before))
  have done := takeDecisionParts_counting (reserve := s.placement t before sub (s.decisionStamp order)) ticks values
    (fun v u hv hu => hu.of_frame (reserve_frame ..)
      (reserve_stamped stamp hv (fun n => (pendingCount_eq_zero_iff _).mp (hn n)) _ _ _ _ _ _ _ u hu.2.2))
    (q := (_, Verdict.forward)) begun
  rw [count] at done
  rw [decision_eq_partsTaken]
  split
  next e =>
    rw [if_pos e, BitVec.add_zero] at done
    exact done
  next e =>
    rw [if_neg e] at done
    exact done

end State

/-- A request whose decision a tick is named to meet. -/
theorem exec_upstreamRequest_ticked {s : State} {q : Request} (hq : q.wf = true) (hh : s.path.held = none) (h : s.NoHold)
    (hn : s.NonePending) (hrun : s.timebase.running = true)
    (hr : (captureRequest (s.path.number + 1) q).kind = .read → s.gate.state ≠ .draining)
    (hw : (captureRequest (s.path.number + 1) q).kind = .write → s.gate.state = .opened)
    (hp : s.needsPreread (captureRequest (s.path.number + 1) q) = false)
    (hb : (captureRequest (s.path.number + 1) q).between = [.inside .tick]) :
    let x := captureRequest (s.path.number + 1) q
    ∃ t, exec (.upstreamRequest q) s = .next t ∧
      State.Stamped (if (s.scan x x.data 0 allRules).1 = [] then s.timebase.timestamp else s.timebase.timestamp + 1)
        (State.OneApart s.timebase.timestamp) (fun n => (s.queue n).list) t := by
  intro x
  let u := s.presented
  have hits : u.hitsOf x none = (s.scan x x.data 0 allRules).1 :=
    congrArg Prod.fst (State.scan_congr (s := s) (u := u) rfl x x.data 0 allRules)
  have decided := (State.decision_counting (s := u) hb none false h.1 hrun hn).2.2
  rw [hits] at decided
  refine ⟨_, exec_upstreamRequest_decided hq hh h hr hw hp, ?_⟩
  rw [State.thenChanges_decided, hb]
  refine State.afterDecision_stamped _ _ ?_
  rw [show ∀ v : State, v.meetAll [.inside .tick] = v from fun _ => rfl, ite_self]
  exact State.Stamped.of_same (by rfl) (by rfl) (State.carryOut_stamped x _ _ decided)

/-- Settles O32. -/
theorem tickAdvancesTheCounts : Obligations.TickAdvancesTheCounts := by
  refine ⟨fun s p l₁ l₂ hr hp hread hreserve => State.decisionStamp_running hr hp hread hreserve l₂,
    fun s l hr => State.decisionStamp_stopped hr l,
    fun s first read vs => ⟨s.accessStamp_or first read vs,
      fun hne v hv hq r hr hs => State.timestamp_of_accessStamp_ne hne hv hq hr hs, State.accessStamp_of_none_newer⟩,
    fun s hp hr => ?_, fun s ms ts order h => exists_key_of_perm _ order 0 h, ?_, fun s hp hr hs => ?_, fun s len hp hr hs => ?_,
    fun s hr => State.exec_tick_stopped hr⟩
  · rw [(State.takeMeeting_tick_ticked hp hr).timebase]
    rfl
  · intro s q hq h hh hn hrun x hr hw hp hb
    obtain ⟨t, exec, timestamp, records⟩ := exec_upstreamRequest_ticked hq hh h hn hrun hr hw hp hb
    exact ⟨t, exec, timestamp, records⟩
  · exact ⟨_, State.exec_tick_running hp hr, (State.takeTick_ticked s).timebase.trans (Timebase.tick_starting hs)⟩
  · have ticked := State.takeTick_ticked s
    exact ⟨_, State.exec_tick_running hp hr, ticked.timebase.trans (Timebase.tick_begun hs), ticked.path, ticked.link, ticked.store,
      ticked.pins, ticked.copy, ticked.defaultActions, ticked.unmatched⟩

end Sys2Proof.Machine
end
